-- ==== Sys2Proof/Word.lean ====
section
/-!
DEFINITION. The word types of the line and of line time.

The spec counts plant quantities as integers with stated ranges: those are `Nat` or `Int` in the model. What the
spec treats as bits (a byte of a telegram, a word of a table, a count stated modulo a power of two) is a bit vector.
-/

namespace Sys2Proof

/-- One byte of a telegram (R146, R158); also an 8-bit number that wraps (a sequence number, a lot tag). -/
abbrev Byte := BitVec 8

/-- One 2-byte word of a staged table (R160), or a check (R158). -/
abbrev Word := BitVec 16

/-- A number kept modulo 2^32: the cycle count (R33), a belt position (R102), a total (R116), a tonnage. -/
abbrev Long := BitVec 32

end Sys2Proof
end

