-- ==== Sys2Proof/Syntax.lean ====
section
/-!
DEFINITION. The commands the part takes: one constructor for each row of `spec/opcode_table.json`.

A row that is a telegram carries the telegram's bytes as they stand on the line: destination, source, function where
the row does not fix it, and payload. The arguments of a request are coded in its payload (R172), so that a command
can hold every payload the line can carry: short ones, long ones and values out of range.
-/

namespace Sys2Proof

/-- The two line ports: M faces the master, F faces the field (Chapter 8). -/
inductive PortId
  | m
  | f
deriving DecidableEq, Repr

/-- The four telegram kinds of Table 8-10. -/
inductive Kind
  | cycle
  | request
  | reply
  | stream
deriving DecidableEq, Repr

/-- One command: one row of `spec/opcode_table.json`, with the row's operands. -/
inductive Instr
  /-- POWER_ON_RESET: RESET_N, with the ADDR and RATE straps it reads and the level of TRIP_IN at its end (R36, R144, R157). -/
  | powerOnReset (addr : BitVec 7) (rate : BitVec 3) (tripLow : Bool)
  /-- TRIP_IN_CHANGE: the TRIP_IN pin is now low, or high (R133). -/
  | tripInChange (low : Bool)
  /-- CYCLE_MARKER: a CYCLE telegram delivered by port M (R24). -/
  | cycleMarker (dst src fn : Byte) (payload : List Byte)
  /-- SUPERVISION_EXPIRY: the marker supervision timer reaches 0 (R25). -/
  | supervisionExpiry
  /-- FIELD_REPLY: a REPLY delivered by port F (R15). -/
  | fieldReply (dst src fn : Byte) (payload : List Byte)
  /-- M_TELEGRAM_FORWARD: a telegram delivered by port M that is not consumed (R153). -/
  | mTelegramForward (kind : Kind) (dst src fn : Byte) (payload : List Byte)
  /-- F_TELEGRAM_FORWARD: a REQUEST, CYCLE or STREAM telegram delivered by port F (R154). -/
  | fTelegramForward (kind : Kind) (dst src fn : Byte) (payload : List Byte)
  /-- STREAM_TELEGRAM: a STREAM telegram delivered by port M (R181). -/
  | streamTelegram (dst src fn : Byte) (payload : List Byte)
  /-- PARITY_ERROR: a character with odd parity at a port (R145). -/
  | parityError (p : PortId)
  /-- FRAMING_ERROR: a character whose stop bit is at space at a port (R145). -/
  | framingError (p : PortId)
  /-- KIND_ERROR: a first byte that is not a kind code (R146). -/
  | kindError (p : PortId)
  /-- LENGTH_ERROR: a length byte above 40 (R146). -/
  | lengthError (p : PortId)
  /-- CHECK_ERROR: a complete telegram whose CRC disagrees with its check (R147). -/
  | checkError (p : PortId)
  /-- FRAGMENT: an idle gap of more than two character times inside a telegram (R148). -/
  | fragment (p : PortId)
  /-- HUNT_IDLE: the line has stood at mark for more than two character times (R146). -/
  | huntIdle (p : PortId)
  /-- BREAK: a break is detected on a port (R149). -/
  | lineBreak (p : PortId)
  /-- BREAK_END: the line returns to mark after a break (R149). -/
  | breakEnd (p : PortId)
  /-- BREAK_REPEAT: port F's transmitter begins a pending break repeat (R150). -/
  | breakRepeat
  /-- BREAK_REPEAT_END: the repeated break ends after two character times (R150). -/
  | breakRepeatEnd
  /-- TRANSMIT_START: a port's transmitter begins sending the head of its queue (R152). -/
  | transmitStart (p : PortId)
  /-- TRANSMIT_COMPLETE: the last character of a telegram is sent (R151). -/
  | transmitComplete (p : PortId)
  /-- STATUS_POLL (R188). -/
  | statusPoll (dst src : Byte) (payload : List Byte)
  /-- READ_CAUSES (R189). -/
  | readCauses (dst src : Byte) (payload : List Byte)
  /-- READ_RECORD: kind, index, qualifier, page (R179). -/
  | readRecord (dst src : Byte) (payload : List Byte)
  /-- WRITE_CRUSHER: k and the parameters of Table 3-2 (R38). -/
  | writeCrusher (dst src : Byte) (payload : List Byte)
  /-- WRITE_FEEDER: j, slewUp, slewDown, minRun, staleCap (R80). -/
  | writeFeeder (dst src : Byte) (payload : List Byte)
  /-- WRITE_LINE: the parameters of Table 10-2 (R175). -/
  | writeLine (dst src : Byte) (payload : List Byte)
  /-- SET_TARGET: k, css (R47). -/
  | setTarget (dst src : Byte) (payload : List Byte)
  /-- CRUSHER_ENABLE: k (R43). -/
  | crusherEnable (dst src : Byte) (payload : List Byte)
  /-- CRUSHER_DISABLE: k (R44). -/
  | crusherDisable (dst src : Byte) (payload : List Byte)
  /-- FAULT_CLEAR: k (R46). -/
  | faultClear (dst src : Byte) (payload : List Byte)
  /-- WEAR_RESET: k (R59). -/
  | wearReset (dst src : Byte) (payload : List Byte)
  /-- LINE_START (R129). -/
  | lineStart (dst src : Byte) (payload : List Byte)
  /-- LINE_STOP (R130). -/
  | lineStop (dst src : Byte) (payload : List Byte)
  /-- TRIP_RELEASE (R136). -/
  | tripRelease (dst src : Byte) (payload : List Byte)
  /-- REJECT_LOT: tag (R114). -/
  | rejectLot (dst src : Byte) (payload : List Byte)
  /-- LOAD_OPEN: bank, startIndex (R180). -/
  | loadOpen (dst src : Byte) (payload : List Byte)
  /-- COMMIT: bank (R183). -/
  | commit (dst src : Byte) (payload : List Byte)
  /-- DRY_RUN: setting (R176). -/
  | dryRun (dst src : Byte) (payload : List Byte)
  /-- DEVICE_CLEAR (R177). -/
  | deviceClear (dst src : Byte) (payload : List Byte)
  /-- WARM_RESTART (R178). -/
  | warmRestart (dst src : Byte) (payload : List Byte)
  /-- ROLL_CALL (R191). -/
  | rollCall (dst src : Byte) (payload : List Byte)
  /-- UNKNOWN_FUNCTION: a request whose function names no request (R172). -/
  | unknownFunction (dst src fn : Byte) (payload : List Byte)
  /-- GOOD_CHARACTER: a good character at a port (R146). -/
  | goodCharacter (p : PortId) (byte : Byte)
deriving DecidableEq, Repr

end Sys2Proof
end

