-- ==== Sys2Proof/Decode.lean ====
section
/-!
DEFINITION. Decoding a word of the opcode table. No row of `spec/opcode_table.json` gives bits, so that no word spells
a command. The bytes that spell a telegram on the line are read by `Machine.takeCharacter` (R146), and the codes of the
telegram formats by the decoders of Machine/Operands.lean.
-/

namespace Sys2Proof

/-- The command a word of the table spells: none, since no row of the table gives bits. -/
def decodeTableWord (_nbits _w : Nat) : Option Instr := none

end Sys2Proof
end

