-- ==== Sys2Proof/Config.lean ====
section
/-!
DEFINITION. The free values: what the spec leaves open. Each is a constant with no body, so nothing in Lean can
evaluate it or prove a value of it; it is applied to the model's own counter `State.freeCount`, which every use
advances, so that two uses need not agree.
-/

namespace Sys2Proof.Config

/-- The order in which blocks that the spec leaves unordered take one event (R13, R19, R28, R34): a number that
`Machine.shuffle` reads as a permutation. Assumption log 7. -/
opaque freeOrder : Nat → Nat

/-- The dry-run setting taken from a DRY_RUN argument that codes neither OFF nor ON (R176 states no result there).
Assumption log 10. -/
opaque freeSetting : Nat → Bool

/-- Whether a reply that waits as lock is lost has come together with the loss, so that its onset samples are taken after
it (R76). Assumption log 33. -/
opaque freeMeeting : Nat → Bool

end Sys2Proof.Config
end

