-- ==== Sys2Proof/Machine/State.lean ====
section
/-!
DEFINITION. The state of the part: every register, queue, table, account, counter and pin of Table 0-2 and of the
chapters, as plain data, and the queue of commands that wait. INVENTORY.md lists each with its rule and reset value.
-/

namespace Sys2Proof.Machine

/-! ### Station table (Chapter 1) -/

/-- One entry of a bank of the station table, each field as the words of Table 8-17 hold it (R1, R2, R160). An offset
of 0xFF is absent. The rules read the fields through `Entry.role?`, `Entry.mode?` and the like (Machine/Ops.lean). -/
structure Entry where
  address : Byte
  roleKind : Byte
  roleInst : Byte
  mode : Byte
  readOffset : Byte
  writeOffset : Byte
  gain : Word
  offset : Word
  freshLimit : Byte
deriving DecidableEq, Repr

/-- The entry that eight words of 0 encode (R1): unused, since its address is 0. -/
def Entry.zero : Entry :=
  { address := 0, roleKind := 0, roleInst := 0, mode := 0, readOffset := 0, writeOffset := 0, gain := 0, offset := 0,
    freshLimit := 0 }

/-- The roles of Table 1-2. The instance of a crusher or feeder role names the crusher or feeder. -/
inductive Role
  | power (k : Fin 4)
  | gap (k : Fin 4)
  | level (k : Fin 4)
  | pressure (k : Fin 4)
  | actuator (k : Fin 4)
  | feederDrive (j : Fin 4)
  | feederTotal (j : Fin 4)
  | beltScale
  | beltTravel
  | metal
  | binLevel
  | diverter
  | tripUnit
deriving DecidableEq, Repr

/-- The modes of an entry (R2). -/
inductive Mode
  | observe
  | pass
  | govern
  | clamp
deriving DecidableEq, Repr

/-! ### Observed values (Chapter 1) -/

/-- The results an actuator reports (Table 8-14). -/
inductive ActResult
  | idle
  | busy
  | done
  | strokeEnd
  | fault
deriving DecidableEq, Repr

/-- The actuator status of Table 1-5. -/
structure ActStatus where
  lastSeq : Byte
  result : ActResult
  reliefOpen : Bool
deriving DecidableEq, Repr

/-- The diverter's command and confirm (Table 8-15). -/
inductive Divert
  | pass
  | reject
deriving DecidableEq, Repr

/-- The value of a record, in the form its role type gives it (Table 1-5). -/
inductive Value
  /-- Engineering value of an input scalar. -/
  | scalar (v : Option Nat)
  /-- lastRaw and the baseline flag of an input counter. -/
  | counter (lastRaw : Option Nat) (baseline : Bool)
  /-- Actuator status. -/
  | actuator (v : Option ActStatus)
  /-- Diverter confirm. -/
  | confirm (v : Option Divert)
  /-- Trip word, bit n for trip line n. -/
  | tripWord (v : Option Byte)
  /-- The record of a FEEDER_DRIVE entry, which holds no value (R14). -/
  | nothing
deriving DecidableEq, Repr

/-- One record of the observed-value store (R14). -/
structure Record where
  fresh : Bool
  arrival : Option Long
  value : Value
deriving DecidableEq, Repr

/-! ### Cycle tracker (Chapter 2) -/

/-- lockState (Table 2-1). -/
inductive LockState
  | search
  | locked
deriving DecidableEq, Repr

/-- The cycle tracker (Table 2-1). `supervision` is the remaining time in ms, or none while the timer is stopped. -/
structure Tracker where
  lockState : LockState
  runCount : Nat
  expected : Option Byte
  period : Option Nat
  supervision : Option Nat
  slipRun : Nat
  cycleCount : Long
  invalidMarkers : Nat
  slips : Nat
  lockLosses : Nat
deriving DecidableEq, Repr

/-- The tracker after power-on reset (R36). -/
def Tracker.reset : Tracker :=
  { lockState := .search, runCount := 0, expected := none, period := none, supervision := none, slipRun := 0,
    cycleCount := 0, invalidMarkers := 0, slips := 0, lockLosses := 0 }

/-! ### Crusher contexts (Chapters 3 and 4) -/

/-- The states of Table 3-3. -/
inductive CrusherState
  | absent
  | standby
  | run
  | move
  | relief
  | recover
  | fault
deriving DecidableEq, Repr

/-- Why a move was made (Table 3-5). -/
inductive MoveCause
  | target
  | wear
  | recovery
deriving DecidableEq, Repr

/-- The progress of a move (Table 3-5). -/
inductive MovePhase
  | waiting
  | issued
  | active
deriving DecidableEq, Repr

/-- The move record (Table 3-5); `seq` and `step` are absent until issue. -/
structure Move where
  seq : Option Byte
  step : Option Int
  cause : MoveCause
  phase : MovePhase
  elapsed : Nat
deriving DecidableEq, Repr

/-- The phases of a relief record (Table 4-1). -/
inductive ReliefPhase
  | opened
  | cleared
deriving DecidableEq, Repr

/-- The relief record (Table 4-1). -/
structure Relief where
  phase : ReliefPhase
  reliefCount : Nat
  clearRun : Nat
  onsetCycle : Long
deriving DecidableEq, Repr

/-- The kinds of actuator command (R39, Table 8-13). -/
inductive CommandKind
  | hold
  | adjust
  | stop
deriving DecidableEq, Repr

/-- The actuator command of a context (Table 3-1). -/
structure Command where
  kind : CommandKind
  seq : Byte
  step : Int
deriving DecidableEq, Repr

/-- The crusher parameters of Table 3-2. -/
structure CrusherParams where
  cssMin : Nat
  cssMax : Nat
  deadband : Nat
  stepMax : Nat
  settleCycles : Nat
  moveTimeout : Nat
  moveCap : Nat
  moveLoadMax : Nat
  recoverCap : Nat
  reliefPressure : Nat
  reliefClear : Nat
  reliefClearCount : Nat
  reliefLimit : Nat
  linerLimit : Nat
  ratedPower : Nat
  loadCurve : Option (Fin 8)
  levelTarget : Nat
  levelGain : Nat
deriving DecidableEq, Repr

/-- The defaults of Table 3-2. -/
def CrusherParams.defaults : CrusherParams :=
  { cssMin := 50, cssMax := 2500, deadband := 5, stepMax := 20, settleCycles := 20, moveTimeout := 3000,
    moveCap := 1000, moveLoadMax := 2000, recoverCap := 500, reliefPressure := 2500, reliefClear := 1800,
    reliefClearCount := 4, reliefLimit := 3, linerLimit := 65535, ratedPower := 1000, loadCurve := none,
    levelTarget := 600, levelGain := 0 }

/-- One crusher context (Tables 3-1 and 3-2). -/
structure Crusher where
  state : CrusherState
  cssTarget : Nat
  targetSettled : Bool
  settleCount : Nat
  wear : Nat
  closeBlocked : Bool
  moveSeq : Byte
  moveRec : Option Move
  reliefRec : Option Relief
  command : Command
  proposedStep : Option Int
  params : CrusherParams
deriving DecidableEq, Repr

/-- A crusher context after power-on reset (R63, R78). -/
def Crusher.reset : Crusher :=
  { state := .absent, cssTarget := 1000, targetSettled := false, settleCount := 0, wear := 0, closeBlocked := false,
    moveSeq := 0, moveRec := none, reliefRec := none, command := { kind := .hold, seq := 0, step := 0 },
    proposedStep := none, params := CrusherParams.defaults }

/-! ### Feeder governors and curves (Chapter 5) -/

/-- The row of Table 5-3 that gave D4 (Table 5-4). -/
inductive CapBy
  | none
  | lineMode
  | stopping
  | crusherState
  | moveCap
  | recoverCap
deriving DecidableEq, Repr

/-- The stage record (Table 5-4). -/
structure Stage where
  cycle : Long
  stale : Bool
  load : Option Nat
  curveDemand : Option Nat
  correction : Option Int
  corrected : Nat
  fill : Option Nat
  binDemand : Nat
  capped : Nat
  capBy : CapBy
  elapsed : Nat
  slewed : Nat
deriving DecidableEq, Repr

/-- One feeder record (Table 5-1). -/
structure Feeder where
  output : Nat
  slewUp : Nat
  slewDown : Nat
  minRun : Nat
  staleCap : Nat
  lastComputeCycle : Long
  driveValue : Option Nat
  stage : Option Stage
deriving DecidableEq, Repr

/-- A feeder governor after power-on reset (R100, Table 5-2). -/
def Feeder.reset : Feeder :=
  { output := 0, slewUp := 10, slewDown := 50, minRun := 100, staleCap := 0, lastComputeCycle := 0,
    driveValue := none, stage := none }

/-- A point of an active curve (R95). -/
structure Point where
  x : Nat
  y : Nat
deriving DecidableEq, Repr

/-- A curve in the active bank: its points; a curve with none is empty (R95). -/
abbrev Curve := List Point

/-- A curve in the staged bank: the 33 words of Table 8-18, as loaded. -/
abbrev StagedCurve := Vector Word 33

/-! ### Lot tracker and bin account (Chapter 6) -/

/-- The states of a lot (Table 6-2). -/
inductive LotState
  | opened
  | riding
  | passing
deriving DecidableEq, Repr

/-- What first marked a lot for rejection (Table 6-2). -/
inductive RejectSource
  | detector
  | master
deriving DecidableEq, Repr

/-- One lot (Table 6-2). -/
structure Lot where
  tag : Byte
  state : LotState
  tonnage : Long
  startPos : Long
  endPos : Option Long
  reject : Bool
  rejectSource : Option RejectSource
  extended : Bool
deriving DecidableEq, Repr

/-- The lot tracker and bin account (Table 6-1) with the lot table, oldest lot first. -/
structure LotTracker where
  table : List Lot
  position : Long
  tagCounter : Byte
  inventory : Nat
  weighedTotal : Long
  creditedTotal : Long
  rejectedTotal : Long
  drawnTotal : Long
  divertCommand : Divert
  mismatchCount : Nat
  mismatch : Bool
  discardedIncrements : Nat
  mergedIncrements : Nat
  reverseTravels : Nat
  unattributedHits : Nat
deriving DecidableEq, Repr

/-- The lot tracker and bin account after power-on reset (R126). -/
def LotTracker.reset : LotTracker :=
  { table := [], position := 0, tagCounter := 0, inventory := 0, weighedTotal := 0, creditedTotal := 0,
    rejectedTotal := 0, drawnTotal := 0, divertCommand := .pass, mismatchCount := 0, mismatch := false,
    discardedIncrements := 0, mergedIncrements := 0, reverseTravels := 0, unattributedHits := 0 }

/-! ### Line mode controller (Chapter 7) -/

/-- The line modes (Table 7-1). -/
inductive LineMode
  | idle
  | ready
  | run
  | stopping
  | stopped
  | tripped
deriving DecidableEq, Repr

/-- How the most recent orderly stop ended (Table 7-2). -/
inductive StopEnd
  | none
  | completed
  | forced
  | cancelled
  | tripped
  | lockLost
  | restart
deriving DecidableEq, Repr

/-- The stop record (R138). -/
structure StopRec where
  startCycle : Long
  remaining : Nat
deriving DecidableEq, Repr

/-- A set of trip inputs (R132), with the active unit lines, bit n for line n. -/
structure TripInputs where
  pin : Bool
  unitLine : Bool
  unitStale : Bool
  lines : Byte
deriving DecidableEq, Repr

/-- The trip record (Table 7-2): `inputs` holds its sources and unitLines. -/
structure TripRec where
  fromMode : LineMode
  entryCycle : Long
  inputs : TripInputs
deriving DecidableEq, Repr

/-- The line mode controller (Table 7-2). -/
structure LineControl where
  lineMode : LineMode
  stopRec : Option StopRec
  lastStopEnd : StopEnd
  tripRec : Option TripRec
  tripEntries : Nat
deriving DecidableEq, Repr

/-- The line mode controller after power-on reset with TRIP_IN high (R144). -/
def LineControl.reset : LineControl :=
  { lineMode := .idle, stopRec := none, lastStopEnd := .none, tripRec := none, tripEntries := 0 }

/-! ### Ports and relay (Chapter 8) -/

/-- A whole telegram (Table 8-9); the length byte is the payload's length. -/
structure Telegram where
  kind : Kind
  dst : Byte
  src : Byte
  fn : Byte
  payload : List Byte
  check : Word
deriving DecidableEq, Repr

/-- A receiver (R146), with the partial telegram it holds in RECEIVING, oldest byte first. `inBreak` is the receiver
that stays out of reception while the line is at space (R149). -/
inductive Rx
  | idle
  | receiving (part : List Byte)
  | hunt
  | inBreak
deriving DecidableEq, Repr

/-- A transmitter: idle, sending a telegram, or (port F alone) sending a break repeat (R150, R152). -/
inductive Tx
  | idle
  | sending (t : Telegram)
  | breaking
deriving DecidableEq, Repr

/-- The level of a line at rest between the bits of characters: mark, or space in a break (R150). -/
inductive Level
  | mark
  | space
deriving DecidableEq, Repr

/-- One line port with its driver enable pin and its counters (R146, R152, Table 8-4). -/
structure Port where
  rx : Rx
  tx : Tx
  de : Bool
  txLine : Level
  parityErrors : Nat
  framingErrors : Nat
  kindErrors : Nat
  lengthErrors : Nat
  checkErrors : Nat
  fragments : Nat
  breaks : Nat
deriving DecidableEq, Repr

/-- A port after power-on reset (R157): its receiver in HUNT, its transmitter idle. -/
def Port.reset : Port :=
  { rx := .hunt, tx := .idle, de := false, txLine := .mark, parityErrors := 0, framingErrors := 0, kindErrors := 0,
    lengthErrors := 0, checkErrors := 0, fragments := 0, breaks := 0 }

/-- The relay's queues, head first, and its counters (R151, Table 8-4). -/
structure Relay where
  fBound : List Telegram
  mBound : List Telegram
  overrunsF : Nat
  overrunsM : Nat
  replyDrops : Nat
  misdirected : Nat
deriving DecidableEq, Repr

/-- The relay after power-on reset (R157). -/
def Relay.reset : Relay :=
  { fBound := [], mBound := [], overrunsF := 0, overrunsM := 0, replyDrops := 0, misdirected := 0 }

/-! ### Rewriter (Chapter 9) -/

/-- The rewriter's counters (R170). -/
structure Rewriter where
  rewrites : Nat
  rewriteMisses : Nat
  masterAdjusts : Nat
  unknownCodes : Nat
deriving DecidableEq, Repr

/-- The rewriter's counters after power-on reset (R171). -/
def Rewriter.reset : Rewriter := { rewrites := 0, rewriteMisses := 0, masterAdjusts := 0, unknownCodes := 0 }

/-! ### Request handler (Chapter 10) -/

/-- The two staged banks a session or a commit names (R180, R183). -/
inductive Bank
  | station
  | curve
deriving DecidableEq, Repr

/-- A stream session (Table 10-4); `lastSession` has the same fields, its `portal` being the final one. -/
structure Session where
  bank : Bank
  portal : Nat
  startIndex : Nat
  wordsTaken : Nat
  overflowed : Bool
deriving DecidableEq, Repr

/-- How the most recent session ended (Table 10-4). -/
inductive SessionEnd
  | none
  | endFlag
  | request
  | lineBreak
  | restart
deriving DecidableEq, Repr

/-- The line parameters of Table 10-2. Bit n of `tripMask` is trip line n; bit n of `causeMask` is the cause of code
n + 1. -/
structure LineParams where
  lotLength : Nat
  transportDistance : Nat
  divertLead : Nat
  maxIncrement : Nat
  capacity : Nat
  drawDown : Nat
  radarBlend : Nat
  divertConfirm : Nat
  lockThreshold : Nat
  stopLimit : Nat
  tripMask : Byte
  causeMask : BitVec 14
  rollBit : Option (Fin 16)
  rollSense : Bool
  groupAddress : Option Byte
  lineEnd : Bool
  primaryBinCurve : Option (Fin 8)
  secondaryBinCurve : Option (Fin 8)
deriving DecidableEq, Repr

/-- The defaults of Table 10-2. -/
def LineParams.defaults : LineParams :=
  { lotLength := 50, transportDistance := 1000, divertLead := 20, maxIncrement := 2000, capacity := 1000000,
    drawDown := 0, radarBlend := 4, divertConfirm := 50, lockThreshold := 8, stopLimit := 30000, tripMask := 0xFF,
    causeMask := 0x3FFF, rollBit := none, rollSense := true, groupAddress := none, lineEnd := false,
    primaryBinCurve := none, secondaryBinCurve := none }

/-- The request handler (Table 10-4) with the line parameters it holds (R174). -/
structure Handler where
  session : Option Session
  lastSession : Option Session
  lastSessionEnd : SessionEnd
  pendingStation : Bool
  pendingCurve : Bool
  dryRun : Bool
  params : LineParams
deriving DecidableEq, Repr

/-- The request handler after power-on reset (R185). -/
def Handler.reset : Handler :=
  { session := none, lastSession := none, lastSessionEnd := .none, pendingStation := false, pendingCurve := false,
    dryRun := false, params := LineParams.defaults }

/-! ### Cause unit (Chapter 11) -/

/-- The fourteen causes of Table 11-1, in priority order. -/
inductive Cause
  | trip
  | lockLost
  | crusherFault
  | relief
  | moveFailed
  | stopForced
  | staleInput
  | diverterMismatch
  | lotTableFull
  | linerDue
  | configGap
  | lineError
  | streamAborted
  | tableCommitted
deriving DecidableEq, Repr

/-- What the unit holds for one cause (R186). -/
structure CauseEntry where
  pending : Bool
  count : Nat
deriving DecidableEq, Repr

/-- The cause unit (R186), with rollMisses (R192); the entry of the cause of code n is at index n − 1. -/
structure CauseUnit where
  entries : Vector CauseEntry 14
  attention : Bool
  sequence : Byte
  rollMisses : Nat
deriving DecidableEq, Repr

/-- The cause unit after power-on reset with TRIP_IN high (R190). -/
def CauseUnit.reset : CauseUnit :=
  { entries := Vector.replicate 14 { pending := false, count := 0 }, attention := false, sequence := 0,
    rollMisses := 0 }

/-! ### Straps and pins (Table 0-3) -/

/-- The straps as read at power-on reset (R145). -/
structure Straps where
  addr : BitVec 7
  rate : BitVec 3
deriving DecidableEq, Repr

/-- The discrete pins: TRIP_IN (true while low), TRIP_OUT and LOCK (true while asserted). -/
structure Pins where
  tripInLow : Bool
  tripOut : Bool
  lock : Bool
deriving DecidableEq, Repr

/-! ### The whole part -/

/-- Reasons for a fault. There is none: the spec names no event that stops the part (INVENTORY.md, Faults). -/
inductive Fault
deriving DecidableEq, Repr

/-- Reasons for a refusal. -/
inductive Refusal
  /-- Raised by `exec`'s arms alone, for a row that has no meaning yet; no arm does. Safe: the model stops. -/
  | notModelled (mnemonic : String)
deriving DecidableEq, Repr

/-- The state of the part. `freeCount` and `pending` are the model's own: the number of free values used so far
(assumption log 7), and the queue of commands that wait, first in, first out. -/
structure State where
  straps : Straps
  pins : Pins
  portM : Port
  portF : Port
  breakPending : Bool
  relay : Relay
  tracker : Tracker
  activeTable : Vector Entry 32
  stagedTable : Vector Entry 32
  store : Vector (Option Record) 32
  shortFields : Nat
  badFields : Nat
  activeCurves : Vector Curve 8
  stagedCurves : Vector StagedCurve 8
  crushers : Vector Crusher 4
  feeders : Vector Feeder 4
  lots : LotTracker
  line : LineControl
  rewriter : Rewriter
  handler : Handler
  causes : CauseUnit
  freeCount : Nat
  pending : List Instr
deriving DecidableEq, Repr

/-- The part right after power-on reset, with TRIP_IN high (R23, R36, R63, R78, R100, R101, R126, R144, R157, R171,
R185, R190). The straps are inputs the spec gives no value: ADDR 1 and RATE 0 (assumption log 1). -/
def State.reset : State :=
  { straps := { addr := 1, rate := 0 }
    pins := { tripInLow := false, tripOut := false, lock := false }
    portM := Port.reset
    portF := Port.reset
    breakPending := false
    relay := Relay.reset
    tracker := Tracker.reset
    activeTable := Vector.replicate 32 Entry.zero
    stagedTable := Vector.replicate 32 Entry.zero
    store := Vector.replicate 32 none
    shortFields := 0
    badFields := 0
    activeCurves := Vector.replicate 8 []
    stagedCurves := Vector.replicate 8 (Vector.replicate 33 0)
    crushers := Vector.replicate 4 Crusher.reset
    feeders := Vector.replicate 4 Feeder.reset
    lots := LotTracker.reset
    line := LineControl.reset
    rewriter := Rewriter.reset
    handler := Handler.reset
    causes := CauseUnit.reset
    freeCount := 0
    pending := [] }

end Sys2Proof.Machine
end

