-- ==== Sys2Proof/Machine/Operands.lean ====
section
/-!
DEFINITION. Operand forms and codings: the arithmetic of Chapter 0, the codes of the tables of section 8.10, the
arguments of requests (R172), the plant fields (R5, R6, R16, R159), the check of a telegram (R158) and the coding of
replies (R172, R179).
-/

namespace Sys2Proof.Machine

/-! ### Arithmetic (Chapter 0, Arithmetic) -/

/-- A saturating count (R156 and the like): one more, stopping at 65535. -/
def countUp (n : Nat) : Nat := min 65535 (n + 1)

/-- A saturating count of at most 255 (R66, R118, R187). -/
def countUp255 (n : Nat) : Nat := min 255 (n + 1)

/-- Clamp of a natural number to the range `lo` to `hi`. -/
def clamp (lo hi x : Nat) : Nat := min hi (max lo x)

/-- Clamp of an integer to the range `lo` to `hi`. -/
def clampInt (lo hi x : Int) : Int := min hi (max lo x)

/-- Whether `x` lies in the range `lo` to `hi`, both ends included. -/
def inRange (lo hi x : Nat) : Bool := decide (lo ≤ x) && decide (x ≤ hi)

/-! ### Bytes and words -/

/-- The `n` bytes of a number, high byte first (R158). -/
def beBytes : Nat → Nat → List Byte
  | 0, _ => []
  | n + 1, v => BitVec.ofNat 8 (v / 256 ^ n) :: beBytes n v

/-- The number some bytes form, high byte first (R5, R158). -/
def beNat (bytes : List Byte) : Nat := bytes.foldl (fun acc b => acc * 256 + b.toNat) 0

/-- The `n` bytes of a signed number in two's complement, high byte first (R172). -/
def beInt (n : Nat) (i : Int) : List Byte := beBytes n (i % (256 ^ n : Nat)).toNat

/-- The `width` bytes of a payload at an offset, absent when they do not fit (R15, R164). -/
def fieldAt (payload : List Byte) (off width : Nat) : Option (List Byte) :=
  if off + width ≤ payload.length then some ((payload.drop off).take width) else none

/-- A payload with the bytes at an offset replaced (R168). -/
def putField (payload : List Byte) (off : Nat) (field : List Byte) : List Byte :=
  payload.take off ++ field ++ payload.drop (off + field.length)

/-- The words of a STREAM payload, high byte first; a last odd byte is part of none (R160). -/
def payloadWords : List Byte → List Word
  | hi :: lo :: rest => (hi ++ lo) :: payloadWords rest
  | _ => []

/-! ### Arguments of a request (R172) -/

/-- Splits a payload into arguments of the given widths, high byte first: absent when the payload is shorter than they
require. Bytes beyond them are ignored. -/
def arguments : List Nat → List Byte → Option (List Nat)
  | [], _ => some []
  | w :: ws, payload =>
    if w ≤ payload.length then
      (arguments ws (payload.drop w)).map (beNat (payload.take w) :: ·)
    else none

/-- The position of the first check that fails, counting from `base`. -/
def firstFailing (base : Nat) : List Bool → Option Nat
  | [] => none
  | ok :: rest => if ok then firstFailing (base + 1) rest else some base

/-- A crusher or feeder index: absent above 3. -/
def index4 (n : Nat) : Option (Fin 4) := if h : n < 4 then some ⟨n, h⟩ else none

/-- A curve id, or none: the inner option. The outer option is absent when the byte codes neither (R172). -/
def curveArg (n : Nat) : Option (Option (Fin 8)) :=
  if h : n < 8 then some (some ⟨n, h⟩) else if n = 255 then some none else none

/-- A roll bit 0 to 15, or none, in the same form (Table 10-2). -/
def rollBitArg (n : Nat) : Option (Option (Fin 16)) :=
  if h : n < 16 then some (some ⟨n, h⟩) else if n = 255 then some none else none

/-- A group address 1 to 126, or none, in the same form (Table 10-2). -/
def groupArg (n : Nat) : Option (Option Byte) :=
  if inRange 1 126 n then some (some (BitVec.ofNat 8 n)) else if n = 255 then some none else none

/-- A value given as set or clear: 1 for set, 0 for clear (R172). -/
def flagArg (n : Nat) : Option Bool := if n = 0 then some false else if n = 1 then some true else none

/-- A bank, coded by its position in "STATION, CURVE" (R172, Table 10-1). -/
def bankArg (n : Nat) : Option Bank := if n = 0 then some .station else if n = 1 then some .curve else none

/-! ### Codes of the line (section 8.10) -/

/-- The kind codes of Table 8-10. -/
def kindCode : Kind → Byte
  | .cycle => 0x3A
  | .request => 0x5C
  | .reply => 0xA3
  | .stream => 0xC6

/-- The kind a first byte codes, if it is one of the four codes (R146). -/
def kindOfCode (b : Byte) : Option Kind :=
  if b = 0x3A then some .cycle else if b = 0x5C then some .request else if b = 0xA3 then some .reply
  else if b = 0xC6 then some .stream else none

/-- The result codes of Table 8-11. -/
inductive Result
  | done
  | clamped
  | busy
  | wrongMode
  | badArg
  | tooLate
  | invalidTable
  | unknown
deriving DecidableEq, Repr

/-- The code of a result (Table 8-11). -/
def Result.code : Result → Byte
  | .done => 0
  | .clamped => 1
  | .busy => 2
  | .wrongMode => 3
  | .badArg => 4
  | .tooLate => 5
  | .invalidTable => 6
  | .unknown => 7

/-- The role a kind code and an instance byte name, if they name one of Table 1-2 (R3, Table 8-19). -/
def roleOfCode (kind inst : Byte) : Option Role :=
  let line (r : Role) : Option Role := if inst = 0 then some r else none
  match kind.toNat with
  | 1 => (index4 inst.toNat).map .power
  | 2 => (index4 inst.toNat).map .gap
  | 3 => (index4 inst.toNat).map .level
  | 4 => (index4 inst.toNat).map .pressure
  | 5 => (index4 inst.toNat).map .actuator
  | 6 => (index4 inst.toNat).map .feederDrive
  | 7 => if inst = 0 then none else (index4 inst.toNat).map .feederTotal
  | 8 => line .beltScale
  | 9 => line .beltTravel
  | 10 => line .metal
  | 11 => line .binLevel
  | 12 => line .diverter
  | 13 => line .tripUnit
  | _ => none

/-- The mode a mode byte codes (Table 8-17). -/
def modeOfCode (b : Byte) : Option Mode :=
  match b.toNat with
  | 1 => some .observe
  | 2 => some .pass
  | 3 => some .govern
  | 4 => some .clamp
  | _ => none

/-- An offset byte: 0xFF codes an absent offset (R160). -/
def offsetOfCode (b : Byte) : Option Nat := if b = 0xFF then none else some b.toNat

/-! ### Fields of an entry (R2, R3, Table 1-2) -/

/-- An entry whose address is 0 is unused (section 1.2). -/
def Entry.used (e : Entry) : Bool := e.address != 0

/-- The role of an entry. -/
def Entry.role? (e : Entry) : Option Role := roleOfCode e.roleKind e.roleInst

/-- The mode of an entry. -/
def Entry.mode? (e : Entry) : Option Mode := modeOfCode e.mode

/-- Whether an entry is used and has a given role. -/
def Entry.holds (e : Entry) (r : Role) : Bool := e.used && e.role? == some r

/-- Whether the entry's mode is GOVERN or CLAMP (R3). -/
def Entry.isGoverning (e : Entry) : Bool := e.mode? == some .govern || e.mode? == some .clamp

/-- The width of the field a role reads (Table 1-2), absent for FEEDER_DRIVE. -/
def Role.readWidth : Role → Option Nat
  | .power _ | .gap _ | .level _ | .pressure _ | .feederTotal _ | .beltScale | .beltTravel | .binLevel => some 2
  | .actuator _ => some 3
  | .feederDrive _ => none
  | .metal | .diverter | .tripUnit => some 1

/-- The width of the field a role writes (Table 1-2), absent for an input role. -/
def Role.writeWidth : Role → Option Nat
  | .actuator _ => some 3
  | .feederDrive _ => some 2
  | .diverter => some 1
  | _ => none

/-- Whether a role is an output role (R3): ACTUATOR, FEEDER_DRIVE or DIVERTER. -/
def Role.isOutput (r : Role) : Bool := r.writeWidth.isSome

/-- Whether a role is an input scalar (Table 1-2). -/
def Role.isScalar : Role → Bool
  | .power _ | .gap _ | .level _ | .pressure _ | .binLevel => true
  | _ => false

/-- The number at which a counter role wraps (Table 1-2, R17); absent for a role that is no counter. -/
def Role.counterModulus : Role → Option Nat
  | .feederTotal _ | .beltScale | .beltTravel => some 65536
  | .metal => some 256
  | _ => none

/-- Whether a mode is allowed to a role (R3). -/
def Role.allows (r : Role) (m : Mode) : Bool := if r.isOutput then m != .observe else m == .observe

/-! ### Plant fields (R5, R6, R16, R159) -/

/-- The engineering value of an input scalar (R6). -/
def scaleScalar (raw gain offset : Nat) : Nat :=
  (clampInt 0 65535 (Int.tdiv (((raw : Int) - offset) * gain) 1024)).toNat

/-- The result a status byte codes (Table 8-14). -/
def actResultOfCode (b : Byte) : Option ActResult :=
  match b.toNat with
  | 0 => some .idle
  | 1 => some .busy
  | 2 => some .done
  | 3 => some .strokeEnd
  | 4 => some .fault
  | _ => none

/-- The actuator status in a 3-byte field, absent where its result byte is none of the five codes (R16, Table 8-14).
Bits 1 to 7 of byte 2 are ignored (R159). -/
def decodeStatus : List Byte → Option ActStatus
  | [seq, res, flags] => (actResultOfCode res).map fun r => { lastSeq := seq, result := r, reliefOpen := flags.getLsbD 0 }
  | _ => none

/-- The confirm a byte codes (Table 8-15), absent for any other byte (R16). -/
def divertOfCode (b : Byte) : Option Divert := if b = 0 then some .pass else if b = 1 then some .reject else none

/-- The code of a diverter command (Table 8-15). -/
def Divert.code : Divert → Byte
  | .pass => 0
  | .reject => 1

/-- The code of a command kind (Table 8-13). -/
def CommandKind.code : CommandKind → Byte
  | .hold => 1
  | .adjust => 2
  | .stop => 3

/-- The 3-byte actuator command field (R159, Table 8-13): the step is a 9-bit two's complement number, its sign bit in
bit 0 of byte 0; bits 1 to 3 of byte 0 are zero. -/
def encodeCommand (c : Command) : List Byte :=
  let step := BitVec.ofInt 9 c.step
  [c.kind.code <<< 4 ||| (if step.getLsbD 8 then 1 else 0), c.seq, step.setWidth 8]

/-! ### The check (R158) -/

/-- One byte shifted into the CRC register, most significant bit first, with generator x^16 + x^12 + x^5 + 1. -/
def crcByte (reg : Word) (b : Byte) : Word :=
  (List.range 8).foldl
    (fun r _ => if r.getLsbD 15 then (r <<< 1) ^^^ 0x1021 else r <<< 1)
    (reg ^^^ (b.setWidth 16 <<< 8))

/-- The CRC of some bytes: the register preset to all ones, sent without inversion (R158). -/
def crc16 (bytes : List Byte) : Word := bytes.foldl crcByte 0xFFFF

/-- The five header bytes and the payload (Table 8-9). -/
def telegramBody (kind : Kind) (dst src fn : Byte) (payload : List Byte) : List Byte :=
  [kindCode kind, dst, src, fn, BitVec.ofNat 8 payload.length] ++ payload

/-- A telegram with its check computed over the kind byte through the last payload byte (R147, R158). -/
def Telegram.make (kind : Kind) (dst src fn : Byte) (payload : List Byte) : Telegram :=
  { kind, dst, src, fn, payload, check := crc16 (telegramBody kind dst src fn payload) }

/-- Whether a telegram's check agrees with its bytes (R147). -/
def Telegram.checkHolds (t : Telegram) : Bool := t.check == crc16 (telegramBody t.kind t.dst t.src t.fn t.payload)

/-- The bytes of a telegram on the line (Table 8-9). -/
def Telegram.bytes (t : Telegram) : List Byte :=
  telegramBody t.kind t.dst t.src t.fn t.payload ++ beBytes 2 t.check.toNat

/-! ### Coding of replies (R172, R179) -/

/-- A flag, set or clear, yes or no: one byte (R172). -/
def codeFlag (b : Bool) : List Byte := [if b then 1 else 0]

/-- An optional field: one presence byte, then the field when present (R179). -/
def codeOption {α : Type} (f : α → List Byte) : Option α → List Byte
  | some a => 1 :: f a
  | none => [0]

/-- An optional id whose range has the value none: none is coded as all ones (R172). -/
def codeNone {n : Nat} : Option (Fin n) → List Byte
  | some i => [BitVec.ofNat 8 i.val]
  | none => [0xFF]

/-- Position in the list of Table 7-1. -/
def LineMode.code : LineMode → Byte
  | .idle => 0
  | .ready => 1
  | .run => 2
  | .stopping => 3
  | .stopped => 4
  | .tripped => 5

/-- Position in the list of Table 2-1. -/
def LockState.code : LockState → Byte
  | .search => 0
  | .locked => 1

/-- Position in the list of Table 3-3. -/
def CrusherState.code : CrusherState → Byte
  | .absent => 0
  | .standby => 1
  | .run => 2
  | .move => 3
  | .relief => 4
  | .recover => 5
  | .fault => 6

/-- Position in the list of Table 3-5. -/
def MoveCause.code : MoveCause → Byte
  | .target => 0
  | .wear => 1
  | .recovery => 2

/-- Position in the list of Table 3-5. -/
def MovePhase.code : MovePhase → Byte
  | .waiting => 0
  | .issued => 1
  | .active => 2

/-- Position in the list of Table 4-1. -/
def ReliefPhase.code : ReliefPhase → Byte
  | .opened => 0
  | .cleared => 1

/-- Position in the list of Table 3-1: HOLD, ADJUST, STOP. -/
def CommandKind.position : CommandKind → Byte
  | .hold => 0
  | .adjust => 1
  | .stop => 2

/-- Position in the list of Table 5-4. -/
def CapBy.code : CapBy → Byte
  | .none => 0
  | .lineMode => 1
  | .stopping => 2
  | .crusherState => 3
  | .moveCap => 4
  | .recoverCap => 5

/-- Position in the list of Table 6-2. -/
def LotState.code : LotState → Byte
  | .opened => 0
  | .riding => 1
  | .passing => 2

/-- Position in the list of Table 6-2. -/
def RejectSource.code : RejectSource → Byte
  | .detector => 0
  | .master => 1

/-- Position in the list of Table 7-2. -/
def StopEnd.code : StopEnd → Byte
  | .none => 0
  | .completed => 1
  | .forced => 2
  | .cancelled => 3
  | .tripped => 4
  | .lockLost => 5
  | .restart => 6

/-- Position in the list of Table 10-4. -/
def SessionEnd.code : SessionEnd → Byte
  | .none => 0
  | .endFlag => 1
  | .request => 2
  | .lineBreak => 3
  | .restart => 4

/-- Position in the list STATION, CURVE. -/
def Bank.code : Bank → Byte
  | .station => 0
  | .curve => 1

/-- The result codes of Table 8-14, which are also the positions in the list of Table 1-5. -/
def ActResult.code : ActResult → Byte
  | .idle => 0
  | .busy => 1
  | .done => 2
  | .strokeEnd => 3
  | .fault => 4

/-- The trip inputs as the set PIN, UNIT_LINE, UNIT_STALE, then the set of active unit lines (R136, R172). -/
def codeTripInputs (a : TripInputs) : List Byte :=
  [(if a.pin then 1 else 0) ||| (if a.unitLine then 2 else 0) ||| (if a.unitStale then 4 else 0), a.lines]

/-- The size of a staged bank in words (R180). -/
def Bank.size : Bank → Nat
  | .station => 256
  | .curve => 264

end Sys2Proof.Machine
end

