-- ==== Sys2Proof/Machine/Ops.lean ====
section
/-!
DEFINITION. The named operations over the state that every chapter uses: reading and writing a crusher, feeder, port
or record, finding the entry of a role, the conditions the spec names of a station table, and the free order of events
the spec leaves unordered.
-/

namespace Sys2Proof.Machine

/-! ### Parts of the state -/

/-- Crusher context k. -/
def State.crusher (s : State) (k : Fin 4) : Crusher := s.crushers[k]

/-- The state with crusher context k replaced, and nothing else. -/
def State.setCrusher (s : State) (k : Fin 4) (c : Crusher) : State := { s with crushers := s.crushers.set k c }

/-- Feeder governor j. -/
def State.feeder (s : State) (j : Fin 4) : Feeder := s.feeders[j]

/-- The state with feeder record j replaced, and nothing else. -/
def State.setFeeder (s : State) (j : Fin 4) (f : Feeder) : State := { s with feeders := s.feeders.set j f }

/-- A line port. -/
def State.port (s : State) : PortId → Port
  | .m => s.portM
  | .f => s.portF

/-- The state with a port replaced, and nothing else. -/
def State.setPort (s : State) (p : PortId) (x : Port) : State :=
  match p with
  | .m => { s with portM := x }
  | .f => { s with portF := x }

/-- The line parameters (R174). -/
def State.params (s : State) : LineParams := s.handler.params

/-- The state with the lot tracker replaced, and nothing else. -/
def State.setLots (s : State) (l : LotTracker) : State := { s with lots := l }

/-- The own address: the ADDR straps, or none for 0 and 127 (R145). -/
def State.ownAddress (s : State) : Option Byte :=
  if s.straps.addr = 0 ∨ s.straps.addr = 127 then none else some (s.straps.addr.setWidth 8)

/-- Whether a destination is the own address (R153). -/
def State.isOwn (s : State) (dst : Byte) : Bool := s.ownAddress == some dst

/-- Whether a destination is the group address; with groupAddress none, no destination is (R153). -/
def State.isGroup (s : State) (dst : Byte) : Bool := s.params.groupAddress == some dst

/-! ### Entries and roles (Chapter 1) -/

/-- The index of the used entry of a role in a bank (R3). By R9 there is at most one; the lowest is taken. -/
def roleIndex (tab : Vector Entry 32) (r : Role) : Option (Fin 32) :=
  (List.finRange 32).find? fun i => tab[i].holds r

/-- The entry of a role in a bank, if it has one. -/
def entryOf (tab : Vector Entry 32) (r : Role) : Option Entry := (roleIndex tab r).map fun i => tab[i]

/-- Whether a bank has an entry of a role. -/
def hasRole (tab : Vector Entry 32) (r : Role) : Bool := (roleIndex tab r).isSome

/-- Whether a crusher is present: the bank holds its POWER entry (R10). -/
def present (tab : Vector Entry 32) (k : Fin 4) : Bool := hasRole tab (.power k)

/-- Whether the entry of a role exists in mode GOVERN or CLAMP (R3). -/
def governing (tab : Vector Entry 32) (r : Role) : Bool :=
  match entryOf tab r with
  | some e => e.isGoverning
  | none => false

/-- Whether gap regulation of a crusher is governed (R12). -/
def governed (tab : Vector Entry 32) (k : Fin 4) : Bool :=
  present tab k && governing tab (.actuator k) && hasRole tab (.gap k)

/-- Whether lot tracking is active (R11). -/
def trackingActive (tab : Vector Entry 32) : Bool := hasRole tab .beltScale && hasRole tab .beltTravel

/-- Whether the part has bin information (R11). -/
def binInformation (tab : Vector Entry 32) : Bool := trackingActive tab || hasRole tab .binLevel

/-- Whether a crusher has an input that bears on relief (R65, R75). -/
def hasReliefInput (tab : Vector Entry 32) (k : Fin 4) : Bool :=
  hasRole tab (.pressure k) || hasRole tab (.actuator k)

/-- Gap regulation of crusher k, judged from the active bank (R12). -/
def State.governed (s : State) (k : Fin 4) : Bool := Machine.governed s.activeTable k

/-! ### Records (Chapter 1) -/

/-- The record of a role in the observed-value store, if the active bank has an entry of it (R14). -/
def State.recordOf (s : State) (r : Role) : Option Record := (roleIndex s.activeTable r).bind fun i => s.store[i]

/-- Whether the record of a role exists and is FRESH (R21). -/
def State.isFresh (s : State) (r : Role) : Bool :=
  match s.recordOf r with
  | some rec => rec.fresh
  | none => false

/-- The scalar a record holds, FRESH or STALE. -/
def Record.scalar? (rec : Record) : Option Nat :=
  match rec.value with
  | .scalar v => v
  | _ => none

/-- The status a record holds, FRESH or STALE. -/
def Record.status? (rec : Record) : Option ActStatus :=
  match rec.value with
  | .actuator v => v
  | _ => none

/-- The confirm a record holds. -/
def Record.confirm? (rec : Record) : Option Divert :=
  match rec.value with
  | .confirm v => v
  | _ => none

/-- The trip word a record holds. -/
def Record.tripWord? (rec : Record) : Option Byte :=
  match rec.value with
  | .tripWord v => v
  | _ => none

/-- The engineering value of an input scalar while its record is FRESH: a STALE record is not used (R21). -/
def State.freshScalar (s : State) (r : Role) : Option Nat :=
  match s.recordOf r with
  | some rec => if rec.fresh then rec.scalar? else none
  | none => none

/-- The actuator status of a crusher, FRESH or STALE (R53). -/
def State.heldStatus (s : State) (k : Fin 4) : Option ActStatus := (s.recordOf (.actuator k)).bind Record.status?

/-- Relief reported (R65): the ACTUATOR record is FRESH and its reliefOpen flag is set. -/
def State.reliefReported (s : State) (k : Fin 4) : Bool :=
  match s.recordOf (.actuator k) with
  | some rec =>
    match rec.status? with
    | some st => rec.fresh && st.reliefOpen
    | none => false
  | none => false

/-- The age of a record at the current cycle, modulo 2^32 (R19, R33). -/
def ageOf (now arrival : Long) : Nat := (now - arrival).toNat

/-! ### Riding (Chapter 6) -/

/-- riding: the tonnages of the lots in the table whose reject is clear, in every state (R115). -/
def riding (table : List Lot) : Nat := ((table.filter fun l => !l.reject).map fun l => l.tonnage.toNat).sum

/-! ### Free order (assumption log 7) -/

/-- A list in the order a code names: every order of the list is named by some code. -/
def shuffle {α : Type} : Nat → List α → List α
  | _, [] => []
  | _, [x] => [x]
  | code, x :: y :: rest =>
    let n := rest.length + 2
    let tail := shuffle (code / n) (y :: rest)
    tail.take (code % n) ++ x :: tail.drop (code % n)

/-- Lets some actors act one after another, each by `act`, in an order the spec leaves open: a free value. -/
def inFreeOrder {α : Type} (actors : List α) (act : α → State → State) (s : State) : State :=
  (shuffle (Config.freeOrder s.freeCount) actors).foldl (fun t a => act a t)
    { s with freeCount := s.freeCount + 1 }

/-- The four crushers, or the four feeders. -/
def four : List (Fin 4) := List.finRange 4

/-- Applies an operation for each of the four crushers or feeders in turn. -/
def forFour (act : Fin 4 → State → State) (s : State) : State := four.foldl (fun t k => act k t) s

end Sys2Proof.Machine
end

