-- ==== Sys2Proof/Machine/Flags.lean ====
section
/-!
DEFINITION. The cause unit (Chapter 11): the pending flags, occurrence counts, attention and event sequence number,
how a cause is raised, how it ceases, and the conditions of the level causes.
-/

namespace Sys2Proof.Machine

/-- The causes in priority order (Table 11-1). -/
def allCauses : List Cause :=
  [.trip, .lockLost, .crusherFault, .relief, .moveFailed, .stopForced, .staleInput, .diverterMismatch, .lotTableFull,
    .linerDue, .configGap, .lineError, .streamAborted, .tableCommitted]

/-- The index of a cause: its code less one (R186). -/
def Cause.index : Cause → Fin 14
  | .trip => 0
  | .lockLost => 1
  | .crusherFault => 2
  | .relief => 3
  | .moveFailed => 4
  | .stopForced => 5
  | .staleInput => 6
  | .diverterMismatch => 7
  | .lotTableFull => 8
  | .linerDue => 9
  | .configGap => 10
  | .lineError => 11
  | .streamAborted => 12
  | .tableCommitted => 13

/-- The code of a cause on the line: its priority number (R186). -/
def Cause.code (c : Cause) : Byte := BitVec.ofNat 8 (c.index.val + 1)

/-- The level causes, in priority order (R190). -/
def levelCauses : List Cause := [.trip, .crusherFault, .diverterMismatch, .linerDue]

/-- Whether a cause is a level cause (Table 11-1). -/
def Cause.isLevel (c : Cause) : Bool := levelCauses.contains c

/-- What the unit holds for a cause. -/
def CauseUnit.entry (u : CauseUnit) (c : Cause) : CauseEntry := u.entries[c.index]

/-- Whether a cause is enabled by a mask, bit 0 for TRIP (R186). -/
def Cause.enabledBy (c : Cause) (mask : BitVec 14) : Bool := mask.getLsbD c.index.val

/-- Raising a cause (R187). Not pending: it becomes pending with count 1, the sequence number advances, and attention is
set when the cause is enabled. Pending: its count advances, saturating at 255. -/
def CauseUnit.raise (u : CauseUnit) (mask : BitVec 14) (c : Cause) : CauseUnit :=
  if (u.entry c).pending then
    { u with entries := u.entries.set c.index { pending := true, count := countUp255 (u.entry c).count } }
  else
    { u with
      entries := u.entries.set c.index { pending := true, count := 1 }
      sequence := u.sequence + 1
      attention := u.attention || c.enabledBy mask }

/-- A cause ceasing to be pending, with count 0 (R186, R189). -/
def CauseUnit.cease (u : CauseUnit) (c : Cause) : CauseUnit :=
  { u with entries := u.entries.set c.index { pending := false, count := 0 } }

/-- A block raises a cause (R187). -/
def raise (c : Cause) (s : State) : State := { s with causes := s.causes.raise s.params.causeMask c }

/-- A block raises a cause `n` times. -/
def raiseTimes (c : Cause) : Nat → State → State
  | 0, s => s
  | n + 1, s => raiseTimes c n (raise c s)

/-- Raises a cause if a condition holds. -/
def raiseIf (b : Bool) (c : Cause) (s : State) : State := if b then raise c s else s

/-- Whether a crusher is due (R58). -/
def Crusher.due (c : Crusher) : Bool := decide (c.params.linerLimit ≤ c.wear) || c.closeBlocked

/-- The condition of a level cause (Table 11-1); false for an edge cause, which has none. -/
def levelHolds (c : Cause) (s : State) : Bool :=
  match c with
  | .trip => s.line.lineMode == .tripped
  | .crusherFault => four.any fun k => (s.crusher k).state == .fault
  | .diverterMismatch => s.lots.mismatch
  | .linerDue => four.any fun k => (s.crusher k).due
  | _ => false

/-- A level cause whose condition has ended ceases to be pending (R186). -/
def settleLevel (c : Cause) (s : State) : State :=
  if levelHolds c s then s else { s with causes := s.causes.cease c }

/-- Clears every cause, the sequence number and attention, then raises again each level cause whose condition holds, in
priority order (R190). -/
def clearCauses (s : State) : State :=
  levelCauses.foldl (fun t c => raiseIf (levelHolds c t) c t)
    { s with causes := { CauseUnit.reset with rollMisses := s.causes.rollMisses } }

/-- The pending causes in priority order. -/
def pendingCauses (u : CauseUnit) : List Cause := allCauses.filter fun c => (u.entry c).pending

/-- The code of the highest-priority pending cause, or 0 (R188). -/
def topCause (u : CauseUnit) : Byte :=
  match pendingCauses u with
  | c :: _ => c.code
  | [] => 0

end Sys2Proof.Machine
end

