-- ==== Sys2Proof/Machine/Feeder.lean ====
section
/-!
DEFINITION. Feeder rate computation (Chapter 5): the curve lookup, the stages of a computation, the drive value and
the immediate zero.
-/

namespace Sys2Proof.Machine

/-! ### Curves (R95, R96) -/

/-- The value on a segment from `p` to `q`: the truncation is toward zero (R95). -/
def interpolate (p q : Point) (x : Nat) : Nat :=
  ((p.y : Int) + Int.tdiv (((q.y : Int) - p.y) * ((x : Int) - p.x)) ((q.x : Int) - p.x)).toNat

/-- The lookup of `x` in the points from `p` on (R95). -/
def lookupFrom (p : Point) (rest : List Point) (x : Nat) : Nat :=
  if x ≤ p.x then p.y
  else
    match rest with
    | [] => p.y
    | q :: more => if x < q.x then interpolate p q x else lookupFrom q more x

/-- The lookup of `x` in an active curve; absent when the curve is empty (R95). -/
def lookupCurve (c : Curve) (x : Nat) : Option Nat :=
  match c with
  | [] => none
  | p :: rest => some (lookupFrom p rest x)

/-- What a lookup gives: a value, and how many CONFIG_GAP it raises. An empty curve gives 0 and raises one (R96). -/
def lookupOrGap (curves : Vector Curve 8) (id : Fin 8) (x : Nat) : Nat × Nat :=
  match lookupCurve curves[id] x with
  | some y => (y, 0)
  | none => (0, 1)

/-! ### The stages of a computation (R83 to R91) -/

/-- The load of a crusher: floor(P × 1000 / ratedPower), clamped to 0 to 2000 (section 3.1, R83). -/
def loadOf (power ratedPower : Nat) : Nat := min 2000 (power * 1000 / ratedPower)

/-- The level correction C: trunc(E × levelGain / 64), clamped to −300 to +300; 0 without a fresh level (R85). -/
def levelCorrection (p : CrusherParams) : Option Nat → Int
  | some level => clampInt (-300) 300 (Int.tdiv (((p.levelTarget : Int) - min level 1000) * p.levelGain) 64)
  | none => 0

/-- The values of the load, curve and level correction stages, with the CONFIG_GAP raised. -/
structure FrontStage where
  load : Option Nat
  curveDemand : Option Nat
  correction : Option Int
  corrected : Nat
  gaps : Nat
deriving DecidableEq, Repr

/-- The first three stages (R83, R84, R85). With no fresh power they are not taken and D2 is staleCap (R83). -/
def frontStage (curves : Vector Curve 8) (p : CrusherParams) (staleCap : Nat) (power level : Option Nat) : FrontStage :=
  match power with
  | none => { load := none, curveDemand := none, correction := none, corrected := staleCap, gaps := 0 }
  | some pw =>
    let load := loadOf pw p.ratedPower
    let d1 :=
      match p.loadCurve with
      | none => (1000, 0)
      | some id => lookupOrGap curves id load
    let corr := levelCorrection p level
    { load := some load, curveDemand := some d1.1, correction := some corr,
      corrected := (clampInt 0 1000 ((d1.1 : Int) + corr)).toNat, gaps := d1.2 }

/-- The fill of the surge bin as feeder j counts it, clamped to 0 to 1000: F0 with the riding rock, F1 to F3 without
(R86, R87). -/
def binFill (s : State) (j : Fin 4) : Nat :=
  let stock := if j = 0 then s.lots.inventory + riding s.lots.table else s.lots.inventory
  min 1000 (stock * 1000 / s.params.capacity)

/-- The bin curve of feeder j (R86, R87). -/
def binCurve (s : State) (j : Fin 4) : Option (Fin 8) :=
  if j = 0 then s.params.primaryBinCurve else s.params.secondaryBinCurve

/-- The bin limit stage: the fill looked up, D3, and the CONFIG_GAP raised. Without a bin curve or without bin
information no lookup is made (R86, R87). -/
def binStage (s : State) (j : Fin 4) (d2 : Nat) : Option Nat × Nat × Nat :=
  match binCurve s j with
  | none => (none, d2, 0)
  | some id =>
    if binInformation s.activeTable then
      let fill := binFill s j
      let y := lookupOrGap s.activeCurves id fill
      (some fill, min d2 y.1, y.2)
    else (none, d2, 0)

/-- The state and mode cap stage: D4 and the row of Table 5-3 that gave it (R88, Table 5-4). -/
def capStage (mode : LineMode) (j : Fin 4) (c : Crusher) (d3 : Nat) : Nat × CapBy :=
  if mode ≠ .run ∧ mode ≠ .stopping then (0, .lineMode)
  else if mode = .stopping ∧ j = 0 then (0, .stopping)
  else
    match c.state with
    | .run => (d3, .none)
    | .move => if c.params.moveCap < d3 then (c.params.moveCap, .moveCap) else (d3, .none)
    | .recover => if c.params.recoverCap < d3 then (c.params.recoverCap, .recoverCap) else (d3, .none)
    | .standby | .relief | .fault | .absent => (0, .crusherState)

/-- The elapsed count n: the cycles since the last computation, modulo 2^32, clamped to 1 to 8 (R82). -/
def elapsedCycles (now last : Long) : Nat := clamp 1 8 (now - last).toNat

/-- The slew stage: S (R89). A stale computation has no lower bound by slewDown (R91). The lower end of the range never
matters below 0, since D4 is not negative. -/
def slewStage (f : Feeder) (n : Nat) (stale : Bool) (d4 : Nat) : Nat :=
  min 1000 (clamp (if stale then 0 else f.output - f.slewDown * n) (f.output + f.slewUp * n) d4)

/-- The minimum-run stage: the new output (R90). -/
def minRunStage (minRun slewed d4 : Nat) : Nat :=
  if minRun ≤ slewed then slewed else if minRun ≤ d4 then minRun else 0

/-- The result of a computation: its stage record, its output and the CONFIG_GAP it raises. -/
structure Computed where
  stage : Stage
  output : Nat
  gaps : Nat
deriving DecidableEq, Repr

/-- The computation of feeder j, whole, from the state as it stands (R82). It is a stale computation when the POWER
record is not FRESH (R83). -/
def computation (s : State) (j : Fin 4) : Computed :=
  let f := s.feeder j
  let c := s.crusher j
  let power := s.freshScalar (.power j)
  let front := frontStage s.activeCurves c.params f.staleCap power (s.freshScalar (.level j))
  let bin := binStage s j front.corrected
  let cap := capStage s.line.lineMode j c bin.2.1
  let n := elapsedCycles s.tracker.cycleCount f.lastComputeCycle
  let slewed := slewStage f n power.isNone cap.1
  { stage :=
      { cycle := s.tracker.cycleCount, stale := power.isNone, load := front.load, curveDemand := front.curveDemand,
        correction := front.correction, corrected := front.corrected, fill := bin.1, binDemand := bin.2.1,
        capped := cap.1, capBy := cap.2, elapsed := n, slewed := slewed }
    output := minRunStage f.minRun slewed cap.1
    gaps := front.gaps + bin.2.2 }

/-! ### The record (R79, R81, R90, R92, R93) -/

/-- The output in the raw units of the feeder's drive, rounded to the nearest, a half up; absent without a FEEDER_DRIVE
entry (R81). -/
def driveValueOf (tab : Vector Entry 32) (j : Fin 4) (output : Nat) : Option Nat :=
  (entryOf tab (.feederDrive j)).map fun e => (output * e.gain.toNat * 2 + 1000) / 2000

/-- The drive value of feeder j recomputed from its output (R81). -/
def refreshDrive (j : Fin 4) (s : State) : State :=
  let f := s.feeder j
  s.setFeeder j { f with driveValue := driveValueOf s.activeTable j f.output }

/-- Feeder governor j computes and stores the result (R82, R90). -/
def computeFeeder (j : Fin 4) (s : State) : State :=
  let f := s.feeder j
  let r := computation s j
  let drive := if r.output = f.output then f.driveValue else driveValueOf s.activeTable j r.output
  raiseTimes .configGap r.gaps
    (s.setFeeder j
      { f with output := r.output, lastComputeCycle := s.tracker.cycleCount, driveValue := drive, stage := some r.stage })

/-- Feeder j goes to 0 at once; lastComputeCycle and the stage record are left (R92, R93). -/
def zeroFeeder (j : Fin 4) (s : State) : State :=
  s.setFeeder j { s.feeder j with output := 0, driveValue := driveValueOf s.activeTable j 0 }

/-- Every feeder goes to 0 at once (R93). -/
def zeroFeeders (s : State) : State := forFour zeroFeeder s

end Sys2Proof.Machine
end

