-- ==== Sys2Proof/Machine/Crusher.lean ====
section
/-!
DEFINITION. Gap regulation (Chapter 3): what a crusher context does to itself at each of its events, as functions on one
context; and `changeCrusher`, the one operation by which a context takes its new value in the state.
-/

namespace Sys2Proof.Machine

/-! ### What a context reads, and what it answers -/

/-- What a crusher context reads of other blocks when it acts. -/
structure View where
  /-- The gap, while the GAP record is FRESH (R52). -/
  gap : Option Nat
  /-- The load, while the POWER record is FRESH (section 3.1). -/
  load : Option Nat
  /-- The output held by the feeder governor of the same number (R52). -/
  output : Nat
  /-- lastSeq of the ACTUATOR record, FRESH or STALE (R53). -/
  lastSeq : Option Byte
  /-- Whether regulation is governed (R12). -/
  governed : Bool
  /-- The dry-run flag. -/
  dryRun : Bool
deriving DecidableEq, Repr

/-- What crusher context k reads in a state. -/
def State.view (s : State) (k : Fin 4) : View :=
  { gap := s.freshScalar (.gap k)
    load := (s.freshScalar (.power k)).map fun p => loadOf p (s.crusher k).params.ratedPower
    output := (s.feeder k).output
    lastSeq := (s.heldStatus k).map fun st => st.lastSeq
    governed := s.governed k
    dryRun := s.handler.dryRun }

/-- The new value of a context, and the edge causes its event raises. CRUSHER_FAULT and LINER_DUE are raised by
`changeCrusher`, from the change itself. -/
structure Change where
  crusher : Crusher
  raises : List Cause
deriving DecidableEq, Repr

/-- A change that raises nothing. -/
def quiet (c : Crusher) : Change := { crusher := c, raises := [] }

/-- The run states (section 3.3). -/
def CrusherState.isRun : CrusherState → Bool
  | .run | .move | .recover => true
  | .absent | .standby | .relief | .fault => false

/-- The states that a signal, a disable or a restart takes to STANDBY (R44, R45). -/
def CrusherState.isEnabled : CrusherState → Bool
  | .run | .move | .recover | .relief => true
  | .absent | .standby | .fault => false

/-- Crusher context k takes a new value. On leaving the run states its feeder is zeroed (R92). Each entry to FAULT
raises CRUSHER_FAULT (R46), each becoming due raises LINER_DUE (R58), and the two cease when no crusher holds them. -/
def changeCrusher (k : Fin 4) (ch : Change) (s : State) : State :=
  let old := s.crusher k
  let new := ch.crusher
  let s1 := s.setCrusher k new
  let s2 := if old.state.isRun && !new.state.isRun then zeroFeeder k s1 else s1
  let s3 := ch.raises.foldl (fun t c => raise c t) s2
  let s4 := raiseIf (old.state != .fault && new.state == .fault) .crusherFault s3
  let s5 := raiseIf (!old.due && new.due) .linerDue s4
  settleLevel .linerDue (settleLevel .crusherFault s5)

/-! ### The command and the move (R39, R40) -/

/-- HOLD with moveSeq and step 0 (R39). -/
def Crusher.holdCommand (c : Crusher) : Command := { kind := .hold, seq := c.moveSeq, step := 0 }

/-- STOP with moveSeq and step 0 (R39). -/
def Crusher.stopCommand (c : Crusher) : Command := { kind := .stop, seq := c.moveSeq, step := 0 }

/-- An abort: the move record is discarded and the command becomes STOP with moveSeq (R40). -/
def Crusher.abort (c : Crusher) : Crusher := { c with moveRec := none, command := c.stopCommand }

/-- The state a crusher takes when its move ends without a fault: RUN from MOVE, otherwise its own. -/
def CrusherState.afterMove : CrusherState → CrusherState
  | .move => .run
  | st => st

/-- The error e: the gap less cssTarget (R50). -/
def Crusher.error (c : Crusher) (gap : Nat) : Int := (gap : Int) - c.cssTarget

/-- |e| ≤ deadband. -/
def Crusher.inDeadband (c : Crusher) (e : Int) : Bool := decide (e.natAbs ≤ c.params.deadband)

/-- e > deadband and closeBlocked is set: a closing move that is refused (R50, R53). -/
def Crusher.closingRefused (c : Crusher) (e : Int) : Bool := decide ((c.params.deadband : Int) < e) && c.closeBlocked

/-- e clamped to −stepMax to +stepMax (R53). -/
def Crusher.stepFor (c : Crusher) (e : Int) : Int := clampInt (-(c.params.stepMax : Int)) c.params.stepMax e

/-- The conditions of an issue check: a fresh gap, the feeder at or below the cap, and, outside RECOVER, the load
(R52). -/
def issueAllowed (v : View) (c : Crusher) : Bool :=
  v.gap.isSome &&
    (if c.state == .recover then decide (v.output ≤ c.params.recoverCap)
    else
      decide (v.output ≤ c.params.moveCap) &&
        (match v.load with
        | some load => decide (load ≤ c.params.moveLoadMax)
        | none => c.params.moveLoadMax == 2000))

/-- The sequence a move is issued under: moveSeq advanced by one, and by one again when the actuator's held status
reports that sequence (R53). -/
def nextSeq (moveSeq : Byte) (lastSeq : Option Byte) : Byte :=
  if lastSeq = some (moveSeq + 1) then moveSeq + 2 else moveSeq + 1

/-- Issue of a waiting move, or its drop (R53). -/
def issue (v : View) (m : Move) (gap : Nat) (c : Crusher) : Crusher :=
  let e := c.error gap
  if c.inDeadband e then { c with moveRec := none, targetSettled := true, state := c.state.afterMove }
  else if c.closingRefused e then { c with moveRec := none, state := c.state.afterMove }
  else
    let seq := nextSeq c.moveSeq v.lastSeq
    let step := c.stepFor e
    { c with
      moveSeq := seq
      moveRec := some { m with seq := some seq, step := some step, phase := .issued }
      command := { kind := .adjust, seq := seq, step := step } }

/-- The issue check of a move in WAITING (R52); any other context is left as it is. -/
def issueCheck (v : View) (c : Crusher) : Crusher :=
  match c.moveRec, v.gap with
  | some m, some gap => if m.phase = .waiting ∧ issueAllowed v c then issue v m gap c else c
  | _, _ => c

/-- A move record as created (Table 3-5, R50). -/
def newMove (cause : MoveCause) : Move :=
  { seq := none, step := none, cause := cause, phase := .waiting, elapsed := 0 }

/-! ### Gap and power arrivals (R50, R52, R60, R71, R73) -/

/-- Evaluation in RUN (R50). -/
def evaluateRun (v : View) (gap : Nat) (c : Crusher) : Crusher :=
  let e := c.error gap
  if c.inDeadband e then { c with targetSettled := true }
  else if c.closingRefused e then c
  else
    issueCheck v
      { c with state := .move, moveRec := some (newMove (if c.targetSettled then .wear else .target)) }

/-- Proposal in RUN, in dry-run (R60). -/
def proposeRun (gap : Nat) (c : Crusher) : Crusher :=
  let e := c.error gap
  if c.inDeadband e then { c with targetSettled := true, proposedStep := some 0 }
  else if c.closingRefused e then { c with proposedStep := some 0 }
  else { c with proposedStep := some (c.stepFor e) }

/-- Evaluation in RECOVER (R71). -/
def evaluateRecover (v : View) (gap : Nat) (c : Crusher) : Crusher :=
  let e := c.error gap
  if c.inDeadband e then { c with state := .run, targetSettled := true, reliefRec := none }
  else if c.closingRefused e then { c with state := .run, reliefRec := none }
  else issueCheck v { c with moveRec := some (newMove .recovery) }

/-- Proposal in RECOVER, in dry-run (R73). -/
def proposeRecover (gap : Nat) (c : Crusher) : Crusher :=
  let e := c.error gap
  if c.inDeadband e then
    { c with proposedStep := some 0, state := .run, targetSettled := true, reliefRec := none }
  else if c.closingRefused e then { c with proposedStep := some 0, state := .run, reliefRec := none }
  else { c with proposedStep := some (c.stepFor e) }

/-- A GAP arrival (R50, R52, R60, R71, R73): a waiting move is checked for issue; without a move, a crusher in RUN or
RECOVER with governed regulation and settleCount 0 evaluates, or proposes in dry-run. -/
def gapArrival (v : View) (c : Crusher) : Crusher :=
  match c.moveRec with
  | some _ => issueCheck v c
  | none =>
    match v.gap with
    | none => c
    | some gap =>
      if v.governed && c.settleCount == 0 then
        match c.state with
        | .run => if v.dryRun then proposeRun gap c else evaluateRun v gap c
        | .recover => if v.dryRun then proposeRecover gap c else evaluateRecover v gap c
        | .absent | .standby | .move | .relief | .fault => c
      else c

/-! ### Actuator status (R55, R56) -/

/-- Completion of a move by a matching status (R56). -/
def complete (m : Move) (r : ActResult) (c : Crusher) : Change :=
  let closing : Bool :=
    match m.step with
    | some step => decide (0 < step)
    | none => false
  match r with
  | .done =>
    let worn := if m.cause == .wear && closing then min 65535 (c.wear + (m.step.getD 0).toNat) else c.wear
    quiet
      { c with moveRec := none, command := c.holdCommand, wear := worn, state := c.state.afterMove,
               settleCount := c.params.settleCycles }
  | .strokeEnd =>
    { crusher :=
        { c with moveRec := none, command := c.holdCommand, closeBlocked := c.closeBlocked || closing,
                 state := c.state.afterMove, settleCount := c.params.settleCycles }
      raises := [.moveFailed] }
  | .fault =>
    { crusher := { c with moveRec := none, command := c.stopCommand, state := .fault }, raises := [.moveFailed] }
  | .idle | .busy => quiet c

/-- A status acts on a move in ISSUED or ACTIVE when its lastSeq is the move's (R55). -/
def statusOnMove (st : ActStatus) (c : Crusher) : Change :=
  match c.moveRec with
  | none => quiet c
  | some m =>
    if m.phase = .waiting ∨ m.seq ≠ some st.lastSeq then quiet c
    else
      match st.result with
      | .idle => quiet c
      | .busy => quiet { c with moveRec := some { m with phase := .active } }
      | .done | .strokeEnd | .fault => complete m st.result c

/-! ### The counted cycle (R51, R57, R72) -/

/-- The move timeout at a counted cycle, with elapsed already advanced (R57). -/
def expireMove (m : Move) (c : Crusher) : Change :=
  match m.phase with
  | .waiting =>
    { crusher := { c with moveRec := none, settleCount := c.params.settleCycles, state := c.state.afterMove }
      raises := [.moveFailed] }
  | .issued | .active =>
    { crusher := { c with moveRec := none, command := c.stopCommand, state := .fault }, raises := [.moveFailed] }

/-- The counted cycle of one context: settleCount, then the move's elapsed count and timeout (R51, R57), then the exit
from RECOVER without governed regulation (R72). -/
def cycleCrusher (governed : Bool) (c : Crusher) : Change :=
  let c1 := { c with settleCount := c.settleCount - 1 }
  match c1.moveRec with
  | some m =>
    let m1 := { m with elapsed := countUp m.elapsed }
    let c2 := { c1 with moveRec := some m1 }
    if c2.params.moveTimeout ≤ m1.elapsed then expireMove m1 c2 else quiet c2
  | none =>
    if c1.state == .recover && !governed && c1.settleCount == 0 then
      quiet { c1 with state := .run, reliefRec := none }
    else quiet c1

/-! ### Signals and requests (R43 to R48, R54, R59, R61, R74) -/

/-- A crusher in RUN, MOVE, RECOVER or RELIEF enters STANDBY (R44, R45): a move is aborted, a governed crusher without
one takes STOP, and settleCount becomes 0. The relief record is kept (R74). Other states are left. -/
def standDown (governed : Bool) (c : Crusher) : Crusher :=
  if c.state.isEnabled then
    let c1 := if c.moveRec.isSome then c.abort else if governed then { c with command := c.stopCommand } else c
    { c1 with state := .standby, settleCount := 0 }
  else c

/-- Entry to RECOVER: settleCount is loaded with settleCycles (R70). -/
def Crusher.enterRecover (c : Crusher) : Crusher := { c with state := .recover, settleCount := c.params.settleCycles }

/-- CRUSHER_ENABLE of a crusher in STANDBY: RUN, or RELIEF or RECOVER by its relief record (R43, R74). -/
def enable (c : Crusher) : Crusher :=
  match c.reliefRec with
  | none => { c with state := .run }
  | some r =>
    match r.phase with
    | .opened => { c with state := .relief }
    | .cleared => c.enterRecover

/-- FAULT_CLEAR of a crusher in FAULT (R46). -/
def clearFault (governed : Bool) (c : Crusher) : Crusher :=
  { c with state := .standby, settleCount := 0, reliefRec := none,
           command := if governed then c.command else c.holdCommand }

/-- A write of cssTarget (R47, R48): a change clears targetSettled and turns a waiting WEAR move into a TARGET move
(R54); the value already held changes nothing. -/
def retarget (css : Nat) (c : Crusher) : Crusher :=
  if css = c.cssTarget then c
  else
    { c with
      cssTarget := css
      targetSettled := false
      moveRec := c.moveRec.map fun m =>
        if m.phase = .waiting ∧ m.cause = .wear then { m with cause := .target } else m }

/-- WEAR_RESET (R59). -/
def resetWear (c : Crusher) : Crusher := { c with wear := 0, closeBlocked := false }

/-- Dry-run is turned on: a move in flight is aborted and settleCount loaded (R61). -/
def dryRunOn (c : Crusher) : Crusher :=
  if c.moveRec.isSome then
    { c.abort with settleCount := c.params.settleCycles, state := c.state.afterMove }
  else c

/-- Dry-run is turned off: proposedStep becomes absent (R61). -/
def dryRunOff (c : Crusher) : Crusher := { c with proposedStep := none }

/-- The crusher parameters checked in the order of Table 3-2 (R38). DEDUCED, unsafe: a failing ordering condition is a
failure of both parameters of its row, so that the first of them is named; and cssMin by itself is checked against 1 to
3000, the ends of the chain it stands in (assumption log 12). -/
def CrusherParams.checks (p : CrusherParams) (curveOk : Bool) : List Bool :=
  [ inRange 1 3000 p.cssMin && decide (p.cssMin < p.cssMax)
  , inRange 1 3000 p.cssMax
  , inRange 1 100 p.deadband
  , inRange 1 200 p.stepMax
  , inRange 0 255 p.settleCycles
  , inRange 1 65535 p.moveTimeout
  , inRange 0 1000 p.moveCap
  , inRange 0 2000 p.moveLoadMax
  , inRange 0 1000 p.recoverCap
  , inRange 1 65535 p.reliefPressure && decide (p.reliefClear < p.reliefPressure)
  , inRange 1 65535 p.reliefClear
  , inRange 1 16 p.reliefClearCount
  , inRange 1 8 p.reliefLimit
  , inRange 1 65535 p.linerLimit
  , inRange 1 65535 p.ratedPower
  , curveOk
  , inRange 0 1000 p.levelTarget
  , inRange 0 255 p.levelGain ]

/-- The crusher parameters written, with the target re-clamped into the new window (R38, R48). -/
def writeParams (p : CrusherParams) (c : Crusher) : Crusher :=
  retarget (clamp p.cssMin p.cssMax c.cssTarget) { c with params := p }

/-! ### Commit and warm restart (R41, R42, R63, R75, R78) -/

/-- What the application of a station commit tells one crusher context. -/
structure CommitNews where
  /-- The new active bank holds the crusher's POWER entry (R10). -/
  present : Bool
  /-- Regulation was governed under the old bank, and is under the new one (R12). -/
  wasGoverned : Bool
  isGoverned : Bool
  /-- A new record was created for the GAP or the ACTUATOR entry (R42). -/
  replaced : Bool
  /-- A PRESSURE or an ACTUATOR entry exists (R75). -/
  reliefInput : Bool
deriving DecidableEq, Repr

/-- R42 for a crusher that stays present. -/
def commitGovernance (n : CommitNews) (c : Crusher) : Crusher :=
  if n.wasGoverned && !n.isGoverned then
    { c with moveRec := none, command := c.holdCommand, state := c.state.afterMove }
  else if n.isGoverned && n.replaced && c.moveRec.isSome then { c.abort with state := c.state.afterMove }
  else c

/-- R75 for a crusher that stays present and holds a relief record, with neither a PRESSURE nor an ACTUATOR entry. -/
def commitRelief (n : CommitNews) (c : Crusher) : Crusher :=
  if n.reliefInput then c
  else
    match c.state with
    | .relief => { c with reliefRec := none, state := .standby, settleCount := 0 }
    | .standby | .fault => { c with reliefRec := none }
    | .absent | .run | .move | .recover => c

/-- The application of a station commit, as one crusher context takes it (R41, R42, R75). -/
def commitCrusher (n : CommitNews) (c : Crusher) : Crusher :=
  if n.present then
    if c.state = .absent then
      { c with state := .standby, settleCount := 0, targetSettled := false,
               command := if n.isGoverned then c.command else c.holdCommand }
    else commitRelief n (commitGovernance n c)
  else if c.state = .absent then c
  else
    let c1 := if c.moveRec.isSome then c.abort else c
    { c1 with state := .absent, reliefRec := none, settleCount := 0 }

/-- A relief record at warm restart: an OPEN record has its clearRun set to 0 (R78). -/
def Relief.restart (r : Relief) : Relief := if r.phase = .opened then { r with clearRun := 0 } else r

/-- Warm restart of one context (R63, R78). -/
def restartCrusher (governed : Bool) (c : Crusher) : Crusher :=
  { c with
    state := if c.state = .absent then .absent else .standby
    moveRec := none
    settleCount := 0
    command := if c.state ≠ .absent ∧ governed = false then c.holdCommand else c.stopCommand
    reliefRec := if c.state = .fault then none else c.reliefRec.map Relief.restart }

end Sys2Proof.Machine
end

