-- ==== Sys2Proof/Machine/Relief.lean ====
section
/-!
DEFINITION. Tramp relief (Chapter 4): how a crusher context judges PRESSURE and ACTUATOR arrivals, the onset, the
clearing, and the arrivals of a crusher as the state takes them.
-/

namespace Sys2Proof.Machine

/-- How an arrival bears on relief (R65). An onset sample is a breaking sample where the relief is open. -/
inductive Sample
  | onset
  | breaking
  | clearing
  | neither
deriving DecidableEq, Repr

/-- A PRESSURE arrival (R65). The PRESSURE record is FRESH at its arrival, so that it is the counting input. -/
def pressureSample (p : CrusherParams) (pressure : Nat) (reported : Bool) : Sample :=
  if p.reliefPressure ≤ pressure then .onset
  else if pressure < p.reliefClear ∧ reported = false then .clearing
  else .breaking

/-- An ACTUATOR arrival (R65): with its flag clear it clears only while the counting input is ACTUATOR. -/
def statusSample (reliefOpen pressureFresh : Bool) : Sample :=
  if reliefOpen then .onset else if pressureFresh then .neither else .clearing

/-- The record after an onset: created, or advanced; OPEN, clearRun 0, the current cycle (R66 steps 2 and 3). -/
def openRelief (now : Long) : Option Relief → Relief
  | none => { phase := .opened, reliefCount := 1, clearRun := 0, onsetCycle := now }
  | some r => { phase := .opened, reliefCount := countUp255 r.reliefCount, clearRun := 0, onsetCycle := now }

/-- A relief onset in RUN, MOVE or RECOVER (R66). -/
def onset (now : Long) (c : Crusher) : Change :=
  let c1 := if c.moveRec.isSome then c.abort else c
  { crusher := { c1 with reliefRec := some (openRelief now c.reliefRec), state := .relief }, raises := [.relief] }

/-- An onset in STANDBY without an open relief (R67). -/
def standbyOnset (now : Long) (c : Crusher) : Change :=
  { crusher := { c with reliefRec := some (openRelief now c.reliefRec) }, raises := [.relief] }

/-- The relief is cleared (R69). -/
def reliefCleared (r : Relief) (c : Crusher) : Crusher :=
  let c1 := { c with reliefRec := some { r with phase := .cleared } }
  if c.params.reliefLimit ≤ r.reliefCount then { c1 with state := .fault, command := c.stopCommand }
  else if c.state = .relief then c1.enterRecover
  else c1

/-- A sample in a crusher holding an open relief (R68). -/
def sampleOpen (smp : Sample) (r : Relief) (c : Crusher) : Crusher :=
  match smp with
  | .onset | .breaking => { c with reliefRec := some { r with clearRun := 0 } }
  | .clearing =>
    let r1 := { r with clearRun := r.clearRun + 1 }
    if c.params.reliefClearCount ≤ r1.clearRun then reliefCleared r1 c else { c with reliefRec := some r1 }
  | .neither => c

/-- What a sample does to a context, by its state (R66, R67, R68). -/
def takeSample (now : Long) (smp : Sample) (c : Crusher) : Change :=
  match c.state with
  | .run | .move | .recover => if smp = .onset then onset now c else quiet c
  | .relief =>
    match c.reliefRec with
    | some r => if r.phase = .opened then quiet (sampleOpen smp r c) else quiet c
    | none => quiet c
  | .standby =>
    match c.reliefRec with
    | some r =>
      if r.phase = .opened then quiet (sampleOpen smp r c)
      else if smp = .onset then standbyOnset now c else quiet c
    | none => if smp = .onset then standbyOnset now c else quiet c
  | .fault | .absent => quiet c

/-- The sample that an arrival of a role bears, with the crusher whose relief it bears on (R65). -/
def sampleAt (r : Role) (s : State) : Option (Fin 4 × Sample) :=
  match r with
  | .pressure k =>
    (s.freshScalar (.pressure k)).map fun p => (k, pressureSample (s.crusher k).params p (s.reliefReported k))
  | .actuator k => (s.heldStatus k).map fun st => (k, statusSample st.reliefOpen (s.isFresh (.pressure k)))
  | _ => none

/-! ### The arrivals of a crusher (Table 1-6) -/

/-- PRESSURE of crusher k arrives (R65). -/
def pressureArrival (k : Fin 4) (s : State) : State :=
  match s.freshScalar (.pressure k) with
  | some pressure =>
    let c := s.crusher k
    changeCrusher k (takeSample s.tracker.cycleCount (pressureSample c.params pressure (s.reliefReported k)) c) s
  | none => s

/-- ACTUATOR of crusher k arrives: the relief-open flag first, then the status on the move in flight (R55). -/
def actuatorArrival (k : Fin 4) (s : State) : State :=
  match s.heldStatus k with
  | some st =>
    let smp := statusSample st.reliefOpen (s.isFresh (.pressure k))
    let s1 := changeCrusher k (takeSample s.tracker.cycleCount smp (s.crusher k)) s
    changeCrusher k (statusOnMove st (s1.crusher k)) s1
  | none => s

/-- GAP of crusher k arrives (R50, R52). -/
def gapOf (k : Fin 4) (s : State) : State :=
  changeCrusher k (quiet (gapArrival (s.view k) (s.crusher k))) s

/-- POWER of crusher k arrives: the feeder governor computes, then the crusher context checks its move (R18, R52). -/
def powerArrival (k : Fin 4) (s : State) : State :=
  let s1 := computeFeeder k s
  changeCrusher k (quiet (issueCheck (s1.view k) (s1.crusher k))) s1

/-- The counted cycle of the four crusher contexts (R34, R51, R57, R72). -/
def cycleCrushers (s : State) : State :=
  forFour (fun k t => changeCrusher k (cycleCrusher (t.governed k) (t.crusher k)) t) s

/-- The signal of R45 to every crusher context. -/
def signalCrushers (s : State) : State :=
  forFour (fun k t => changeCrusher k (quiet (standDown (t.governed k) (t.crusher k))) t) s

end Sys2Proof.Machine
end

