-- ==== Sys2Proof/Machine/Line.lean ====
section
/-!
DEFINITION. The line mode controller (Chapter 7): changes of line mode with what the neighbours do at them, the trip
inputs and the trip, the orderly stop, and the controller's part in lock acquisition, lock loss and warm restart.
-/

namespace Sys2Proof.Machine

/-! ### Changes of mode (R131) -/

/-- The modes in which a feeder output may be nonzero (Table 7-1). -/
def LineMode.feeds : LineMode → Bool
  | .run | .stopping => true
  | .idle | .ready | .stopped | .tripped => false

/-- Whether a change of mode zeroes every feeder (R93). -/
def zeroesFeeders (old new : LineMode) : Bool :=
  (old.feeds && (new == .idle || new == .stopped || new == .tripped)) || (old != .tripped && new == .tripped)

/-- Whether a change of mode signals the crusher contexts: entry to TRIPPED and entry to STOPPED (R45, R131). -/
def signalsCrushers (old new : LineMode) : Bool :=
  (old != .tripped && new == .tripped) || (old != .stopped && new == .stopped)

/-- lineMode changes, and the neighbours take the change (R131): the feeders (R93), the crusher contexts (R45), the
TRIP_OUT pin, and the cause unit, where TRIP is raised at each entry to TRIPPED and ceases on leaving it. -/
def changeMode (mode : LineMode) (s : State) : State :=
  let old := s.line.lineMode
  let s1 := { s with line := { s.line with lineMode := mode }, pins := { s.pins with tripOut := mode == .tripped } }
  let s2 := if zeroesFeeders old mode then zeroFeeders s1 else s1
  let s3 := if signalsCrushers old mode then signalCrushers s2 else s2
  settleLevel .trip (raiseIf (old != .tripped && mode == .tripped) .trip s3)

/-- The stop record, if any, is discarded and lastStopEnd says how the stop ended (R138). -/
def discardStop (how : StopEnd) (s : State) : State :=
  if s.line.stopRec.isSome then { s with line := { s.line with stopRec := none, lastStopEnd := how } } else s

/-! ### Trip inputs (R132, R133) -/

/-- No trip input. -/
def TripInputs.none : TripInputs := { pin := false, unitLine := false, unitStale := false, lines := 0 }

/-- Whether a set of trip inputs has any member. -/
def TripInputs.any (a : TripInputs) : Bool := a.pin || a.unitLine || a.unitStale

/-- Two sets of trip inputs together. -/
def TripInputs.union (a b : TripInputs) : TripInputs :=
  { pin := a.pin || b.pin, unitLine := a.unitLine || b.unitLine, unitStale := a.unitStale || b.unitStale,
    lines := a.lines ||| b.lines }

/-- The trip inputs found active (R132), with the active unit lines: those set in a FRESH trip word that tripMask
enables. -/
def tripInputs (s : State) : TripInputs :=
  if hasRole s.activeTable .tripUnit then
    match s.recordOf .tripUnit with
    | some rec =>
      if rec.fresh then
        let lines := (rec.tripWord?.getD 0) &&& s.params.tripMask
        { pin := s.pins.tripInLow, unitLine := lines != 0, unitStale := false, lines := lines }
      else { TripInputs.none with pin := s.pins.tripInLow, unitStale := true }
    | Option.none => { TripInputs.none with pin := s.pins.tripInLow, unitStale := true }
  else { TripInputs.none with pin := s.pins.tripInLow }

/-- PIN alone, as judged at the end of power-on reset and at warm restart (R133, R144). -/
def pinInput (s : State) : TripInputs := { TripInputs.none with pin := s.pins.tripInLow }

/-- Entry to TRIPPED (R134). -/
def enterTripped (a : TripInputs) (s : State) : State :=
  let s1 := discardStop .tripped s
  let rec1 : TripRec := { fromMode := s.line.lineMode, entryCycle := s.tracker.cycleCount, inputs := a }
  changeMode .tripped
    { s1 with line := { s1.line with tripRec := some rec1, tripEntries := countUp s1.line.tripEntries } }

/-- Inputs found active in TRIPPED are added to the trip record (R133). -/
def addTripInputs (a : TripInputs) (s : State) : State :=
  { s with line := { s.line with tripRec := s.line.tripRec.map fun r => { r with inputs := r.inputs.union a } } }

/-- An evaluation that found the inputs `a` (R133). -/
def takeTripInputs (a : TripInputs) (s : State) : State :=
  if a.any then if s.line.lineMode = .tripped then addTripInputs a s else enterTripped a s else s

/-- The controller evaluates the trip inputs (R133). -/
def evaluateTrip (s : State) : State := takeTripInputs (tripInputs s) s

/-! ### The orderly stop (R138 to R141) -/

/-- The completion test: no lot in the table, and inventory at or below drawDown (R139). -/
def completionTest (s : State) : Bool := s.lots.table.isEmpty && decide (s.lots.inventory ≤ s.params.drawDown)

/-- A stop ends by completion or by its limit (R141). -/
def endStop (how : StopEnd) (s : State) : State :=
  changeMode .stopped { s with line := { s.line with stopRec := none, lastStopEnd := how } }

/-- The completion test at a retirement (R139). -/
def retirementTest (s : State) : State :=
  if s.line.lineMode = .stopping ∧ completionTest s then endStop .completed s else s

/-- The counted cycle of the controller (R140). -/
def cycleLine (s : State) : State :=
  if s.line.lineMode = .stopping then
    if completionTest s then endStop .completed s
    else
      match s.line.stopRec with
      | some r =>
        if r.remaining ≤ 1 then raise .stopForced (endStop .forced s)
        else { s with line := { s.line with stopRec := some { r with remaining := r.remaining - 1 } } }
      | none => s
  else s

/-! ### Lock and warm restart (R128, R137, R144) -/

/-- Lock acquired: IDLE becomes READY, and the trip inputs are evaluated (R128). -/
def lineAcquired (s : State) : State :=
  evaluateTrip (if s.line.lineMode = .idle then changeMode .ready s else s)

/-- Lock lost: every mode but TRIPPED goes to IDLE; a stop ends with LOCK_LOST (R137). -/
def lineLockLost (s : State) : State :=
  if s.line.lineMode = .tripped ∨ s.line.lineMode = .idle then s else changeMode .idle (discardStop .lockLost s)

/-- Warm restart: TRIPPED stays, every other mode enters IDLE, a stop ends with RESTART; then PIN is evaluated (R144). -/
def lineRestart (s : State) : State :=
  let s1 := if s.line.lineMode = .tripped then s else changeMode .idle (discardStop .restart s)
  takeTripInputs (pinInput s1) s1

end Sys2Proof.Machine
end

