-- ==== Sys2Proof/Machine/Lots.lean ====
section
/-!
DEFINITION. Lots, the diverter and the surge bin (Chapter 6): the walk of the lot table, weigh increments, metal hits,
marks, the diverter's confirm supervision, and the bin account.
-/

namespace Sys2Proof.Machine

/-! ### Lots (R102, R103) -/

/-- The most lots the table holds (R103). -/
def lotTableSize : Nat := 64

/-- The distance from one belt position to another, modulo 2^32 (R102). -/
def distance (a b : Long) : Nat := (b - a).toNat

/-- The diverter command the table calls for (R117). -/
def divertFor (table : List Lot) : Divert :=
  if table.any fun l => l.state == .passing && l.reject then .reject else .pass

/-- A lot as opened at a position with a tag and a tonnage (R112). -/
def openLot (tag : Byte) (pos tonnage : Long) : Lot :=
  { tag := tag, state := .opened, tonnage := tonnage, startPos := pos, endPos := none, reject := false,
    rejectSource := none, extended := false }

/-- A lot marked for rejection by a source; a lot already marked keeps its mark and source (R113, R114). -/
def markLot (src : RejectSource) (l : Lot) : Lot :=
  if l.reject then l else { l with reject := true, rejectSource := some src }

/-- More rock on a lot, modulo 2^32 (R112). -/
def loadLot (w : Long) (l : Lot) : Lot := { l with tonnage := l.tonnage + w }

/-- Whether an OPEN lot exists. -/
def hasOpenLot (table : List Lot) : Bool := table.any fun l => l.state == .opened

/-- The OPEN lot changed; by R103 there is at most one. -/
def changeOpenLot (f : Lot → Lot) : List Lot → List Lot
  | [] => []
  | l :: rest => if l.state = .opened then f l :: rest else l :: changeOpenLot f rest

/-- The youngest lot changed. -/
def changeYoungest (f : Lot → Lot) : List Lot → List Lot
  | [] => []
  | [l] => [f l]
  | l :: m :: rest => l :: changeYoungest f (m :: rest)

/-- The lot of a tag changed; by R103 a tag is unique in the table. -/
def changeTagged (f : Lot → Lot) (tag : Byte) : List Lot → List Lot
  | [] => []
  | l :: rest => if l.tag = tag then f l :: rest else l :: changeTagged f tag rest

/-! ### The walk (R107 to R110) -/

/-- The close event (R108): the lot, and whether LOT_TABLE_FULL is raised. -/
def closeEvent (p : LineParams) (pos : Long) (rowFree : Bool) (l : Lot) : Lot × Bool :=
  if l.state = .opened ∧ p.lotLength ≤ distance l.startPos pos then
    if rowFree then ({ l with state := .riding, endPos := some pos }, false)
    else ({ l with extended := true }, !l.extended)
  else (l, false)

/-- The head event (R109): an OPEN lot is force-closed first. -/
def headEvent (p : LineParams) (pos : Long) (l : Lot) : Lot :=
  if p.transportDistance - p.divertLead ≤ distance l.startPos pos then
    match l.state with
    | .opened => { l with state := .passing, endPos := some pos }
    | .riding => { l with state := .passing }
    | .passing => l
  else l

/-- Whether the tail of a PASSING lot has been reached (R110). -/
def tailReached (p : LineParams) (pos : Long) (l : Lot) : Bool :=
  match l.state, l.endPos with
  | .passing, some e => decide (p.transportDistance ≤ distance e pos)
  | _, _ => false

/-- What a walk has done so far: the lots kept, the accounts, and what it has to report. -/
structure Walk where
  kept : List Lot
  inventory : Nat
  credited : Long
  rejected : Long
  fulls : Nat
  retired : Bool
deriving DecidableEq, Repr

/-- Retirement of a lot (R110): a marked lot goes to the reject total, another to the bin, saturating at capacity. -/
def retireLot (p : LineParams) (l : Lot) (w : Walk) : Walk :=
  if l.reject then { w with rejected := w.rejected + l.tonnage, retired := true }
  else
    { w with credited := w.credited + l.tonnage, inventory := min p.capacity (w.inventory + l.tonnage.toNat),
             retired := true }

/-- The walk of the lot table, oldest lot first; each lot's events are settled before the next lot's (R107). A row is
free when the lots kept, this one and those still to come are fewer than 64. -/
def walkLots (p : LineParams) (pos : Long) : List Lot → Walk → Walk
  | [], w => w
  | l :: rest, w =>
    let closed := closeEvent p pos (decide (w.kept.length + 1 + rest.length < lotTableSize)) l
    let headed := headEvent p pos closed.1
    let w1 := { w with fulls := w.fulls + (if closed.2 then 1 else 0) }
    if tailReached p pos headed then walkLots p pos rest (retireLot p headed w1)
    else walkLots p pos rest { w1 with kept := w1.kept ++ [headed] }

/-- The walk of a tracker's table at its position. -/
def walkOf (p : LineParams) (l : LotTracker) : Walk :=
  walkLots p l.position l.table
    { kept := [], inventory := l.inventory, credited := l.creditedTotal, rejected := l.rejectedTotal, fulls := 0,
      retired := false }

/-- The lot events at the new position (R107): the walk, the diverter command (R117), LOT_TABLE_FULL, and the signal of
a retirement to the line mode controller. -/
def lotEvents (s : State) : State :=
  let w := walkOf s.params s.lots
  let s1 :=
    s.setLots
      { s.lots with
        table := w.kept
        inventory := w.inventory
        creditedTotal := w.credited
        rejectedTotal := w.rejected
        divertCommand := divertFor w.kept }
  let s2 := raiseTimes .lotTableFull w.fulls s1
  if w.retired then retirementTest s2 else s2

/-! ### Arrivals (R105, R106, R111, R112, R113) -/

/-- A BELT_TRAVEL increment, while tracking is active (R105, R106). -/
def travelArrival (d : Nat) (s : State) : State :=
  if trackingActive s.activeTable = false ∨ d = 0 then s
  else if 32767 < d then s.setLots { s.lots with reverseTravels := countUp s.lots.reverseTravels }
  else lotEvents (s.setLots { s.lots with position := s.lots.position + BitVec.ofNat 32 d })

/-- A lot opened at the young end of the table, with the tag counter's tag (R103). -/
def LotTracker.addLot (l : LotTracker) (lot : Lot) : LotTracker :=
  { l with table := l.table ++ [lot], tagCounter := l.tagCounter + 1 }

/-- An accepted weigh increment is placed on a lot (R112). -/
def placeWeigh (w : Long) (s : State) : State :=
  let l := s.lots
  if hasOpenLot l.table then s.setLots { l with table := changeOpenLot (loadLot w) l.table }
  else if l.table.length < lotTableSize then s.setLots (l.addLot (openLot l.tagCounter l.position w))
  else
    raise .lotTableFull
      (s.setLots
        { l with table := changeYoungest (loadLot w) l.table, mergedIncrements := countUp l.mergedIncrements })

/-- A BELT_SCALE increment, while tracking is active (R105, R111). -/
def weighArrival (w : Nat) (s : State) : State :=
  if trackingActive s.activeTable = false ∨ w = 0 then s
  else if s.params.maxIncrement < w then
    s.setLots { s.lots with discardedIncrements := countUp s.lots.discardedIncrements }
  else
    let l := s.lots
    placeWeigh (BitVec.ofNat 32 w) (s.setLots { l with weighedTotal := l.weighedTotal + BitVec.ofNat 32 w })

/-- A METAL increment, while tracking is active (R105, R113). -/
def metalArrival (h : Nat) (s : State) : State :=
  let l := s.lots
  if trackingActive s.activeTable = false ∨ h = 0 then s
  else if hasOpenLot l.table then s.setLots { l with table := changeOpenLot (markLot .detector) l.table }
  else if l.table.length < lotTableSize then
    s.setLots (l.addLot (markLot .detector (openLot l.tagCounter l.position 0)))
  else raise .lotTableFull (s.setLots { l with unattributedHits := countUp l.unattributedHits })

/-- A FEEDER_TOTAL increment (R121). -/
def totalArrival (t : Nat) (s : State) : State :=
  let l := s.lots
  if s.params.maxIncrement < t then s.setLots { l with discardedIncrements := countUp l.discardedIncrements }
  else s.setLots { l with inventory := l.inventory - t, drawnTotal := l.drawnTotal + BitVec.ofNat 32 t }

/-- The inventory after a blend with the radar's level (R122). -/
def blended (p : LineParams) (inventory level : Nat) : Nat :=
  let est := min level 1000 * p.capacity / 1000
  (clampInt 0 p.capacity
    ((inventory : Int) + Int.tdiv (((est : Int) - inventory) * p.radarBlend) 16)).toNat

/-- BIN_LEVEL arrives (R122). -/
def levelArrival (s : State) : State :=
  match s.freshScalar .binLevel with
  | some level => s.setLots { s.lots with inventory := blended s.params s.lots.inventory level }
  | none => s

/-! ### Confirm supervision (R118, R119) -/

/-- Whether supervision is active: the DIVERTER entry is governed and dry-run is off (R118, R119). -/
def supervising (s : State) : Bool := governing s.activeTable .diverter && !s.handler.dryRun

/-- Whether the confirm held in the DIVERTER record matches the command (R118). In CLAMP a REJECT matches either. -/
def confirmMatches (s : State) : Bool :=
  match s.recordOf .diverter with
  | some rec =>
    match rec.fresh, rec.confirm? with
    | true, some d =>
      d == s.lots.divertCommand ||
        (d == .reject && ((entryOf s.activeTable .diverter).bind Entry.mode?) == some .clamp)
    | _, _ => false
  | none => false

/-- The counted cycle of the confirm supervision (R118, R119). -/
def cycleConfirm (s : State) : State :=
  if supervising s && !confirmMatches s then
    let count := countUp255 s.lots.mismatchCount
    let found := decide (s.params.divertConfirm ≤ count)
    raiseIf (found && !s.lots.mismatch) .diverterMismatch
      (s.setLots { s.lots with mismatchCount := count, mismatch := s.lots.mismatch || found })
  else settleLevel .diverterMismatch (s.setLots { s.lots with mismatchCount := 0, mismatch := false })

/-! ### Marks from the master (R114) -/

/-- The lot a tag names. -/
def lotTagged (table : List Lot) (tag : Byte) : Option Lot := table.find? fun l => l.tag == tag

/-- The mark of REJECT_LOT: an OPEN or RIDING lot is marked, a PASSING one is not (Table 6-4). -/
def masterMark (l : Lot) : Lot := if l.state = .passing then l else markLot .master l

end Sys2Proof.Machine
end

