-- ==== Sys2Proof/Machine/Store.lean ====
section
/-!
DEFINITION. The observer and the observed-value store (Chapter 1): taking a reply's fields, handing over its arrivals,
aging, stale notices, and the application of a station or a curve commit.
-/

namespace Sys2Proof.Machine

/-! ### Taking a field (R15, R16, R17) -/

/-- What the observer does with one entry at one reply. -/
inductive Taken
  /-- The entry is not matched, or reads no field. -/
  | unread
  /-- The field does not fit the payload (R15). -/
  | short
  /-- The field is discarded (R16). -/
  | bad
  /-- The field is stored; for a counter with its baseline set, and for every other role, it is an arrival, with the
  increment of a counter (R17, R18). -/
  | stored (rec : Record) (arrival : Option Nat)
deriving DecidableEq, Repr

/-- The record after a value has been stored: FRESH, with the current cycle (R15). -/
def freshRecord (now : Long) (v : Value) : Record := { fresh := true, arrival := some now, value := v }

/-- A counter field stored against its baseline (R17). -/
def storeCounter (now : Long) (modulus raw : Nat) (v : Value) : Taken :=
  .stored (freshRecord now (.counter (some raw) true))
    (match v with
    | .counter (some last) true => some ((raw + modulus - last) % modulus)
    | _ => none)

/-- A field of a role, decoded and stored (R15, R16, R17). -/
def storeField (now : Long) (e : Entry) (r : Role) (bytes : List Byte) (old : Record) : Taken :=
  match r.counterModulus with
  | some m => storeCounter now m (beNat bytes) old.value
  | none =>
    if r.isScalar then
      .stored (freshRecord now (.scalar (some (scaleScalar (beNat bytes) e.gain.toNat e.offset.toNat)))) (some 0)
    else
      match r with
      | .actuator _ =>
        match decodeStatus bytes with
        | some st => .stored (freshRecord now (.actuator (some st))) (some 0)
        | none => .bad
      | .diverter =>
        match divertOfCode (bytes.headD 0) with
        | some d => .stored (freshRecord now (.confirm (some d))) (some 0)
        | none => .bad
      | .tripUnit => .stored (freshRecord now (.tripWord (some (bytes.headD 0)))) (some 0)
      | _ => .unread

/-- What the observer does with entry i at a reply (R15). -/
def takeAt (s : State) (t : Telegram) (i : Fin 32) : Taken :=
  let e := s.activeTable[i]
  if e.used && e.address == t.src then
    match e.role?, s.store[i] with
    | some r, some old =>
      match r.readWidth, offsetOfCode e.readOffset with
      | some w, some off =>
        match fieldAt t.payload off w with
        | some bytes => storeField s.tracker.cycleCount e r bytes old
        | none => .short
      | _, _ => .unread
    | _, _ => .unread
  else .unread

/-- The indices of the station table. -/
def indices : List (Fin 32) := List.finRange 32

/-- The store with every taken field stored (R15). -/
def storeAfter (s : State) (t : Telegram) : Vector (Option Record) 32 :=
  indices.foldl
    (fun st i =>
      match takeAt s t i with
      | .stored rec _ => st.set i (some rec)
      | _ => st)
    s.store

/-- One arrival: its role, and the increment of a counter. -/
structure Arrival where
  role : Role
  increment : Nat
deriving DecidableEq, Repr

/-- The arrival a reply makes of entry i, if any. -/
def arrivalAt (s : State) (t : Telegram) (i : Fin 32) : Option Arrival :=
  match takeAt s t i, s.activeTable[i].role? with
  | .stored _ (some inc), some r => some { role := r, increment := inc }
  | _, _ => none

/-- The place of a role in the delivery order of Table 1-6; 0 for a role that makes no arrival (R18). -/
def deliveryRank : Role → Nat
  | .tripUnit => 1
  | .pressure _ => 2
  | .actuator _ => 3
  | .gap _ => 4
  | .power _ => 5
  | .beltScale => 6
  | .metal => 7
  | .beltTravel => 8
  | .feederTotal _ => 9
  | .binLevel => 10
  | .level _ | .feederDrive _ | .diverter => 0

/-- The arrivals of a reply, in the delivery order of Table 1-6. -/
def arrivalsOf (s : State) (t : Telegram) : List Arrival :=
  let all := indices.filterMap (arrivalAt s t)
  (List.range 11).flatMap fun rank => all.filter fun a => deliveryRank a.role == rank

/-- An owning block takes an arrival (Table 1-6). -/
def deliverArrival (a : Arrival) (s : State) : State :=
  match a.role with
  | .tripUnit => evaluateTrip s
  | .pressure k => pressureArrival k s
  | .actuator k => actuatorArrival k s
  | .gap k => gapOf k s
  | .power k => powerArrival k s
  | .beltScale => weighArrival a.increment s
  | .metal => metalArrival a.increment s
  | .beltTravel => travelArrival a.increment s
  | .feederTotal _ => totalArrival a.increment s
  | .binLevel => levelArrival s
  | .level _ | .feederDrive _ | .diverter => s

/-- How many entries the observer treats in a given way at a reply. -/
def countTaken (s : State) (t : Telegram) (x : Taken) : Nat := (indices.filter fun i => takeAt s t i == x).length

/-- The fields of a reply stored, and the short and bad fields counted (R15, R16). -/
def storeReply (t : Telegram) (s : State) : State :=
  { s with
    store := storeAfter s t
    shortFields := min 65535 (s.shortFields + countTaken s t .short)
    badFields := min 65535 (s.badFields + countTaken s t .bad) }

/-- The observer examines a REPLY that port F delivered: in SEARCH nothing is stored; while LOCKED every field is stored
before any arrival is handed over (R15, R18). An onset sample that comes together with a loss of lock is taken at the
loss, by `endLock` (R76). DEDUCED, unsafe: R142 has a trip input taken after a lock loss trip the line; for the trip unit
the model follows R132, by which SEARCH stores no trip word (assumption log 32). -/
def observe (t : Telegram) (s : State) : State :=
  if s.tracker.lockState = .locked then
    (arrivalsOf s t).foldl (fun u a => deliverArrival a u) (storeReply t s)
  else s

/-! ### Stale notices (R19, R20, R82, R133) -/

/-- The owner of record i is informed that it is STALE: a feeder governor computes (R82), the line mode controller
evaluates the trip inputs (R133); the other owners change nothing of their own (R57, R106, Table 1-7). -/
def noticeStale (i : Fin 32) (s : State) : State :=
  if s.activeTable[i].used then
    match s.activeTable[i].role? with
    | some (.power k) => computeFeeder k s
    | some .tripUnit => evaluateTrip s
    | _ => s
  else s

/-- Whether record i goes STALE at the current cycle: FRESH, with an age above its entry's freshLimit (R19). -/
def agesOut (s : State) (i : Fin 32) : Bool :=
  match s.store[i] with
  | some rec =>
    match rec.fresh, rec.arrival with
    | true, some a => decide (s.activeTable[i].freshLimit.toNat < ageOf s.tracker.cycleCount a)
    | _, _ => false
  | none => false

/-- A record made STALE, with its value and arrival kept (R19). -/
def Record.staled (rec : Record) : Record := { rec with fresh := false }

/-- The counted cycle of the store (R19): each record that ages out becomes STALE and raises STALE_INPUT, and each
owner is informed. -/
def cycleStore (s : State) : State :=
  let out := indices.filter (agesOut s)
  let s1 := { s with store := out.foldl (fun st (i : Fin 32) => st.set i (st[i].map Record.staled)) s.store }
  inFreeOrder out noticeStale (raiseTimes .staleInput out.length s1)

/-- A record with its counter baseline cleared (R17). -/
def Record.unbased (rec : Record) : Record :=
  match rec.value with
  | .counter last _ => { rec with value := .counter last false }
  | _ => rec

/-- Every record becomes STALE and every counter baseline is cleared (R20). -/
def staleAll (s : State) : State :=
  { s with store := s.store.map fun o => o.map fun rec => rec.staled.unbased }

/-- Every owner is informed that each of its records is stale, as at lock acquisition (R20). -/
def noticeAll (s : State) : State := inFreeOrder (indices.filter fun i => s.activeTable[i].used) noticeStale s

/-! ### Application of a commit (R13, R41, R42, R75, R98, R184) -/

/-- The value of a new record, in the form of its role type (Table 1-5). -/
def initialValue : Role → Value
  | .power _ | .gap _ | .level _ | .pressure _ | .binLevel => .scalar none
  | .feederTotal _ | .beltScale | .beltTravel | .metal => .counter none false
  | .actuator _ => .actuator none
  | .feederDrive _ => .nothing
  | .diverter => .confirm none
  | .tripUnit => .tripWord none

/-- A new record: stale, with no value, no arrival cycle and no baseline (R13). -/
def newRecord (e : Entry) : Record :=
  { fresh := false, arrival := none, value := match e.role? with
      | some r => initialValue r
      | none => .nothing }

/-- The index of the old entry identical in every field to a new one (R13). -/
def identicalIndex (old : Vector Entry 32) (e : Entry) : Option (Fin 32) := indices.find? fun j => old[j] == e

/-- Whether index i of the new bank gets a new record: its entry is used and no old entry is identical (R13). -/
def isNewRecord (old new : Vector Entry 32) (i : Fin 32) : Bool :=
  new[i].used && (identicalIndex old new[i]).isNone

/-- The record under index i after the store is rebuilt (R13). -/
def rebuiltRecord (old new : Vector Entry 32) (store : Vector (Option Record) 32) (i : Fin 32) : Option Record :=
  if new[i].used then
    match identicalIndex old new[i] with
    | some j => store[j]
    | none => some (newRecord new[i])
  else none

/-- The store rebuilt to match a new active bank (R13). -/
def rebuiltStore (old new : Vector Entry 32) (store : Vector (Option Record) 32) : Vector (Option Record) 32 :=
  indices.foldl (fun st (i : Fin 32) => st.set i (rebuiltRecord old new store i)) store

/-- Whether a new record was created for the entry of a role (R42). -/
def roleReplaced (old new : Vector Entry 32) (r : Role) : Bool :=
  match roleIndex new r with
  | some i => isNewRecord old new i
  | none => false

/-- What a station commit tells crusher context k. -/
def commitNews (old new : Vector Entry 32) (k : Fin 4) : CommitNews :=
  { present := present new k
    wasGoverned := governed old k
    isGoverned := governed new k
    replaced := roleReplaced old new (.gap k) || roleReplaced old new (.actuator k)
    reliefInput := hasReliefInput new k }

/-- Whom a station commit informs: the owner of a new record, or a crusher context (R13). -/
inductive Informed
  | record (i : Fin 32)
  | crusher (k : Fin 4)
deriving DecidableEq, Repr

/-- One block is informed of a station commit (R13, R41). -/
def informCommit (old new : Vector Entry 32) (x : Informed) (s : State) : State :=
  match x with
  | .record i => noticeStale i s
  | .crusher k => changeCrusher k (quiet (commitCrusher (commitNews old new k) (s.crusher k))) s

/-- A pending station commit is applied (R13, R184): the staged bank is copied, the store rebuilt, every drive value
recomputed (R81), the blocks informed in an order the spec leaves open, and TABLE_COMMITTED raised. -/
def applyStation (s : State) : State :=
  let old := s.activeTable
  let new := s.stagedTable
  let s1 :=
    { s with
      activeTable := new
      store := rebuiltStore old new s.store
      handler := { s.handler with pendingStation := false } }
  let whom := four.map Informed.crusher ++ (indices.filter (isNewRecord old new)).map Informed.record
  raise .tableCommitted (inFreeOrder whom (informCommit old new) (forFour refreshDrive s1))

/-- The points of a staged curve whose count passed validation (R95, R98). -/
def curveOfStaged (words : StagedCurve) : Curve :=
  (List.finRange 16).filterMap fun i =>
    if i.val < words[0].toNat then some { x := words[1 + 2 * i.val].toNat, y := words[2 + 2 * i.val].toNat } else none

/-- A pending curve commit is applied (R98, R184). -/
def applyCurve (s : State) : State :=
  raise .tableCommitted
    { s with
      activeCurves := s.stagedCurves.map curveOfStaged
      handler := { s.handler with pendingCurve := false } }

/-- A pending commit on one bank is applied, if there is one. -/
def applyPending (b : Bank) (s : State) : State :=
  match b with
  | .station => if s.handler.pendingStation then applyStation s else s
  | .curve => if s.handler.pendingCurve then applyCurve s else s

/-- The commits pending on either bank are applied (R184), in an order the spec leaves open. -/
def applyCommits (s : State) : State := inFreeOrder [Bank.station, Bank.curve] applyPending s

end Sys2Proof.Machine
end

