-- ==== Sys2Proof/Machine/Tracker.lean ====
section
/-!
DEFINITION. Cycle markers and line time (Chapter 2): taking a marker, the counted cycle, acquiring and losing lock, and
the supervision timer.
-/

namespace Sys2Proof.Machine

/-! ### The counted cycle (R34) -/

/-- The users of the counted cycle (Table 2-2). -/
inductive CycleUser
  | store
  | crushers
  | confirm
  | line
  | handler
deriving DecidableEq, Repr

/-- The users of Table 2-2. -/
def cycleUsers : List CycleUser := [.store, .crushers, .confirm, .line, .handler]

/-- The work of one user at a counted cycle (Table 2-2). -/
def cycleWork (u : CycleUser) (s : State) : State :=
  match u with
  | .store => cycleStore s
  | .crushers => cycleCrushers s
  | .confirm => cycleConfirm s
  | .line => cycleLine s
  | .handler => applyCommits s

/-- A counted cycle is handed over to its users; the tracker gives them no order among themselves (R34). -/
def countedCycle (s : State) : State := inFreeOrder cycleUsers cycleWork s

/-! ### Acquiring and losing lock (R28, R31, R32) -/

/-- Whom the tracker signals at the acquisition of lock (R28). -/
inductive AcquireUser
  | store
  | line
  | handler
deriving DecidableEq, Repr

/-- The part of one block in the acquisition of lock: the store informs the owners of its records (R20), the controller
moves from IDLE to READY and evaluates the trip inputs (R128), the handler applies pending commits (R184). -/
def acquireWork (u : AcquireUser) (s : State) : State :=
  match u with
  | .store => noticeAll s
  | .line => lineAcquired s
  | .handler => applyCommits s

/-- Lock is acquired (R28): the tracker's own state, the LOCK pin and the store's records first, then the signals. -/
def acquireLock (s : State) : State :=
  let s1 :=
    { s with
      tracker := { s.tracker with lockState := .locked, slipRun := 0 }
      pins := { s.pins with lock := true } }
  inFreeOrder [AcquireUser.store, .line, .handler] acquireWork (staleAll s1)

/-- Lock is lost (R31, R32): the tracker's own state, the LOCK pin, LOCK_LOST, then the line mode controller (R137), the
crusher contexts (R45) and the feeder governors. -/
def loseLock (s : State) : State :=
  let t := s.tracker
  let s1 :=
    { s with
      tracker :=
        { t with lockState := .search, runCount := 0, slipRun := 0, expected := none, supervision := none,
                 lockLosses := countUp t.lockLosses }
      pins := { s.pins with lock := false } }
  zeroFeeders (signalCrushers (lineLockLost (raise .lockLost s1)))

/-! ### A reply that comes together with a loss of lock (R76) -/

/-- The REPLY whose bytes on the line these are, if they are those of one (R147). -/
def replyOfBytes (bytes : List Byte) : Option Telegram :=
  match bytes with
  | _ :: dst :: src :: fn :: n :: rest =>
    let t := Telegram.make .reply dst src fn (rest.take n.toNat)
    if n.toNat ≤ 40 ∧ t.bytes = bytes then some t else none
  | _ => none

/-- The REPLY that waits at port F: the front of the queue delivers it whole, or is its last character. -/
def State.waitingReply (s : State) : Option Telegram :=
  match s.pending with
  | .fieldReply dst src fn payload :: _ | .fTelegramForward .reply dst src fn payload :: _ =>
    if payload.length ≤ 40 then some (Telegram.make .reply dst src fn payload) else none
  | .goodCharacter .f byte :: _ =>
    match s.portF.rx with
    | .receiving part => replyOfBytes (part ++ [byte])
    | _ => none
  | _ => none

/-- The crushers for which a reply holds an onset sample, one for each sample in the delivery order (R18, R65). -/
def onsetsOf (t : Telegram) (s : State) : List (Fin 4) :=
  (arrivalsOf s t).filterMap fun a =>
    match sampleAt a.role (storeReply t s) with
    | some (k, .onset) => some k
    | _ => none

/-- The crushers for which the waiting reply holds an onset sample. -/
def waitingOnsets (s : State) : List (Fin 4) :=
  match s.waitingReply with
  | some t => onsetsOf t s
  | none => []

/-- The context of crusher k takes an onset sample (R66, R67, R68). -/
def takeOnset (k : Fin 4) (s : State) : State :=
  changeCrusher k (takeSample s.tracker.cycleCount .onset (s.crusher k)) s

/-- Lock is lost (R31, R32). An onset sample that comes together with the loss is taken after it, and creates or reopens
the relief record in STANDBY (R76); the reply is not stored (R15). DESIGN CHOICE, safe: a reply can have come together with
the loss where it waits as lock is lost, and whether it has is a free value (assumption log 33). -/
def endLock (s : State) : State :=
  match waitingOnsets s with
  | [] => loseLock s
  | ks =>
    let s1 := loseLock { s with freeCount := s.freeCount + 1 }
    if Config.freeMeeting s.freeCount then ks.foldl (fun u k => takeOnset k u) s1 else s1

/-! ### Taking a marker (R24, R26, R29, R30) -/

/-- The cycle number and announced period of a valid marker: length 2 and a period of 2 to 250 (R24). -/
def validMarker (payload : List Byte) : Option (Byte × Nat) :=
  match payload with
  | [number, period] => if inRange 2 250 period.toNat then some (number, period.toNat) else none
  | _ => none

/-- What every valid marker does to the tracker: expected, period, and supervision afresh with 3 × the period (R25). -/
def Tracker.noteMarker (t : Tracker) (number : Byte) (period : Nat) : Tracker :=
  { t with expected := some (number + 1), period := some period, supervision := some (3 * period) }

/-- The run after a valid marker in SEARCH (R26). -/
def Tracker.runAfter (t : Tracker) (number : Byte) : Nat :=
  if t.expected = some number then t.runCount + 1 else 1

/-- A valid marker in SEARCH (R26): lock is acquired when the run reaches lockThreshold. -/
def markerInSearch (number : Byte) (period : Nat) (s : State) : State :=
  let run := s.tracker.runAfter number
  let s1 := { s with tracker := { s.tracker.noteMarker number period with runCount := run } }
  if s.params.lockThreshold ≤ run then acquireLock s1 else s1

/-- The tracker after a valid marker in LOCKED: in sequence by R29, otherwise a slip by R30. -/
def Tracker.countMarker (t : Tracker) (number : Byte) (period : Nat) : Tracker :=
  let t1 := { t.noteMarker number period with cycleCount := t.cycleCount + 1 }
  if t.expected = some number then { t1 with slipRun := 0 }
  else { t1 with slipRun := t.slipRun + 1, slips := countUp t.slips }

/-- A valid marker in LOCKED (R29, R30): the counted cycle is handed over before lock ends at the fourth slip. -/
def markerInLock (number : Byte) (period : Nat) (s : State) : State :=
  let t1 := s.tracker.countMarker number period
  let s1 := countedCycle { s with tracker := t1 }
  if 4 ≤ t1.slipRun then endLock s1 else s1

/-- The tracker takes the payload of a CYCLE telegram (R24). -/
def takeMarker (payload : List Byte) (s : State) : State :=
  match validMarker payload with
  | some (number, period) =>
    match s.tracker.lockState with
    | .search => markerInSearch number period s
    | .locked => markerInLock number period s
  | none =>
    raise .lineError
      { s with tracker := { s.tracker with invalidMarkers := countUp s.tracker.invalidMarkers } }

/-! ### Supervision (R25, R27, R31) -/

/-- An expiry: in SEARCH the run ends (R27), in LOCKED lock ends (R31). The timer stops. -/
def expireSupervision (s : State) : State :=
  let s1 := { s with tracker := { s.tracker with supervision := none } }
  match s.tracker.lockState with
  | .search => { s1 with tracker := { s1.tracker with runCount := 0, expected := none } }
  | .locked => endLock s1

/-- One tick of the 1 ms timer (R25). -/
def tick (s : State) : State :=
  match s.tracker.supervision with
  | some left =>
    if left ≤ 1 then expireSupervision s
    else { s with tracker := { s.tracker with supervision := some (left - 1) } }
  | none => s

/-! ### Commands -/

/-- SUPERVISION_EXPIRY (R25): while the timer is stopped no expiry occurs. DESIGN CHOICE, unsafe: the command stands for
the timer having run down, and expires it at once whatever remaining time is held (assumption log 31). -/
def execSupervisionExpiry (s : State) : Host.Outcome State Fault Refusal :=
  .next (if s.tracker.supervision.isSome then expireSupervision s else s)

/-- TRIP_IN_CHANGE (R133): a change of level makes the controller evaluate the trip inputs. -/
def execTripInChange (low : Bool) (s : State) : Host.Outcome State Fault Refusal :=
  .next
    (if low = s.pins.tripInLow then s else evaluateTrip { s with pins := { s.pins with tripInLow := low } })

end Sys2Proof.Machine
end

