-- ==== Sys2Proof/Machine/Rewriter.lean ====
section
/-!
DEFINITION. Rewriting governed telegrams (Chapter 9): the lookup of the output entry, the fit of the field, the three
output roles, and the check.
-/

namespace Sys2Proof.Machine

/-- The output entry of a destination: the used entry of that address whose role is an output role (R161). -/
def outputEntry (tab : Vector Entry 32) (dst : Byte) : Option (Entry × Role) :=
  ((List.finRange 32).find? fun i =>
      tab[i].used && tab[i].address == dst && (tab[i].role?.map Role.isOutput).getD false).bind
    fun i => tab[i].role?.map fun r => (tab[i], r)

/-- The part's speed for feeder j: its drive value in RUN and STOPPING, otherwise 0 (R165). -/
def partSpeed (s : State) (j : Fin 4) : Nat := if s.line.lineMode.feeds then (s.feeder j).driveValue.getD 0 else 0

/-- What the rewriter does with a field that fits: the bytes it writes, if it writes any, and its counters. -/
structure Written where
  bytes : Option (List Byte)
  masterAdjust : Bool
  unknownCode : Bool
deriving DecidableEq, Repr

/-- A field written, with no counter but `rewrites`. -/
def written (bytes : List Byte) : Written := { bytes := some bytes, masterAdjust := false, unknownCode := false }

/-- FEEDER_DRIVE (R165): the part's speed in GOVERN, the lower of both in CLAMP. -/
def writeSpeed (clamped : Bool) (part : Nat) (field : List Byte) : Written :=
  written (beBytes 2 (if clamped then min (beNat field) part else part))

/-- ACTUATOR (R166): the part's command; under CLAMP a HOLD passes the master's field, whose code is read. -/
def writeCommand (clamped : Bool) (c : Command) (field : List Byte) : Written :=
  if clamped && c.kind == .hold then
    let code := (field.headD 0).toNat / 16
    { bytes := none, masterAdjust := code == 2, unknownCode := code != 1 && code != 2 && code != 3 }
  else written (encodeCommand c)

/-- DIVERTER (R167): divertCommand in GOVERN; under CLAMP a REJECT of either side rejects. -/
def writeDivert (clamped : Bool) (d : Divert) (field : List Byte) : Written :=
  if clamped then
    let master := divertOfCode (field.headD 0)
    { written [if master = some .reject ∨ d = .reject then Divert.code .reject else Divert.code .pass] with
      unknownCode := master.isNone }
  else written [d.code]

/-- What the rewriter does with the field of an output role, by the mode of the entry (R165, R166, R167). -/
def writeRole (s : State) (r : Role) (clamped : Bool) (field : List Byte) : Written :=
  match r with
  | .feederDrive j => writeSpeed clamped (partSpeed s j) field
  | .actuator k => writeCommand clamped (s.crusher k).command field
  | .diverter => writeDivert clamped s.lots.divertCommand field
  | _ => { bytes := none, masterAdjust := false, unknownCode := false }

/-- A counter that advances if a condition holds, saturating. -/
def countIf (b : Bool) (n : Nat) : Nat := if b then countUp n else n

/-- The telegram with a field replaced and its check computed anew (R168). -/
def Telegram.withField (t : Telegram) (off : Nat) (bytes : List Byte) : Telegram :=
  Telegram.make t.kind t.dst t.src t.fn (putField t.payload off bytes)

/-- The rewriter's counters after a field has been treated (R166, R167, R168). -/
def Rewriter.count (r : Rewriter) (w : Written) : Rewriter :=
  { r with
    rewrites := countIf w.bytes.isSome r.rewrites
    masterAdjusts := countIf w.masterAdjust r.masterAdjusts
    unknownCodes := countIf w.unknownCode r.unknownCodes }

/-- An entry in GOVERN or CLAMP (R164): the field is written, or the telegram is a rewrite miss. -/
def rewriteGoverned (e : Entry) (r : Role) (clamped : Bool) (t : Telegram) (s : State) : Telegram × State :=
  match offsetOfCode e.writeOffset, r.writeWidth with
  | some off, some width =>
    match fieldAt t.payload off width with
    | some field =>
      let w := writeRole s r clamped field
      let s1 := { s with rewriter := s.rewriter.count w }
      match w.bytes with
      | some bytes => (t.withField off bytes, s1)
      | none => (t, s1)
    | none =>
      (t,
        raise .configGap
          { s with rewriter := { s.rewriter with rewriteMisses := countUp s.rewriter.rewriteMisses } })
  | _, _ => (t, s)

/-- The rewriter takes a REQUEST whose transmission on port F begins (R161, R162, R163): what is sent, and the state. -/
def rewrite (t : Telegram) (s : State) : Telegram × State :=
  if s.handler.dryRun then (t, s)
  else
    match outputEntry s.activeTable t.dst with
    | some (e, r) =>
      match e.mode? with
      | some .govern => rewriteGoverned e r false t s
      | some .clamp => rewriteGoverned e r true t s
      | _ => (t, s)
    | none => (t, s)

end Sys2Proof.Machine
end

