-- ==== Sys2Proof/Machine/Ports.lean ====
section
/-!
DEFINITION. Ports and relay (Chapter 8): the relay queues, reception errors, breaks, and transmission.
-/

namespace Sys2Proof.Machine

/-! ### The relay queues (R151) -/

/-- The most telegrams a relay queue holds (R151). -/
def queueSize : Nat := 4

/-- A forwarded telegram joins the F-bound queue, or is dropped as an overrun (R151, R156). -/
def joinF (t : Telegram) (s : State) : State :=
  if s.relay.fBound.length < queueSize then { s with relay := { s.relay with fBound := s.relay.fBound ++ [t] } }
  else raise .lineError { s with relay := { s.relay with overrunsF := countUp s.relay.overrunsF } }

/-- A forwarded telegram joins the M-bound queue, or is dropped as an overrun (R151, R156). -/
def joinM (t : Telegram) (s : State) : State :=
  if s.relay.mBound.length < queueSize then { s with relay := { s.relay with mBound := s.relay.mBound ++ [t] } }
  else raise .lineError { s with relay := { s.relay with overrunsM := countUp s.relay.overrunsM } }

/-- A reply of the part joins the M-bound queue, or is dropped as a reply drop (R151, R155, R156). -/
def joinReply (t : Telegram) (s : State) : State :=
  if s.relay.mBound.length < queueSize then { s with relay := { s.relay with mBound := s.relay.mBound ++ [t] } }
  else raise .lineError { s with relay := { s.relay with replyDrops := countUp s.relay.replyDrops } }

/-! ### Sessions (R182) -/

/-- An open session ends: its fields are copied into lastSession, and lastSessionEnd says how (R182). -/
def endSession (how : SessionEnd) (s : State) : State :=
  match s.handler.session with
  | some ses =>
    { s with handler := { s.handler with session := none, lastSession := some ses, lastSessionEnd := how } }
  | none => s

/-! ### Reception (R145 to R149) -/

/-- The receiver of a port takes a state. -/
def setRx (p : PortId) (rx : Rx) (s : State) : State := s.setPort p { s.port p with rx := rx }

/-- Whether a receiver takes characters, in IDLE or RECEIVING: in HUNT they are counted nowhere (R146), and in a break
it is out of reception (R149). -/
def Rx.listening : Rx → Bool
  | .idle | .receiving _ => true
  | .hunt | .inBreak => false

/-- Whether a receiver holds a partial telegram. -/
def Rx.isReceiving : Rx → Bool
  | .receiving _ => true
  | .idle | .hunt | .inBreak => false

/-- A parity error at a listening receiver (R145, R146). -/
def parityErrorAt (p : PortId) (s : State) : State :=
  let x := s.port p
  if x.rx.listening then
    raise .lineError (s.setPort p { x with rx := .hunt, parityErrors := countUp x.parityErrors })
  else s

/-- A framing error at a listening receiver (R145, R146). -/
def framingErrorAt (p : PortId) (s : State) : State :=
  let x := s.port p
  if x.rx.listening then
    raise .lineError (s.setPort p { x with rx := .hunt, framingErrors := countUp x.framingErrors })
  else s

/-- A kind error (R146): the telegram is abandoned, and the receiver enters HUNT. -/
def kindErrorAt (p : PortId) (s : State) : State :=
  let x := s.port p
  raise .lineError (s.setPort p { x with rx := .hunt, kindErrors := countUp x.kindErrors })

/-- A length error (R146): the telegram is abandoned, and the receiver enters HUNT. -/
def lengthErrorAt (p : PortId) (s : State) : State :=
  let x := s.port p
  raise .lineError (s.setPort p { x with rx := .hunt, lengthErrors := countUp x.lengthErrors })

/-- A check error (R147): the complete telegram is dropped, and the receiver returns to IDLE. -/
def checkErrorAt (p : PortId) (s : State) : State :=
  let x := s.port p
  raise .lineError (s.setPort p { x with rx := .idle, checkErrors := countUp x.checkErrors })

/-- A fragment (R148): the partial telegram is abandoned, and the receiver enters IDLE. -/
def fragmentAt (p : PortId) (s : State) : State :=
  let x := s.port p
  if x.rx.isReceiving then
    raise .lineError (s.setPort p { x with rx := .idle, fragments := countUp x.fragments })
  else s

/-- A break detected on a port is counted once, and abandons the partial telegram (R149). -/
def breakAt (p : PortId) (s : State) : State :=
  let x := s.port p
  s.setPort p { x with rx := .inBreak, breaks := countUp x.breaks }

/-- A break on port M ends an open session and raises STREAM_ABORTED (R149, R182). -/
def breakSession (s : State) : State :=
  if s.handler.session.isSome then raise .streamAborted (endSession .lineBreak s) else s

/-- A break repeat is requested of port F's transmitter, and merged into a repeat being sent (R150). -/
def requestRepeat (s : State) : State := if s.portF.tx = .breaking then s else { s with breakPending := true }

/-! ### Transmission (R150, R151, R152) -/

/-- The queue that a port's transmitter sends. -/
def State.queueOf (s : State) : PortId → List Telegram
  | .m => s.relay.mBound
  | .f => s.relay.fBound

/-- The head of a port's queue has left it. -/
def popQueue (p : PortId) (s : State) : State :=
  match p with
  | .m => { s with relay := { s.relay with mBound := s.relay.mBound.tail } }
  | .f => { s with relay := { s.relay with fBound := s.relay.fBound.tail } }

/-- A port's transmitter sends a telegram, its driver enable asserted (R152). -/
def send (p : PortId) (t : Telegram) (s : State) : State :=
  s.setPort p { s.port p with tx := .sending t, de := true }

/-- The beginning of a transmission (R152): at port M the head of the queue as it is held; at port F a REQUEST as the
rewriter returns it. A pending break repeat goes first at port F (R150). -/
def beginTransmission (p : PortId) (s : State) : State :=
  match (s.port p).tx, s.queueOf p with
  | .idle, t :: _ =>
    match p with
    | .m => send .m t s
    | .f =>
      if s.breakPending then s
      else if t.kind = .request then
        let r := rewrite t s
        send .f r.1 r.2
      else send .f t s
  | _, _ => s

/-- The last character of a transmission has been sent: the telegram leaves its queue, and the driver is released (R151,
R152). -/
def endTransmission (p : PortId) (s : State) : State :=
  match (s.port p).tx with
  | .sending _ => popQueue p (s.setPort p { s.port p with tx := .idle, de := false })
  | _ => s

/-! ### Commands -/

/-- PARITY_ERROR (R145). -/
def execParityError (p : PortId) (s : State) : Host.Outcome State Fault Refusal := .next (parityErrorAt p s)

/-- FRAMING_ERROR (R145). -/
def execFramingError (p : PortId) (s : State) : Host.Outcome State Fault Refusal := .next (framingErrorAt p s)

/-- KIND_ERROR (R146): the first byte is judged in IDLE. -/
def execKindError (p : PortId) (s : State) : Host.Outcome State Fault Refusal :=
  .next (if (s.port p).rx = .idle then kindErrorAt p s else s)

/-- LENGTH_ERROR (R146): the length byte is judged in RECEIVING. -/
def execLengthError (p : PortId) (s : State) : Host.Outcome State Fault Refusal :=
  .next (if (s.port p).rx.isReceiving then lengthErrorAt p s else s)

/-- CHECK_ERROR (R147): a complete telegram is judged; in HUNT and in a break none can be. -/
def execCheckError (p : PortId) (s : State) : Host.Outcome State Fault Refusal :=
  .next (if (s.port p).rx.listening then checkErrorAt p s else s)

/-- FRAGMENT (R148). -/
def execFragment (p : PortId) (s : State) : Host.Outcome State Fault Refusal := .next (fragmentAt p s)

/-- HUNT_IDLE (R146): a receiver in HUNT enters IDLE. -/
def execHuntIdle (p : PortId) (s : State) : Host.Outcome State Fault Refusal :=
  .next (if (s.port p).rx = .hunt then setRx p .idle s else s)

/-- BREAK (R149): counted once however long the line stays at space. -/
def execLineBreak (p : PortId) (s : State) : Host.Outcome State Fault Refusal :=
  .next
    (if (s.port p).rx = .inBreak then s
    else
      match p with
      | .m => requestRepeat (breakSession (breakAt .m s))
      | .f => breakAt .f s)

/-- BREAK_END (R149): the receiver enters IDLE. -/
def execBreakEnd (p : PortId) (s : State) : Host.Outcome State Fault Refusal :=
  .next (if (s.port p).rx = .inBreak then setRx p .idle s else s)

/-- BREAK_REPEAT (R150): the pending flag is cleared, and the F line held at space with F_DE asserted. -/
def execBreakRepeat (s : State) : Host.Outcome State Fault Refusal :=
  .next
    (if s.breakPending ∧ s.portF.tx = .idle then
      { s with breakPending := false, portF := { s.portF with tx := .breaking, de := true, txLine := .space } }
    else s)

/-- BREAK_REPEAT_END (R150): the F line returns to mark, and F_DE is released. -/
def execBreakRepeatEnd (s : State) : Host.Outcome State Fault Refusal :=
  .next
    (if s.portF.tx = .breaking then { s with portF := { s.portF with tx := .idle, de := false, txLine := .mark } }
    else s)

/-- TRANSMIT_START (R152). -/
def execTransmitStart (p : PortId) (s : State) : Host.Outcome State Fault Refusal := .next (beginTransmission p s)

/-- TRANSMIT_COMPLETE (R151). -/
def execTransmitComplete (p : PortId) (s : State) : Host.Outcome State Fault Refusal := .next (endTransmission p s)

end Sys2Proof.Machine
end

