-- ==== Sys2Proof/Machine/Records.lean ====
section
/-!
DEFINITION. The records that READ_RECORD returns (R22, R62, R77, R99, R125, R143, R179, R193): the bytes of each record,
its fields in the order its rule or table gives, coded by R172 and R179; and the division of a record into pages.
-/

namespace Sys2Proof.Machine

/-! ### Fields -/

/-- A number in one byte. -/
def code1 (n : Nat) : List Byte := beBytes 1 n

/-- A number in two bytes. -/
def code2 (n : Nat) : List Byte := beBytes 2 n

/-- A number in three bytes. -/
def code3 (n : Nat) : List Byte := beBytes 3 n

/-- A number kept modulo 2^32, in four bytes. -/
def code4 (n : Long) : List Byte := beBytes 4 n.toNat

/-! ### CRUSHER (R62, R77) -/

/-- The move record (Table 3-5). -/
def codeMove (m : Move) : List Byte :=
  codeOption (fun q => [q]) m.seq ++ codeOption (beInt 2) m.step ++ [m.cause.code, m.phase.code] ++ code2 m.elapsed

/-- The relief record (R77). -/
def codeRelief (r : Relief) : List Byte :=
  [r.phase.code] ++ code1 r.reliefCount ++ code1 r.clearRun ++ code4 r.onsetCycle

/-- The command, as kind, sequence and step (R62). -/
def codeCommand (c : Command) : List Byte := [c.kind.position, c.seq] ++ beInt 2 c.step

/-- The crusher parameters in the order of Table 3-2. -/
def codeCrusherParams (p : CrusherParams) : List Byte :=
  code2 p.cssMin ++ code2 p.cssMax ++ code1 p.deadband ++ code1 p.stepMax ++ code1 p.settleCycles ++
  code2 p.moveTimeout ++ code2 p.moveCap ++ code2 p.moveLoadMax ++ code2 p.recoverCap ++ code2 p.reliefPressure ++
  code2 p.reliefClear ++ code1 p.reliefClearCount ++ code1 p.reliefLimit ++ code2 p.linerLimit ++ code2 p.ratedPower ++
  codeNone p.loadCurve ++ code2 p.levelTarget ++ code1 p.levelGain

/-- The record of a crusher context (R62). -/
def crusherRecord (x : Crusher) : List Byte :=
  [x.state.code] ++ code2 x.cssTarget ++ codeFlag x.targetSettled ++ code1 x.settleCount ++ code2 x.wear ++
  codeFlag x.closeBlocked ++ codeFlag x.due ++ [x.moveSeq] ++ codeCommand x.command ++ codeOption codeMove x.moveRec ++
  codeOption codeRelief x.reliefRec ++ codeOption (beInt 2) x.proposedStep ++ codeCrusherParams x.params

/-! ### FEEDER and CURVE (R99) -/

/-- The stage record (Table 5-4). -/
def codeStage (g : Stage) : List Byte :=
  code4 g.cycle ++ codeFlag g.stale ++ codeOption code2 g.load ++ codeOption code2 g.curveDemand ++
  codeOption (beInt 2) g.correction ++ code2 g.corrected ++ codeOption code2 g.fill ++ code2 g.binDemand ++
  code2 g.capped ++ [g.capBy.code] ++ code1 g.elapsed ++ code2 g.slewed

/-- The record of a feeder governor (R99). -/
def feederRecord (f : Feeder) : List Byte :=
  code2 f.output ++ codeOption code2 f.driveValue ++ code2 f.slewUp ++ code2 f.slewDown ++ code2 f.minRun ++
  code2 f.staleCap ++ code4 f.lastComputeCycle ++ codeOption codeStage f.stage

/-- The record of an active curve: its count and the points it holds (R99). -/
def activeCurveRecord (x : Curve) : List Byte :=
  code1 x.length ++ x.flatMap fun pt => code2 pt.x ++ code2 pt.y

/-- The record of a staged curve: the count word and the sixteen point pairs as loaded (R99). -/
def stagedCurveRecord (x : StagedCurve) : List Byte := x.toList.flatMap fun w => code2 w.toNat

/-! ### LOT_ROW, LOT_RANGE and BIN_ACCOUNT (R125) -/

/-- A lot's row (R125). -/
def codeLot (l : Lot) : List Byte :=
  [l.tag, l.state.code] ++ code4 l.tonnage ++ code4 l.startPos ++ codeOption code4 l.endPos ++ codeFlag l.reject ++
  codeOption (fun x => [x.code]) l.rejectSource ++ codeFlag l.extended

/-- A lot as a range carries it (R125). -/
def codeLotInRange (l : Lot) : List Byte :=
  [l.tag, l.state.code] ++ code4 l.tonnage ++ codeFlag l.reject ++ codeOption (fun x => [x.code]) l.rejectSource ++
  codeFlag l.extended

/-- The row of an ordinal, or a row marked empty (R125). -/
def lotRowRecord (table : List Lot) (ordinal : Nat) : List Byte := codeOption codeLot table[ordinal]?

/-- Up to `count` lots from an ordinal on (R125). -/
def lotRangeRecord (table : List Lot) (ordinal count : Nat) : List Byte :=
  ((table.drop ordinal).take count).flatMap codeLotInRange

/-- The bin account (R125); riding saturates at 4,294,967,295 (R115). -/
def binRecord (s : State) : List Byte :=
  let l := s.lots
  code4 l.position ++ [l.tagCounter] ++ code1 l.table.length ++ code3 l.inventory ++
  beBytes 4 (min 4294967295 (riding l.table)) ++ code3 s.params.capacity ++ code4 l.weighedTotal ++
  code4 l.creditedTotal ++ code4 l.rejectedTotal ++ code4 l.drawnTotal ++ [l.divertCommand.code] ++
  code1 l.mismatchCount ++ codeFlag l.mismatch ++ codeFlag (trackingActive s.activeTable)

/-! ### OBSERVED_VALUE and STATION_ENTRY (R22) -/

/-- The actuator status in the form of Table 1-5. -/
def codeStatus (st : ActStatus) : List Byte := [st.lastSeq, st.result.code] ++ codeFlag st.reliefOpen

/-- The value of a record, absent if none has been stored; a counter's lastRaw and baseline come last (R22). -/
def codeValue : Value → List Byte
  | .scalar v => codeOption code2 v
  | .counter _ _ => []
  | .actuator v => codeOption codeStatus v
  | .confirm v => codeOption (fun d => [d.code]) v
  | .tripWord v => codeOption (fun w => [w]) v
  | .nothing => [0]

/-- lastRaw, in the width of the counter's field, and the baseline flag (R22); nothing for another value. -/
def codeBaseline (e : Entry) : Value → List Byte
  | .counter last based => codeOption (beBytes ((e.role?.bind Role.readWidth).getD 2)) last ++ codeFlag based
  | _ => []

/-- The age of a record, saturating at 255 (R22). -/
def codeAge (now arrival : Long) : List Byte := code1 (min 255 (ageOf now arrival))

/-- The record under an index, marked unused where its entry is (R22). Freshness is coded FRESH 0, STALE 1. -/
def observedRecord (s : State) (i : Fin 32) : List Byte :=
  let e := s.activeTable[i]
  match e.used, s.store[i] with
  | true, some rec =>
    [1, e.address, e.roleKind, e.roleInst, if rec.fresh then 0 else 1] ++ codeValue rec.value ++
    codeOption code4 rec.arrival ++ codeOption (codeAge s.tracker.cycleCount) rec.arrival ++ codeBaseline e rec.value
  | _, _ => [0]

/-- An offset as held, absent where it is (R22). -/
def codeOffset (b : Byte) : List Byte := codeOption code1 (offsetOfCode b)

/-- An entry of either bank, each field as held (R22). -/
def entryRecord (e : Entry) : List Byte :=
  [e.address, e.roleKind, e.roleInst, e.mode] ++ codeOffset e.readOffset ++ codeOffset e.writeOffset ++
  code2 e.gain.toNat ++ code2 e.offset.toNat ++ [e.freshLimit]

/-! ### LINE_PARAMETERS (R179) -/

/-- The line parameters in the order of Table 10-2. -/
def codeLineParams (p : LineParams) : List Byte :=
  code2 p.lotLength ++ code2 p.transportDistance ++ code2 p.divertLead ++ code2 p.maxIncrement ++ code3 p.capacity ++
  code3 p.drawDown ++ code1 p.radarBlend ++ code1 p.divertConfirm ++ code1 p.lockThreshold ++ code2 p.stopLimit ++
  [p.tripMask] ++ code2 p.causeMask.toNat ++ codeNone p.rollBit ++ codeFlag p.rollSense ++
  [p.groupAddress.getD 0xFF] ++ codeFlag p.lineEnd ++ codeNone p.primaryBinCurve ++ codeNone p.secondaryBinCurve

/-- The open session, its fields in the order of Table 10-4. -/
def codeSession (x : Session) : List Byte :=
  [x.bank.code] ++ code2 x.portal ++ code2 x.startIndex ++ code2 x.wordsTaken ++ codeFlag x.overflowed

/-- The last session, its fields in the order of Table 10-4. -/
def codeLastSession (x : Session) : List Byte :=
  [x.bank.code] ++ code2 x.startIndex ++ code2 x.portal ++ code2 x.wordsTaken ++ codeFlag x.overflowed

/-- The line parameters, then the state of the request handler (R179). -/
def lineRecord (h : Handler) : List Byte :=
  codeLineParams h.params ++ codeOption codeSession h.session ++ codeOption codeLastSession h.lastSession ++
  [h.lastSessionEnd.code] ++ codeFlag h.pendingStation ++ codeFlag h.pendingCurve ++ codeFlag h.dryRun

/-! ### COUNTERS (R193) -/

/-- The cycle tracker's state (R35). -/
def codeTracker (t : Tracker) : List Byte :=
  [t.lockState.code] ++ code1 t.runCount ++ codeOption (fun x => [x]) t.expected ++ codeOption code1 t.period ++
  code1 t.slipRun ++ code4 t.cycleCount ++ code2 t.invalidMarkers ++ code2 t.slips ++ code2 t.lockLosses

/-- The counters of a port (R156). -/
def codePort (x : Port) : List Byte :=
  code2 x.parityErrors ++ code2 x.framingErrors ++ code2 x.kindErrors ++ code2 x.lengthErrors ++ code2 x.checkErrors ++
  code2 x.fragments ++ code2 x.breaks

/-- The stop record (R143). -/
def codeStop (r : StopRec) : List Byte := code4 r.startCycle ++ code2 r.remaining

/-- The trip record (R143). -/
def codeTrip (r : TripRec) : List Byte := [r.fromMode.code] ++ code4 r.entryCycle ++ codeTripInputs r.inputs

/-- The line mode controller's state (R143). -/
def codeLineControl (l : LineControl) : List Byte :=
  [l.lineMode.code] ++ codeOption codeStop l.stopRec ++ [l.lastStopEnd.code] ++ codeOption codeTrip l.tripRec ++
  code2 l.tripEntries

/-- The counters record, in the order of Table 11-2 (R193). -/
def countersRecord (s : State) : List Byte :=
  codeTracker s.tracker ++ code2 s.shortFields ++ code2 s.badFields ++ codePort s.portM ++ codePort s.portF ++
  code2 s.relay.overrunsF ++ code2 s.relay.overrunsM ++ code2 s.relay.replyDrops ++ code2 s.relay.misdirected ++
  code2 s.rewriter.rewrites ++ code2 s.rewriter.rewriteMisses ++ code2 s.rewriter.masterAdjusts ++
  code2 s.rewriter.unknownCodes ++ code2 s.lots.discardedIncrements ++ code2 s.lots.mergedIncrements ++
  code2 s.lots.reverseTravels ++ code2 s.lots.unattributedHits ++ codeLineControl s.line ++ code2 s.causes.rollMisses

/-! ### Kinds, indices and pages (R179) -/

/-- An index below a bound. -/
def indexBelow (n bound : Nat) : Option (Fin bound) := if h : n < bound then some ⟨n, h⟩ else none

/-- A staged or active record by its qualifier, ACTIVE 0 or STAGED 1 (Table 10-3); absent for any other. -/
def byBank (qualifier : Nat) (active staged : List Byte) : Option (List Byte) :=
  if qualifier = 0 then some active else if qualifier = 1 then some staged else none

/-- The record of a kind, index and qualifier, absent where one of them is outside its range (Table 10-3). -/
def recordBytes (s : State) (kind index qualifier : Nat) : Option (List Byte) :=
  match kind with
  | 0 => (index4 index).map fun k => crusherRecord (s.crusher k)
  | 1 => (index4 index).map fun j => feederRecord (s.feeder j)
  | 2 => if index < lotTableSize then some (lotRowRecord s.lots.table index) else none
  | 3 =>
    if index < lotTableSize && inRange 1 4 qualifier then some (lotRangeRecord s.lots.table index qualifier) else none
  | 4 => some (binRecord s)
  | 5 => (indexBelow index 32).map (observedRecord s)
  | 6 => (indexBelow index 32).bind fun i => byBank qualifier (entryRecord s.activeTable[i]) (entryRecord s.stagedTable[i])
  | 7 =>
    (indexBelow index 8).bind fun i =>
      byBank qualifier (activeCurveRecord s.activeCurves[i]) (stagedCurveRecord s.stagedCurves[i])
  | 8 => some (lineRecord s.handler)
  | 9 => some (countersRecord s)
  | _ => none

/-- The bytes of one page (R179). -/
def pageSize : Nat := 31

/-- The number of pages of a record: page 0 exists for every record (R179). -/
def pageCount (bytes : List Byte) : Nat := max 1 ((bytes.length + pageSize - 1) / pageSize)

/-- The data of a reply to READ_RECORD: kind, index, page, pages, cycle count, and the page's bytes (R179). -/
def pageData (s : State) (kind index page : Nat) (bytes : List Byte) : List Byte :=
  code1 kind ++ code1 index ++ code1 page ++ code1 (pageCount bytes) ++ code4 s.tracker.cycleCount ++
  (bytes.drop (pageSize * page)).take pageSize

end Sys2Proof.Machine
end

