-- ==== Sys2Proof/Machine/Requests.lean ====
section
/-!
DEFINITION. Requests (Chapter 10): how a request delivered by port M is served by its destination, the replies, and what
the requests do that act on a crusher, a feeder, the line parameters, the line mode or a lot.

What a request does is a function from its payload and the state to `Served`, in which every refusal leaves the state
as it was; serving it, with the end of the session, the reply and the forwarding, is `serveRequest`.
-/

namespace Sys2Proof.Machine

/-! ### Serving a request (R153, R155, R172, R173) -/

/-- What a request did: the state it leaves, and the result and the data of its reply. -/
structure Served where
  state : State
  result : Result
  data : List Byte
deriving DecidableEq, Repr

/-- A request that carries no data in its reply. -/
def answered (r : Result) (s : State) : Served := { state := s, result := r, data := [] }

/-- A refusal with BAD_ARG that names a parameter by its position (R172). -/
def badParameter (position : Nat) (s : State) : Served := { state := s, result := .badArg, data := code1 position }

/-- The part's reply to a request (R155). -/
def replyTelegram (own fn : Byte) (r : Result) (data : List Byte) : Telegram :=
  Telegram.make .reply 127 own fn (r.code :: data)

/-- Receiving a telegram whole and correct at a port: the receiver returns to IDLE and the telegram is delivered
(R147). A payload above 40 bytes ends in a length error instead (R146). -/
def receiveAt (p : PortId) (payload : List Byte) (deliver : State → State) (s : State) : State :=
  if payload.length ≤ 40 then deliver (setRx p .idle s) else lengthErrorAt p s

/-- A request delivered by port M (R153, R172, R173): at the own address it is consumed, the session ended, the request
acted on and one reply built; at address 0 and the group address it is acted on if it is handed over, and forwarded;
every other destination is forwarded. -/
def serveRequest (fn : Byte) (handed : Bool) (act : List Byte → State → Served) (dst src : Byte) (payload : List Byte)
    (s : State) : State :=
  let forwarded := Telegram.make .request dst src fn payload
  if s.isOwn dst then
    let r := act payload (endSession .request s)
    joinReply (replyTelegram dst fn r.result r.data) r.state
  else if dst = 0 then joinF forwarded (if handed then (act payload s).state else s)
  else if s.isGroup dst then
    let s1 := endSession .request s
    joinF forwarded (if handed then (act payload s1).state else s1)
  else joinF forwarded s

/-- A request whose argument is one crusher or feeder index (R172): a short payload and an index above 3 are refused. -/
def indexed (act : Fin 4 → State → Served) (payload : List Byte) (s : State) : Served :=
  match arguments [1] payload with
  | some [k] =>
    match index4 k with
    | some k => act k s
    | none => answered .badArg s
  | _ => answered .badArg s

/-! ### READ_RECORD (R179) -/

/-- READ_RECORD (R179): it changes no state. -/
def readRecordAct (payload : List Byte) (s : State) : Served :=
  match arguments [1, 1, 1, 1] payload with
  | some [kind, index, qualifier, page] =>
    match recordBytes s kind index qualifier with
    | some bytes =>
      if page < pageCount bytes then { state := s, result := .done, data := pageData s kind index page bytes }
      else answered .badArg s
    | none => answered .badArg s
  | _ => answered .badArg s

/-! ### Crushers (R38, R43, R44, R46, R47, R59) -/

/-- The widths of the arguments of WRITE_CRUSHER (R172, Table 3-2). -/
def crusherWidths : List Nat := [1, 2, 2, 1, 1, 1, 2, 2, 2, 2, 2, 2, 1, 1, 2, 2, 1, 2, 1]

/-- The crusher, the parameters, and whether loadCurve codes a curve or none, from the arguments of WRITE_CRUSHER. -/
def crusherArgs : List Nat → Option (Nat × CrusherParams × Bool)
  | [k, cssMin, cssMax, deadband, stepMax, settleCycles, moveTimeout, moveCap, moveLoadMax, recoverCap, reliefPressure,
      reliefClear, reliefClearCount, reliefLimit, linerLimit, ratedPower, curve, levelTarget, levelGain] =>
    some
      (k,
        { cssMin, cssMax, deadband, stepMax, settleCycles, moveTimeout, moveCap, moveLoadMax, recoverCap,
          reliefPressure, reliefClear, reliefClearCount, reliefLimit, linerLimit, ratedPower,
          loadCurve := (curveArg curve).getD none, levelTarget, levelGain },
        (curveArg curve).isSome)
  | _ => none

/-- WRITE_CRUSHER (R38, R48): the parameter named is counted among the arguments, k being position 0. -/
def writeCrusherAct (payload : List Byte) (s : State) : Served :=
  match (arguments crusherWidths payload).bind crusherArgs with
  | some (k, p, curveOk) =>
    match index4 k with
    | some k =>
      match firstFailing 1 (p.checks curveOk) with
      | some position => badParameter position s
      | none =>
        let old := s.crusher k
        let new := writeParams p old
        answered (if new.cssTarget = old.cssTarget then .done else .clamped) (changeCrusher k (quiet new) s)
    | none => answered .badArg s
  | none => answered .badArg s

/-- SET_TARGET (R47): the reply carries cssTarget as written. -/
def setTargetAct (payload : List Byte) (s : State) : Served :=
  match arguments [1, 2] payload with
  | some [k, css] =>
    match index4 k with
    | some k =>
      let old := s.crusher k
      if old.state = .absent then answered .wrongMode s
      else
        let target := clamp old.params.cssMin old.params.cssMax css
        { state := changeCrusher k (quiet (retarget target old)) s
          result := if target = css then .done else .clamped
          data := code2 target }
    | none => answered .badArg s
  | _ => answered .badArg s

/-- CRUSHER_ENABLE (R43, R74): in every line mode but RUN it is refused with WRONG_MODE before anything else. -/
def crusherEnableAct (payload : List Byte) (s : State) : Served :=
  if arguments [1] payload = none then answered .badArg s
  else if s.line.lineMode ≠ .run then answered .wrongMode s
  else
    indexed
      (fun k s =>
        match (s.crusher k).state with
        | .standby => answered .done (changeCrusher k (quiet (enable (s.crusher k))) s)
        | .run | .move | .relief | .recover => answered .done s
        | .absent | .fault => answered .wrongMode s)
      payload s

/-- CRUSHER_DISABLE (R44, R74). -/
def crusherDisableAct : List Byte → State → Served :=
  indexed fun k s =>
    if (s.crusher k).state = .absent then answered .wrongMode s
    else answered .done (changeCrusher k (quiet (standDown (s.governed k) (s.crusher k))) s)

/-- FAULT_CLEAR (R46). -/
def faultClearAct : List Byte → State → Served :=
  indexed fun k s =>
    if (s.crusher k).state = .fault then
      answered .done (changeCrusher k (quiet (clearFault (s.governed k) (s.crusher k))) s)
    else answered .wrongMode s

/-- WEAR_RESET (R59). -/
def wearResetAct : List Byte → State → Served :=
  indexed fun k s => answered .done (changeCrusher k (quiet (resetWear (s.crusher k))) s)

/-! ### Feeders (R80) -/

/-- The parameters of WRITE_FEEDER checked against their ranges, in the order of R80. -/
def feederChecks (slewUp slewDown minRun staleCap : Nat) : List Bool :=
  [inRange 1 1000 slewUp, inRange 1 1000 slewDown, inRange 0 500 minRun, inRange 0 1000 staleCap]

/-- The four parameters written; an output above 0 and below the new minRun becomes 0 at the write (R80). -/
def writeFeeder (slewUp slewDown minRun staleCap : Nat) (j : Fin 4) (s : State) : State :=
  let f := s.feeder j
  let s1 := s.setFeeder j { f with slewUp, slewDown, minRun, staleCap }
  if 0 < f.output ∧ f.output < minRun then zeroFeeder j s1 else s1

/-- WRITE_FEEDER (R80). -/
def writeFeederAct (payload : List Byte) (s : State) : Served :=
  match arguments [1, 2, 2, 2, 2] payload with
  | some [j, slewUp, slewDown, minRun, staleCap] =>
    match index4 j with
    | some j =>
      match firstFailing 1 (feederChecks slewUp slewDown minRun staleCap) with
      | some position => badParameter position s
      | none => answered .done (writeFeeder slewUp slewDown minRun staleCap j s)
    | none => answered .badArg s
  | _ => answered .badArg s

/-! ### Line parameters (R175) -/

/-- The widths of the arguments of WRITE_LINE (R172, Table 10-2). -/
def lineWidths : List Nat := [2, 2, 2, 2, 3, 3, 1, 1, 1, 2, 1, 2, 1, 1, 1, 1, 1, 1]

/-- The line parameters and the range checks of R175 step 1, in the order of Table 10-2, from the arguments. -/
def lineArgs : List Nat → Option (LineParams × List Bool)
  | [lotLength, transportDistance, divertLead, maxIncrement, capacity, drawDown, radarBlend, divertConfirm,
      lockThreshold, stopLimit, tripMask, causeMask, rollBit, rollSense, group, lineEnd, primary, secondary] =>
    some
      ({ lotLength, transportDistance, divertLead, maxIncrement, capacity, drawDown, radarBlend, divertConfirm,
         lockThreshold, stopLimit, tripMask := BitVec.ofNat 8 tripMask, causeMask := BitVec.ofNat 14 causeMask,
         rollBit := (rollBitArg rollBit).getD none, rollSense := (flagArg rollSense).getD false,
         groupAddress := (groupArg group).getD none, lineEnd := (flagArg lineEnd).getD false,
         primaryBinCurve := (curveArg primary).getD none, secondaryBinCurve := (curveArg secondary).getD none },
       [inRange 10 2000 lotLength, inRange 1 65535 transportDistance, inRange 0 65534 divertLead,
        inRange 1 65535 maxIncrement, inRange 1 4000000 capacity, inRange 0 4000000 drawDown, inRange 0 16 radarBlend,
        inRange 1 255 divertConfirm, inRange 2 32 lockThreshold, inRange 1 65535 stopLimit, inRange 0 255 tripMask,
        inRange 0 16383 causeMask, (rollBitArg rollBit).isSome, (flagArg rollSense).isSome, (groupArg group).isSome,
        (flagArg lineEnd).isSome, (curveArg primary).isSome, (curveArg secondary).isSome])
  | _ => none

/-- The position of the parameter at the first failure, in the order of R175. -/
def lineFailure (s : State) (p : LineParams) (ranges : List Bool) : Option Nat :=
  match firstFailing 0 ranges with
  | some position => some position
  | none =>
    if p.groupAddress.isSome ∧ p.groupAddress = s.ownAddress then some 14
    else if p.transportDistance ≤ p.lotLength + p.divertLead then some 0
    else if p.capacity < p.drawDown then some 5
    else none

/-- The line parameters written (R175): inventory is brought to a capacity lowered below it (R104), and the trip inputs
are evaluated (R133). -/
def writeLine (p : LineParams) (s : State) : State :=
  evaluateTrip
    { s with
      handler := { s.handler with params := p }
      lots := { s.lots with inventory := min p.capacity s.lots.inventory } }

/-- WRITE_LINE (R175). -/
def writeLineAct (payload : List Byte) (s : State) : Served :=
  match (arguments lineWidths payload).bind lineArgs with
  | some (p, ranges) =>
    match lineFailure s p ranges with
    | some position => badParameter position s
    | none => answered .done (writeLine p s)
  | none => answered .badArg s

/-! ### Line mode (R129, R130, R136) -/

/-- A reply that carries lineMode as the request leaves it (R129, R130). -/
def withMode (r : Result) (s : State) : Served := { state := s, result := r, data := [s.line.lineMode.code] }

/-- LINE_START (R129). -/
def lineStartAct (_ : List Byte) (s : State) : Served :=
  match s.line.lineMode with
  | .ready | .stopped =>
    if (tripInputs s).any then withMode .wrongMode (enterTripped (tripInputs s) s)
    else withMode .done (changeMode .run s)
  | .stopping => withMode .done (changeMode .run (discardStop .cancelled s))
  | .run => withMode .done s
  | .idle | .tripped => withMode .wrongMode s

/-- An orderly stop begins (R130). -/
def beginStop (s : State) : State :=
  changeMode .stopping
    { s with
      line :=
        { s.line with stopRec := some { startCycle := s.tracker.cycleCount, remaining := s.params.stopLimit } } }

/-- LINE_STOP (R130). -/
def lineStopAct (_ : List Byte) (s : State) : Served :=
  match s.line.lineMode with
  | .run => withMode .done (beginStop s)
  | .stopping => withMode .done s
  | .idle | .ready | .stopped | .tripped => withMode .wrongMode s

/-- The line leaves TRIPPED (R136): READY while LOCKED, IDLE in SEARCH. -/
def releaseTrip (s : State) : State :=
  changeMode (if s.tracker.lockState = .locked then .ready else .idle)
    { s with line := { s.line with tripRec := none } }

/-- TRIP_RELEASE (R136): the reply carries lineMode, the inputs found active and the active unit lines. -/
def tripReleaseAct (_ : List Byte) (s : State) : Served :=
  if s.line.lineMode = .tripped then
    let a := tripInputs s
    let s1 := if a.any then addTripInputs a s else releaseTrip s
    { state := s1, result := if a.any then .wrongMode else .done, data := s1.line.lineMode.code :: codeTripInputs a }
  else { state := s, result := .wrongMode, data := s.line.lineMode.code :: codeTripInputs TripInputs.none }

/-! ### Lots (R114) -/

/-- REJECT_LOT (R114, Table 6-4): the reply carries the lot's state and rejectSource after the request. -/
def rejectLotAct (payload : List Byte) (s : State) : Served :=
  match arguments [1] payload with
  | some [t] =>
    let tag := BitVec.ofNat 8 t
    match lotTagged s.lots.table tag with
    | some lot =>
      let marked := masterMark lot
      { state := s.setLots { s.lots with table := changeTagged masterMark tag s.lots.table }
        result := if lot.state = .passing ∧ lot.reject = false then .tooLate else .done
        data := marked.state.code :: codeOption (fun x => [x.code]) marked.rejectSource }
    | none => answered .badArg s
  | _ => answered .badArg s

/-! ### Commands -/

/-- READ_RECORD (R179), which is not handed over at address 0 or the group address (R173). -/
def serveReadRecord (dst src : Byte) (payload : List Byte) (s : State) : State :=
  serveRequest 0x03 false readRecordAct dst src payload s

/-- WRITE_CRUSHER (R38). -/
def serveWriteCrusher (dst src : Byte) (payload : List Byte) (s : State) : State :=
  serveRequest 0x04 true writeCrusherAct dst src payload s

/-- WRITE_FEEDER (R80). -/
def serveWriteFeeder (dst src : Byte) (payload : List Byte) (s : State) : State :=
  serveRequest 0x05 true writeFeederAct dst src payload s

/-- WRITE_LINE (R175). -/
def serveWriteLine (dst src : Byte) (payload : List Byte) (s : State) : State :=
  serveRequest 0x06 true writeLineAct dst src payload s

/-- SET_TARGET (R47). -/
def serveSetTarget (dst src : Byte) (payload : List Byte) (s : State) : State :=
  serveRequest 0x07 true setTargetAct dst src payload s

/-- CRUSHER_ENABLE (R43). -/
def serveCrusherEnable (dst src : Byte) (payload : List Byte) (s : State) : State :=
  serveRequest 0x08 true crusherEnableAct dst src payload s

/-- CRUSHER_DISABLE (R44). -/
def serveCrusherDisable (dst src : Byte) (payload : List Byte) (s : State) : State :=
  serveRequest 0x09 true crusherDisableAct dst src payload s

/-- FAULT_CLEAR (R46). -/
def serveFaultClear (dst src : Byte) (payload : List Byte) (s : State) : State :=
  serveRequest 0x0A true faultClearAct dst src payload s

/-- WEAR_RESET (R59). -/
def serveWearReset (dst src : Byte) (payload : List Byte) (s : State) : State :=
  serveRequest 0x0B true wearResetAct dst src payload s

/-- LINE_START (R129). -/
def serveLineStart (dst src : Byte) (payload : List Byte) (s : State) : State :=
  serveRequest 0x0C true lineStartAct dst src payload s

/-- LINE_STOP (R130). -/
def serveLineStop (dst src : Byte) (payload : List Byte) (s : State) : State :=
  serveRequest 0x0D true lineStopAct dst src payload s

/-- TRIP_RELEASE (R136). -/
def serveTripRelease (dst src : Byte) (payload : List Byte) (s : State) : State :=
  serveRequest 0x0E true tripReleaseAct dst src payload s

/-- REJECT_LOT (R114). -/
def serveRejectLot (dst src : Byte) (payload : List Byte) (s : State) : State :=
  serveRequest 0x0F true rejectLotAct dst src payload s

/-- READ_RECORD. -/
def execReadRecord (dst src : Byte) (payload : List Byte) (s : State) : Host.Outcome State Fault Refusal :=
  .next (receiveAt .m payload (serveReadRecord dst src payload) s)

/-- WRITE_CRUSHER. -/
def execWriteCrusher (dst src : Byte) (payload : List Byte) (s : State) : Host.Outcome State Fault Refusal :=
  .next (receiveAt .m payload (serveWriteCrusher dst src payload) s)

/-- WRITE_FEEDER. -/
def execWriteFeeder (dst src : Byte) (payload : List Byte) (s : State) : Host.Outcome State Fault Refusal :=
  .next (receiveAt .m payload (serveWriteFeeder dst src payload) s)

/-- WRITE_LINE. -/
def execWriteLine (dst src : Byte) (payload : List Byte) (s : State) : Host.Outcome State Fault Refusal :=
  .next (receiveAt .m payload (serveWriteLine dst src payload) s)

/-- SET_TARGET. -/
def execSetTarget (dst src : Byte) (payload : List Byte) (s : State) : Host.Outcome State Fault Refusal :=
  .next (receiveAt .m payload (serveSetTarget dst src payload) s)

/-- CRUSHER_ENABLE. -/
def execCrusherEnable (dst src : Byte) (payload : List Byte) (s : State) : Host.Outcome State Fault Refusal :=
  .next (receiveAt .m payload (serveCrusherEnable dst src payload) s)

/-- CRUSHER_DISABLE. -/
def execCrusherDisable (dst src : Byte) (payload : List Byte) (s : State) : Host.Outcome State Fault Refusal :=
  .next (receiveAt .m payload (serveCrusherDisable dst src payload) s)

/-- FAULT_CLEAR. -/
def execFaultClear (dst src : Byte) (payload : List Byte) (s : State) : Host.Outcome State Fault Refusal :=
  .next (receiveAt .m payload (serveFaultClear dst src payload) s)

/-- WEAR_RESET. -/
def execWearReset (dst src : Byte) (payload : List Byte) (s : State) : Host.Outcome State Fault Refusal :=
  .next (receiveAt .m payload (serveWearReset dst src payload) s)

/-- LINE_START. -/
def execLineStart (dst src : Byte) (payload : List Byte) (s : State) : Host.Outcome State Fault Refusal :=
  .next (receiveAt .m payload (serveLineStart dst src payload) s)

/-- LINE_STOP. -/
def execLineStop (dst src : Byte) (payload : List Byte) (s : State) : Host.Outcome State Fault Refusal :=
  .next (receiveAt .m payload (serveLineStop dst src payload) s)

/-- TRIP_RELEASE. -/
def execTripRelease (dst src : Byte) (payload : List Byte) (s : State) : Host.Outcome State Fault Refusal :=
  .next (receiveAt .m payload (serveTripRelease dst src payload) s)

/-- REJECT_LOT. -/
def execRejectLot (dst src : Byte) (payload : List Byte) (s : State) : Host.Outcome State Fault Refusal :=
  .next (receiveAt .m payload (serveRejectLot dst src payload) s)

end Sys2Proof.Machine
end

