-- ==== Sys2Proof/Machine/Loading.lean ====
section
/-!
DEFINITION. Table loading (sections 10.5 and 10.6): the stream session and the words it writes into a staged bank,
LOAD_OPEN, the validation of the staged banks (R7 to R9, R97), and COMMIT.
-/

namespace Sys2Proof.Machine

/-! ### Words of the staged banks (R160) -/

/-- A station entry with one of its eight words written (Table 8-17): a field of one byte takes the word's low byte. -/
def Entry.setWord (e : Entry) (n : Nat) (w : Word) : Entry :=
  match n with
  | 0 => { e with address := w.setWidth 8 }
  | 1 => { e with roleKind := (w >>> 8).setWidth 8, roleInst := w.setWidth 8 }
  | 2 => { e with mode := w.setWidth 8 }
  | 3 => { e with readOffset := w.setWidth 8 }
  | 4 => { e with writeOffset := w.setWidth 8 }
  | 5 => { e with gain := w }
  | 6 => { e with offset := w }
  | 7 => { e with freshLimit := w.setWidth 8 }
  | _ => e

/-- The staged station bank with the word at an index written: entry e is words 8e to 8e + 7 (R160). -/
def writeStationWord (tab : Vector Entry 32) (portal : Nat) (w : Word) : Vector Entry 32 :=
  if h : portal / 8 < 32 then tab.set (portal / 8) (tab[portal / 8].setWord (portal % 8) w) else tab

/-- The staged curve bank with the word at an index written: curve x is words 33x to 33x + 32 (R160). -/
def writeCurveWord (curves : Vector StagedCurve 8) (portal : Nat) (w : Word) : Vector StagedCurve 8 :=
  if h : portal / 33 < 8 then
    curves.set (portal / 33) (curves[portal / 33].set (portal % 33) w (Nat.mod_lt _ (by decide)))
  else curves

/-- A staged bank with the word at an index written. -/
def writeStaged (b : Bank) (portal : Nat) (w : Word) (s : State) : State :=
  match b with
  | .station => { s with stagedTable := writeStationWord s.stagedTable portal w }
  | .curve => { s with stagedCurves := writeCurveWord s.stagedCurves portal w }

/-! ### The stream session (R180, R181, R182) -/

/-- The session replaced. -/
def setSession (x : Session) (s : State) : State := { s with handler := { s.handler with session := some x } }

/-- One word taken into the open session (R181): written at the portal, or, at the bank's size, discarded. -/
def takeWord (s : State) (w : Word) : State :=
  match s.handler.session with
  | none => s
  | some x =>
    let taken := countUp x.wordsTaken
    if x.portal < x.bank.size then
      writeStaged x.bank x.portal w (setSession { x with portal := x.portal + 1, wordsTaken := taken } s)
    else
      raiseIf (!x.overflowed) .streamAborted (setSession { x with wordsTaken := taken, overflowed := true } s)

/-- A STREAM telegram to the own or the group address (R181, R182): with a session open its words are taken in order,
and the end flag, bit 0 of the function byte, ends the session after them. Without one nothing is taken. -/
def takeStream (fn : Byte) (payload : List Byte) (s : State) : State :=
  if s.handler.session.isSome then
    let s1 := (payloadWords payload).foldl takeWord s
    if fn.getLsbD 0 then endSession .endFlag s1 else s1
  else s

/-- A STREAM telegram delivered by port M (R153): taken by its destination, and forwarded in every case. -/
def deliverStream (dst src fn : Byte) (payload : List Byte) (s : State) : State :=
  joinF (Telegram.make .stream dst src fn payload)
    (if s.isOwn dst || s.isGroup dst then takeStream fn payload s else s)

/-! ### LOAD_OPEN (R180) -/

/-- Whether a commit is pending on a bank. -/
def pendingOn (h : Handler) : Bank → Bool
  | .station => h.pendingStation
  | .curve => h.pendingCurve

/-- A session opened at an index of a bank; a session still open ends first as by a request (R180). -/
def openSession (b : Bank) (start : Nat) (s : State) : State :=
  setSession { bank := b, portal := start, startIndex := start, wordsTaken := 0, overflowed := false }
    (endSession .request s)

/-- LOAD_OPEN (R180): the reply carries the bank and the portal. -/
def loadOpenAct (payload : List Byte) (s : State) : Served :=
  match arguments [1, 2] payload with
  | some [bank, start] =>
    match bankArg bank with
    | some b =>
      if b.size ≤ start then answered .badArg s
      else if pendingOn s.handler b then answered .busy s
      else { state := openSession b start s, result := .done, data := b.code :: code2 start }
    | none => answered .badArg s
  | _ => answered .badArg s

/-! ### Validation of the staged station bank (R7, R8, R9) -/

/-- Whether a field offset is present and keeps the field inside the payload (R8, OFFSET). -/
def offsetFits (code : Byte) (width : Option Nat) : Bool :=
  match width, offsetOfCode code with
  | none, _ => true
  | some w, some off => decide (off + w ≤ 40)
  | some _, none => false

/-- Whether a role uses gain (R8, GAIN). -/
def Role.usesGain : Role → Bool
  | .feederDrive _ => true
  | r => r.isScalar

/-- The used entries of lower index (R9). -/
def lowerEntries (tab : Vector Entry 32) (i : Fin 32) : List Entry :=
  ((indices.filter fun j => decide (j < i)).map fun j => tab[j]).filter Entry.used

/-- The checks of R8 and R9 on one used entry, in order: ADDRESS, ROLE, MODE, OFFSET, GAIN, FRESH_LIMIT, DUPLICATE_ROLE,
OUTPUT_CONFLICT; true where the entry passes. -/
def entryChecks (own : Option Byte) (tab : Vector Entry 32) (i : Fin 32) : List Bool :=
  let e := tab[i]
  let lower := lowerEntries tab i
  let isOutput (x : Entry) : Bool := (x.role?.map Role.isOutput).getD false
  let onRole (f : Role → Bool) : Bool := (e.role?.map f).getD false
  [ decide (e.address.toNat ≤ 126) && own != some e.address
  , e.role?.isSome
  , onRole fun r => (e.mode?.map r.allows).getD false
  , onRole fun r => offsetFits e.readOffset r.readWidth && offsetFits e.writeOffset r.writeWidth
  , onRole fun r => !r.usesGain || e.gain != 0
  , onRole fun r => r.readWidth.isNone || e.freshLimit != 0
  , !(lower.any fun x => x.roleKind == e.roleKind && x.roleInst == e.roleInst)
  , !(isOutput e && lower.any fun x => x.address == e.address && isOutput x) ]

/-- The first failure of one entry, an unused entry having none. -/
def entryFailure (own : Option Byte) (tab : Vector Entry 32) (i : Fin 32) : Option (Nat × Nat) :=
  if tab[i].used then (firstFailing 0 (entryChecks own tab i)).map fun check => (i.val, check) else none

/-- FEEDER_MISSING (R9): a crusher with a POWER entry whose feeder has no FEEDER_DRIVE entry, reported at the POWER
entry. -/
def feederMissing (tab : Vector Entry 32) (k : Fin 4) : Option (Nat × Nat) :=
  match roleIndex tab (.power k) with
  | some i => if hasRole tab (.feederDrive k) then none else some (i.val, 8)
  | none => none

/-- The first failure of the staged station bank: the failing entry and the position of the check (R7, R172). -/
def stationFailure (own : Option Byte) (tab : Vector Entry 32) : Option (Nat × Nat) :=
  match indices.findSome? (entryFailure own tab) with
  | some found => some found
  | none => four.findSome? (feederMissing tab)

/-! ### Validation of the staged curve bank (R97) -/

/-- The points of a staged curve counted by its count word, which are at most sixteen (R95). -/
def countedPoints (x : StagedCurve) : List Point := curveOfStaged x

/-- Whether each x is above the one before it (R97, ORDER). -/
def risingFrom : List Point → Bool
  | p :: q :: rest => decide (p.x < q.x) && risingFrom (q :: rest)
  | _ => true

/-- The checks of Table 5-6 on one staged curve: COUNT, RANGE, ORDER. -/
def curveChecks (x : StagedCurve) : List Bool :=
  let n := x[0].toNat
  [ decide (n ≠ 1) && decide (n ≤ 16)
  , (countedPoints x).all fun p => decide (p.x ≤ 2000) && decide (p.y ≤ 1000)
  , risingFrom (countedPoints x) ]

/-- The first failure of the staged curve bank: the failing curve and the position of the check (R97, R172). -/
def curveFailure (curves : Vector StagedCurve 8) : Option (Nat × Nat) :=
  (List.finRange 8).findSome? fun i => (firstFailing 0 (curveChecks curves[i])).map fun check => (i.val, check)

/-! ### COMMIT (R183) -/

/-- The first failure of a staged bank. -/
def bankFailure (s : State) : Bank → Option (Nat × Nat)
  | .station => stationFailure s.ownAddress s.stagedTable
  | .curve => curveFailure s.stagedCurves

/-- The pending flag of a bank set (R183). -/
def setPending (b : Bank) (s : State) : State :=
  match b with
  | .station => { s with handler := { s.handler with pendingStation := true } }
  | .curve => { s with handler := { s.handler with pendingCurve := true } }

/-- Whether a session is open on a bank. -/
def sessionOn (h : Handler) (b : Bank) : Bool := (h.session.map fun x => x.bank) == some b

/-- COMMIT (R183), judged in the order of the rule. -/
def commitAct (payload : List Byte) (s : State) : Served :=
  match arguments [1] payload with
  | some [bank] =>
    match bankArg bank with
    | some b =>
      if pendingOn s.handler b || sessionOn s.handler b then answered .busy s
      else if b = .station ∧ s.line.lineMode.feeds then answered .wrongMode s
      else
        match bankFailure s b with
        | some (index, check) => { state := s, result := .invalidTable, data := code1 index ++ code1 check }
        | none => answered .done (setPending b s)
    | none => answered .badArg s
  | _ => answered .badArg s

/-! ### Commands -/

/-- LOAD_OPEN (R180). -/
def serveLoadOpen (dst src : Byte) (payload : List Byte) (s : State) : State :=
  serveRequest 0x10 true loadOpenAct dst src payload s

/-- COMMIT (R183). -/
def serveCommit (dst src : Byte) (payload : List Byte) (s : State) : State :=
  serveRequest 0x11 true commitAct dst src payload s

/-- LOAD_OPEN. -/
def execLoadOpen (dst src : Byte) (payload : List Byte) (s : State) : Host.Outcome State Fault Refusal :=
  .next (receiveAt .m payload (serveLoadOpen dst src payload) s)

/-- COMMIT. -/
def execCommit (dst src : Byte) (payload : List Byte) (s : State) : Host.Outcome State Fault Refusal :=
  .next (receiveAt .m payload (serveCommit dst src payload) s)

/-- STREAM_TELEGRAM. -/
def execStreamTelegram (dst src fn : Byte) (payload : List Byte) (s : State) : Host.Outcome State Fault Refusal :=
  .next (receiveAt .m payload (deliverStream dst src fn payload) s)

end Sys2Proof.Machine
end

