-- ==== Sys2Proof/Machine/Resets.lean ====
section
/-!
DEFINITION. The resets and dry-run (sections 0 and 10.3): power-on reset, warm restart, device clear and DRY_RUN, each
block by the reset rule of its own chapter.
-/

namespace Sys2Proof.Machine

/-! ### Dry-run (R176) -/

/-- The flag changed, and the change taken by the crusher contexts (R61, R73); the rewriter (R162) and the confirm
supervision (R119) read the flag at their own events. -/
def changeDryRun (on : Bool) (s : State) : State :=
  forFour
    (fun k t => changeCrusher k (quiet (if on then dryRunOn (t.crusher k) else dryRunOff (t.crusher k))) t)
    { s with handler := { s.handler with dryRun := on } }

/-- DRY_RUN to a setting (R176); a setting equal to the flag has no further effect. The reply carries the setting. -/
def takeDryRun (on : Bool) (s : State) : Served :=
  { state := if on = s.handler.dryRun then s else changeDryRun on s, result := .done, data := codeFlag on }

/-- DRY_RUN (R176). A byte that codes neither OFF nor ON sets a free value (assumption log 10). -/
def dryRunAct (payload : List Byte) (s : State) : Served :=
  match arguments [1] payload with
  | some [setting] =>
    match flagArg setting with
    | some on => takeDryRun on s
    | none => takeDryRun (Config.freeSetting s.freeCount) { s with freeCount := s.freeCount + 1 }
  | _ => answered .badArg s

/-! ### Device clear (R177) -/

/-- A port with its counters 0 (R157). -/
def Port.clearCounters (x : Port) : Port :=
  { x with parityErrors := 0, framingErrors := 0, kindErrors := 0, lengthErrors := 0, checkErrors := 0, fragments := 0,
           breaks := 0 }

/-- Every counter of every block at 0 (R23, R36, R126, R144, R157, R171, R190). -/
def clearCounters (s : State) : State :=
  { s with
    shortFields := 0
    badFields := 0
    tracker := { s.tracker with invalidMarkers := 0, slips := 0, lockLosses := 0 }
    lots :=
      { s.lots with discardedIncrements := 0, mergedIncrements := 0, reverseTravels := 0, unattributedHits := 0 }
    line := { s.line with tripEntries := 0 }
    portM := s.portM.clearCounters
    portF := s.portF.clearCounters
    relay := { s.relay with overrunsF := 0, overrunsM := 0, replyDrops := 0, misdirected := 0 }
    rewriter := Rewriter.reset
    causes := { s.causes with rollMisses := 0 } }

/-- DEVICE_CLEAR (R177, R190). -/
def deviceClearAct (_ : List Byte) (s : State) : Served := answered .done (clearCauses (clearCounters s))

/-! ### Warm restart (R178) -/

/-- The cycle tracker at warm restart, with the LOCK pin (R36). -/
def restartTracker (s : State) : State :=
  { s with
    tracker :=
      { s.tracker with lockState := .search, runCount := 0, expected := none, supervision := none, slipRun := 0 }
    pins := { s.pins with lock := false } }

/-- The crusher contexts at warm restart (R63, R78). -/
def restartCrushers (s : State) : State :=
  forFour (fun k t => changeCrusher k (quiet (restartCrusher (t.governed k) (t.crusher k))) t) s

/-- The confirm supervision at warm restart (R126). -/
def restartLots (s : State) : State := { s with lots := { s.lots with mismatchCount := 0, mismatch := false } }

/-- Warm restart of every block, and the causes cleared and raised again once every block has taken it (R178, R190). -/
def warmRestart (s : State) : State :=
  clearCauses
    (lineRestart
      (restartLots (zeroFeeders (restartCrushers (staleAll (restartTracker (endSession .restart s)))))))

/-- WARM_RESTART (R178). -/
def warmRestartAct (_ : List Byte) (s : State) : Served := answered .done (warmRestart s)

/-! ### Power-on reset -/

/-- The part with RESET_N just released: `State.reset` with the straps and the level of TRIP_IN it reads (R145, R157).
The free values used and the waiting commands are the model's own, and stay (assumption log 22). -/
def powerOn (addr : BitVec 7) (rate : BitVec 3) (tripLow : Bool) (s : State) : State :=
  { State.reset with
    straps := { addr := addr, rate := rate }
    pins := { tripInLow := tripLow, tripOut := false, lock := false }
    freeCount := s.freeCount
    pending := s.pending }

/-- Power-on reset, at whose end the controller evaluates PIN (R144). -/
def powerOnReset (addr : BitVec 7) (rate : BitVec 3) (tripLow : Bool) (s : State) : State :=
  let s1 := powerOn addr rate tripLow s
  takeTripInputs (pinInput s1) s1

/-! ### Commands -/

/-- DRY_RUN (R176). -/
def serveDryRun (dst src : Byte) (payload : List Byte) (s : State) : State :=
  serveRequest 0x12 true dryRunAct dst src payload s

/-- DEVICE_CLEAR (R177). -/
def serveDeviceClear (dst src : Byte) (payload : List Byte) (s : State) : State :=
  serveRequest 0x13 true deviceClearAct dst src payload s

/-- WARM_RESTART (R178). -/
def serveWarmRestart (dst src : Byte) (payload : List Byte) (s : State) : State :=
  serveRequest 0x14 true warmRestartAct dst src payload s

/-- POWER_ON_RESET. -/
def execPowerOnReset (addr : BitVec 7) (rate : BitVec 3) (tripLow : Bool) (s : State) :
    Host.Outcome State Fault Refusal :=
  .next (powerOnReset addr rate tripLow s)

/-- DRY_RUN. -/
def execDryRun (dst src : Byte) (payload : List Byte) (s : State) : Host.Outcome State Fault Refusal :=
  .next (receiveAt .m payload (serveDryRun dst src payload) s)

/-- DEVICE_CLEAR. -/
def execDeviceClear (dst src : Byte) (payload : List Byte) (s : State) : Host.Outcome State Fault Refusal :=
  .next (receiveAt .m payload (serveDeviceClear dst src payload) s)

/-- WARM_RESTART. -/
def execWarmRestart (dst src : Byte) (payload : List Byte) (s : State) : Host.Outcome State Fault Refusal :=
  .next (receiveAt .m payload (serveWarmRestart dst src payload) s)

end Sys2Proof.Machine
end

