-- ==== Sys2Proof/Machine/Polling.lean ====
section
/-!
DEFINITION. Polling, reading the causes and roll-call (sections 11.2 and 11.4).
-/

namespace Sys2Proof.Machine

/-! ### STATUS_POLL (R188) -/

/-- The data of a STATUS_POLL reply (R188). -/
def statusData (s : State) : List Byte :=
  [topCause s.causes] ++ codeFlag s.causes.attention ++ [s.line.lineMode.code, s.tracker.lockState.code] ++
  (four.map fun k => (s.crusher k).state.code) ++ codeFlag s.handler.dryRun ++ [s.causes.sequence]

/-- STATUS_POLL (R188): attention is cleared as the reply is built. -/
def statusPollAct (_ : List Byte) (s : State) : Served :=
  { state := { s with causes := { s.causes with attention := false } }, result := .done, data := statusData s }

/-! ### READ_CAUSES (R189) -/

/-- The data of a READ_CAUSES reply (R189): at most 30 bytes. -/
def causesData (u : CauseUnit) : List Byte :=
  [u.sequence] ++ code1 (pendingCauses u).length ++
  (pendingCauses u).flatMap fun x => [x.code] ++ code1 (u.entry x).count

/-- The unit with every pending edge cause cleared (R189). -/
def CauseUnit.readEdges (u : CauseUnit) : CauseUnit :=
  (allCauses.filter fun x => !x.isLevel).foldl CauseUnit.cease u

/-- READ_CAUSES (R189). -/
def readCausesAct (_ : List Byte) (s : State) : Served :=
  { state := { s with causes := s.causes.readEdges }, result := .done, data := causesData s.causes }

/-! ### Roll-call (R191, R192) -/

/-- Whether the part's roll-call bit is asserted (R191). -/
def rollAsserted (s : State) : Bool := s.params.rollBit.isSome && s.causes.attention == s.params.rollSense

/-- The 16-bit field with the part's bit alone: 0 when the bit is not asserted (R191). -/
def rollField (s : State) : Word :=
  match s.params.rollBit with
  | some b => if rollAsserted s then (1 : Word) <<< b.val else 0
  | none => 0

/-- The function code of ROLL_CALL (Table 8-20). -/
def rollCallCode : Byte := 0x15

/-- The roll-call reply of a part with lineEnd set joins the M-bound queue (R191). -/
def originate (own : Byte) (s : State) : State :=
  joinReply (replyTelegram own rollCallCode .done (code2 (rollField s).toNat)) s

/-- A ROLL_CALL to address 0, as the cause unit takes it (R191): a part with lineEnd set answers it. A part without an
own address answers no request (R145). -/
def answerRollCall (s : State) : State :=
  match s.params.lineEnd, s.ownAddress with
  | true, some own => originate own s
  | _, _ => s

/-- A roll-call reply on its way to the master, as the cause unit returns it, and the state (R192). -/
def passRollCall (t : Telegram) (s : State) : Telegram × State :=
  match t.payload with
  | _ :: hi :: lo :: _ =>
    let field : Word := hi ++ lo
    if rollAsserted s && (field &&& rollField s) == 0 then
      (t.withField 1 (code2 (field ||| rollField s).toNat), s)
    else (t, s)
  | _ => (t, { s with causes := { s.causes with rollMisses := countUp s.causes.rollMisses } })

/-! ### Commands -/

/-- STATUS_POLL, which is not handed over at address 0 or the group address (R173). -/
def serveStatusPoll (dst src : Byte) (payload : List Byte) (s : State) : State :=
  serveRequest 0x01 false statusPollAct dst src payload s

/-- READ_CAUSES, which is not handed over at address 0 or the group address (R173). -/
def serveReadCauses (dst src : Byte) (payload : List Byte) (s : State) : State :=
  serveRequest 0x02 false readCausesAct dst src payload s

/-- ROLL_CALL (R172, R173, R191): to address 0 it is taken by the cause unit; at the own address it is refused with
BAD_ARG; to the group address it is not taken. DEDUCED, unsafe: to address 0 the cause unit judges the bit before the
forwarded copy joins the F-bound queue, so that a LINE_ERROR of a dropped copy does not reach the bit (assumption log
11). -/
def serveRollCall (dst src : Byte) (payload : List Byte) (s : State) : State :=
  if dst = 0 then joinF (Telegram.make .request dst src rollCallCode payload) (answerRollCall s)
  else serveRequest rollCallCode false (fun _ t => answered .badArg t) dst src payload s

/-- STATUS_POLL. -/
def execStatusPoll (dst src : Byte) (payload : List Byte) (s : State) : Host.Outcome State Fault Refusal :=
  .next (receiveAt .m payload (serveStatusPoll dst src payload) s)

/-- READ_CAUSES. -/
def execReadCauses (dst src : Byte) (payload : List Byte) (s : State) : Host.Outcome State Fault Refusal :=
  .next (receiveAt .m payload (serveReadCauses dst src payload) s)

/-- ROLL_CALL. -/
def execRollCall (dst src : Byte) (payload : List Byte) (s : State) : Host.Outcome State Fault Refusal :=
  .next (receiveAt .m payload (serveRollCall dst src payload) s)

end Sys2Proof.Machine
end

