-- ==== Sys2Proof/Machine/Deliver.lean ====
section
/-!
DEFINITION. What the part does with each telegram delivered whole and correct (section 8.5), and the reception of a
telegram character by character (R146, R147).
-/

namespace Sys2Proof.Machine

/-! ### Port M (R153) -/

/-- A request whose function names no request (R172): UNKNOWN and no data. -/
def serveUnknown (fn dst src : Byte) (payload : List Byte) (s : State) : State :=
  serveRequest fn true (fun _ t => answered .unknown t) dst src payload s

/-- A REQUEST delivered by port M, by the function codes of Table 8-20. -/
def deliverRequest (dst src fn : Byte) (payload : List Byte) (s : State) : State :=
  match fn.toNat with
  | 0x01 => serveStatusPoll dst src payload s
  | 0x02 => serveReadCauses dst src payload s
  | 0x03 => serveReadRecord dst src payload s
  | 0x04 => serveWriteCrusher dst src payload s
  | 0x05 => serveWriteFeeder dst src payload s
  | 0x06 => serveWriteLine dst src payload s
  | 0x07 => serveSetTarget dst src payload s
  | 0x08 => serveCrusherEnable dst src payload s
  | 0x09 => serveCrusherDisable dst src payload s
  | 0x0A => serveFaultClear dst src payload s
  | 0x0B => serveWearReset dst src payload s
  | 0x0C => serveLineStart dst src payload s
  | 0x0D => serveLineStop dst src payload s
  | 0x0E => serveTripRelease dst src payload s
  | 0x0F => serveRejectLot dst src payload s
  | 0x10 => serveLoadOpen dst src payload s
  | 0x11 => serveCommit dst src payload s
  | 0x12 => serveDryRun dst src payload s
  | 0x13 => serveDeviceClear dst src payload s
  | 0x14 => serveWarmRestart dst src payload s
  | 0x15 => serveRollCall dst src payload s
  | _ => serveUnknown fn dst src payload s

/-- A CYCLE telegram delivered by port M: taken by the cycle tracker, and forwarded (R24, R153). -/
def deliverMarker (dst src fn : Byte) (payload : List Byte) (s : State) : State :=
  joinF (Telegram.make .cycle dst src fn payload) (takeMarker payload s)

/-- A telegram delivered by port M, by its kind and destination (Table 8-2). -/
def deliverM (kind : Kind) (dst src fn : Byte) (payload : List Byte) (s : State) : State :=
  match kind with
  | .cycle => deliverMarker dst src fn payload s
  | .request => deliverRequest dst src fn payload s
  | .stream => deliverStream dst src fn payload s
  | .reply => joinF (Telegram.make .reply dst src fn payload) s

/-! ### Port F (R154) -/

/-- A REPLY delivered by port F: examined by the observer, a roll-call reply handed to the cause unit, and forwarded
(R154, R192). -/
def deliverReply (dst src fn : Byte) (payload : List Byte) (s : State) : State :=
  let t := Telegram.make .reply dst src fn payload
  let s1 := observe t s
  if fn = rollCallCode then
    let r := passRollCall t s1
    joinM r.1 r.2
  else joinM t s1

/-- A REQUEST on port F to the part is dropped and counted as misdirected (R154, R156). -/
def countMisdirected (s : State) : State :=
  raise .lineError { s with relay := { s.relay with misdirected := countUp s.relay.misdirected } }

/-- A telegram delivered by port F, by its kind and destination (Table 8-3). -/
def deliverF (kind : Kind) (dst src fn : Byte) (payload : List Byte) (s : State) : State :=
  match kind with
  | .reply => deliverReply dst src fn payload s
  | .request =>
    if s.isOwn dst || s.isGroup dst then countMisdirected s else joinM (Telegram.make .request dst src fn payload) s
  | .cycle => joinM (Telegram.make .cycle dst src fn payload) s
  | .stream => joinM (Telegram.make .stream dst src fn payload) s

/-- A telegram delivered by a port. -/
def deliver (p : PortId) (kind : Kind) (dst src fn : Byte) (payload : List Byte) (s : State) : State :=
  match p with
  | .m => deliverM kind dst src fn payload s
  | .f => deliverF kind dst src fn payload s

/-! ### Reception of a character (R146, R147) -/

/-- A complete telegram is judged: with its check in agreement it is delivered, otherwise it is a check error; the
receiver returns to IDLE in either case (R147). `rest` is the payload and the two check bytes. -/
def judge (p : PortId) (kind : Kind) (dst src fn n : Byte) (rest : List Byte) (s : State) : State :=
  let payload := rest.take n.toNat
  if beNat (rest.drop n.toNat) = (crc16 ([kindCode kind, dst, src, fn, n] ++ payload)).toNat then
    deliver p kind dst src fn payload (setRx p .idle s)
  else checkErrorAt p s

/-- A partial telegram that a good character has extended (R146): its fifth byte is the length, and with its 7 + n-th
byte it is complete. -/
def extend (p : PortId) (part : List Byte) (s : State) : State :=
  match part with
  | code :: dst :: src :: fn :: n :: rest =>
    if 40 < n.toNat then lengthErrorAt p s
    else if rest.length = n.toNat + 2 then
      match kindOfCode code with
      | some kind => judge p kind dst src fn n rest s
      | none => kindErrorAt p s
    else setRx p (.receiving part) s
  | _ => setRx p (.receiving part) s

/-- A good character at a port (R146). -/
def takeCharacter (p : PortId) (byte : Byte) (s : State) : State :=
  match (s.port p).rx with
  | .idle =>
    match kindOfCode byte with
    | some _ => setRx p (.receiving [byte]) s
    | none => kindErrorAt p s
  | .receiving part => extend p (part ++ [byte]) s
  | .hunt | .inBreak => s

/-! ### Commands -/

/-- CYCLE_MARKER (R24). -/
def execCycleMarker (dst src fn : Byte) (payload : List Byte) (s : State) : Host.Outcome State Fault Refusal :=
  .next (receiveAt .m payload (deliverMarker dst src fn payload) s)

/-- FIELD_REPLY (R15). -/
def execFieldReply (dst src fn : Byte) (payload : List Byte) (s : State) : Host.Outcome State Fault Refusal :=
  .next (receiveAt .f payload (deliverReply dst src fn payload) s)

/-- M_TELEGRAM_FORWARD (R153). -/
def execMTelegramForward (kind : Kind) (dst src fn : Byte) (payload : List Byte) (s : State) :
    Host.Outcome State Fault Refusal :=
  .next (receiveAt .m payload (deliverM kind dst src fn payload) s)

/-- F_TELEGRAM_FORWARD (R154). -/
def execFTelegramForward (kind : Kind) (dst src fn : Byte) (payload : List Byte) (s : State) :
    Host.Outcome State Fault Refusal :=
  .next (receiveAt .f payload (deliverF kind dst src fn payload) s)

/-- UNKNOWN_FUNCTION (R172): the function byte decides; a byte that names a request is served as that request. -/
def execUnknownFunction (dst src fn : Byte) (payload : List Byte) (s : State) : Host.Outcome State Fault Refusal :=
  .next (receiveAt .m payload (deliverRequest dst src fn payload) s)

/-- GOOD_CHARACTER (R146). -/
def execGoodCharacter (p : PortId) (byte : Byte) (s : State) : Host.Outcome State Fault Refusal :=
  .next (takeCharacter p byte s)

end Sys2Proof.Machine
end

