-- ==== Sys2Proof/Machine/Dispatch.lean ====
section
/-!
DEFINITION. One arm for each command, each a direct call of its meaning.
-/

namespace Sys2Proof.Machine

/-- What a command does to everything but the queue. -/
def exec (i : Instr) (s : State) : Host.Outcome State Fault Refusal :=
  match i with
  | .powerOnReset addr rate tripLow => Sys2Proof.Machine.execPowerOnReset addr rate tripLow s
  | .tripInChange low => Sys2Proof.Machine.execTripInChange low s
  | .cycleMarker dst src fn payload => Sys2Proof.Machine.execCycleMarker dst src fn payload s
  | .supervisionExpiry => Sys2Proof.Machine.execSupervisionExpiry s
  | .fieldReply dst src fn payload => Sys2Proof.Machine.execFieldReply dst src fn payload s
  | .mTelegramForward kind dst src fn payload => Sys2Proof.Machine.execMTelegramForward kind dst src fn payload s
  | .fTelegramForward kind dst src fn payload => Sys2Proof.Machine.execFTelegramForward kind dst src fn payload s
  | .streamTelegram dst src fn payload => Sys2Proof.Machine.execStreamTelegram dst src fn payload s
  | .parityError p => Sys2Proof.Machine.execParityError p s
  | .framingError p => Sys2Proof.Machine.execFramingError p s
  | .kindError p => Sys2Proof.Machine.execKindError p s
  | .lengthError p => Sys2Proof.Machine.execLengthError p s
  | .checkError p => Sys2Proof.Machine.execCheckError p s
  | .fragment p => Sys2Proof.Machine.execFragment p s
  | .huntIdle p => Sys2Proof.Machine.execHuntIdle p s
  | .lineBreak p => Sys2Proof.Machine.execLineBreak p s
  | .breakEnd p => Sys2Proof.Machine.execBreakEnd p s
  | .breakRepeat => Sys2Proof.Machine.execBreakRepeat s
  | .breakRepeatEnd => Sys2Proof.Machine.execBreakRepeatEnd s
  | .transmitStart p => Sys2Proof.Machine.execTransmitStart p s
  | .transmitComplete p => Sys2Proof.Machine.execTransmitComplete p s
  | .statusPoll dst src payload => Sys2Proof.Machine.execStatusPoll dst src payload s
  | .readCauses dst src payload => Sys2Proof.Machine.execReadCauses dst src payload s
  | .readRecord dst src payload => Sys2Proof.Machine.execReadRecord dst src payload s
  | .writeCrusher dst src payload => Sys2Proof.Machine.execWriteCrusher dst src payload s
  | .writeFeeder dst src payload => Sys2Proof.Machine.execWriteFeeder dst src payload s
  | .writeLine dst src payload => Sys2Proof.Machine.execWriteLine dst src payload s
  | .setTarget dst src payload => Sys2Proof.Machine.execSetTarget dst src payload s
  | .crusherEnable dst src payload => Sys2Proof.Machine.execCrusherEnable dst src payload s
  | .crusherDisable dst src payload => Sys2Proof.Machine.execCrusherDisable dst src payload s
  | .faultClear dst src payload => Sys2Proof.Machine.execFaultClear dst src payload s
  | .wearReset dst src payload => Sys2Proof.Machine.execWearReset dst src payload s
  | .lineStart dst src payload => Sys2Proof.Machine.execLineStart dst src payload s
  | .lineStop dst src payload => Sys2Proof.Machine.execLineStop dst src payload s
  | .tripRelease dst src payload => Sys2Proof.Machine.execTripRelease dst src payload s
  | .rejectLot dst src payload => Sys2Proof.Machine.execRejectLot dst src payload s
  | .loadOpen dst src payload => Sys2Proof.Machine.execLoadOpen dst src payload s
  | .commit dst src payload => Sys2Proof.Machine.execCommit dst src payload s
  | .dryRun dst src payload => Sys2Proof.Machine.execDryRun dst src payload s
  | .deviceClear dst src payload => Sys2Proof.Machine.execDeviceClear dst src payload s
  | .warmRestart dst src payload => Sys2Proof.Machine.execWarmRestart dst src payload s
  | .rollCall dst src payload => Sys2Proof.Machine.execRollCall dst src payload s
  | .unknownFunction dst src fn payload => Sys2Proof.Machine.execUnknownFunction dst src fn payload s
  | .goodCharacter p byte => Sys2Proof.Machine.execGoodCharacter p byte s

end Sys2Proof.Machine
end

