-- ==== Sys2Proof/Safety.lean ====
section
/-!
DEFINITION. What claims about the part are stated in: the relation between the cause unit before and after a raising,
the conditions under which a request is served at the own address, and what holds of the part at every moment (the
invariants), each with the rules it comes from.
-/

namespace Sys2Proof.Machine

/-! ### Causes -/

/-- The unit `v` is the unit `u` after one raising of cause `x` under a mask, as R187 says it. -/
structure RaisedOnce (mask : BitVec 14) (x : Cause) (u v : CauseUnit) : Prop where
  pending : (v.entry x).pending = true
  count : (v.entry x).count = if (u.entry x).pending then min 255 ((u.entry x).count + 1) else 1
  others : ∀ y, y ≠ x → v.entry y = u.entry y
  sequence : v.sequence = if (u.entry x).pending then u.sequence else u.sequence + 1
  attention :
    v.attention = if (u.entry x).pending then u.attention else (u.attention || mask.getLsbD x.index.val)
  rollMisses : v.rollMisses = u.rollMisses

/-- The unit `v` is the unit `u` after raising each cause `x` a number `n x` of times under a mask, in whatever order
(R186, R187). -/
structure RaisedEach (mask : BitVec 14) (n : Cause → Nat) (u v : CauseUnit) : Prop where
  raised : ∀ x, 0 < n x →
    v.entry x =
      { pending := true
        count := min 255 ((if (u.entry x).pending then (u.entry x).count else 0) + n x) }
  others : ∀ x, n x = 0 → v.entry x = u.entry x
  sequence :
    v.sequence =
      u.sequence + BitVec.ofNat 8 (allCauses.filter fun x => decide (0 < n x) && !(u.entry x).pending).length
  attention :
    v.attention =
      (u.attention || allCauses.any fun x => decide (0 < n x) && !(u.entry x).pending && mask.getLsbD x.index.val)
  rollMisses : v.rollMisses = u.rollMisses

/-! ### Invariants of the causes (R186) -/

/-- A count is 0 exactly while its cause is not pending, and at most 255; a level cause is pending exactly while its
condition holds (R186). -/
structure CauseInv (s : State) : Prop where
  counts : ∀ x : Cause, ((s.causes.entry x).count = 0 ↔ (s.causes.entry x).pending = false)
  limit : ∀ x : Cause, (s.causes.entry x).count ≤ 255
  level : ∀ x : Cause, x.isLevel = true → (s.causes.entry x).pending = levelHolds x s

/-! ### Requests -/

/-- The state a request at the own address is judged in: received whole at port M, and an open session ended (R172,
R182). -/
def State.asked (s : State) : State := endSession .request (setRx .m .idle s)

/-- The state in which a telegram from port M to another station is judged: received whole at port M (R147). -/
def State.heard (s : State) : State := setRx .m .idle s

/-- A request the part consumes, with room for its reply (R153, R151, R146). -/
structure Consumes (s : State) (own : Byte) (payload : List Byte) : Prop where
  address : s.ownAddress = some own
  fits : payload.length ≤ 40
  room : s.relay.mBound.length < 4

/-- A state with one more telegram at the end of the M-bound queue. -/
def State.withReply (s : State) (t : Telegram) : State :=
  { s with relay := { s.relay with mBound := s.relay.mBound ++ [t] } }

/-- A state with the part's reply to a request at the end of the M-bound queue (R155). -/
def State.answer (s : State) (own fn : Byte) (r : Result) (data : List Byte) : State :=
  s.withReply (replyTelegram own fn r data)

/-- A state with one more telegram at the end of the F-bound queue. -/
def State.withForward (s : State) (t : Telegram) : State :=
  { s with relay := { s.relay with fBound := s.relay.fBound ++ [t] } }

/-- The rows of the table that are requests, each with its function code (Table 8-20). -/
def requestRows : List (Byte × (Byte → Byte → List Byte → Instr)) :=
  [ (0x01, .statusPoll), (0x02, .readCauses), (0x03, .readRecord), (0x04, .writeCrusher), (0x05, .writeFeeder),
    (0x06, .writeLine), (0x07, .setTarget), (0x08, .crusherEnable), (0x09, .crusherDisable), (0x0A, .faultClear),
    (0x0B, .wearReset), (0x0C, .lineStart), (0x0D, .lineStop), (0x0E, .tripRelease), (0x0F, .rejectLot),
    (0x10, .loadOpen), (0x11, .commit), (0x12, .dryRun), (0x13, .deviceClear), (0x14, .warmRestart),
    (0x15, .rollCall) ]

/-- The requests that are forwarded and not taken at address 0 and the group address (R173). -/
def readingRows : List (Byte × (Byte → Byte → List Byte → Instr)) :=
  [(0x01, .statusPoll), (0x02, .readCauses), (0x03, .readRecord)]

/-- The requests that are taken at address 0 and the group address as at the own address (R173). -/
def takenRows : List (Byte × (Byte → Byte → List Byte → Instr)) :=
  [ (0x04, .writeCrusher), (0x05, .writeFeeder), (0x06, .writeLine), (0x07, .setTarget), (0x08, .crusherEnable),
    (0x09, .crusherDisable), (0x0A, .faultClear), (0x0B, .wearReset), (0x0C, .lineStart), (0x0D, .lineStop),
    (0x0E, .tripRelease), (0x0F, .rejectLot), (0x10, .loadOpen), (0x11, .commit), (0x12, .dryRun),
    (0x13, .deviceClear), (0x14, .warmRestart) ]

/-! ### Parameters of a crusher (R38, Table 3-2) -/

/-- The arguments of WRITE_CRUSHER after the crusher index, as R172 codes them: the parameters in the order of Table
3-2, each in the bytes its range needs, with a byte for the curve (`loadCurve` itself is not coded). -/
def CrusherParams.wire (p : CrusherParams) (curve : Byte) : List Byte :=
  beBytes 2 p.cssMin ++ beBytes 2 p.cssMax ++ beBytes 1 p.deadband ++ beBytes 1 p.stepMax ++
  beBytes 1 p.settleCycles ++ beBytes 2 p.moveTimeout ++ beBytes 2 p.moveCap ++ beBytes 2 p.moveLoadMax ++
  beBytes 2 p.recoverCap ++ beBytes 2 p.reliefPressure ++ beBytes 2 p.reliefClear ++ beBytes 1 p.reliefClearCount ++
  beBytes 1 p.reliefLimit ++ beBytes 2 p.linerLimit ++ beBytes 2 p.ratedPower ++ [curve] ++ beBytes 2 p.levelTarget ++
  beBytes 1 p.levelGain

/-- Every number fits the bytes of its argument. -/
def CrusherParams.sized (p : CrusherParams) : Prop :=
  (∀ n ∈ [p.cssMin, p.cssMax, p.moveTimeout, p.moveCap, p.moveLoadMax, p.recoverCap, p.reliefPressure, p.reliefClear,
    p.linerLimit, p.ratedPower, p.levelTarget], n < 65536) ∧
  ∀ n ∈ [p.deadband, p.stepMax, p.settleCycles, p.reliefClearCount, p.reliefLimit, p.levelGain], n < 256

/-- Whether each parameter in the order of Table 3-2 keeps its range; an ordering condition is judged at the first of
its two parameters, and cssMin by itself against 1 to 3000 (assumption log 12). -/
def CrusherParams.rows (p : CrusherParams) (curve : Byte) : List Bool :=
  [ decide (1 ≤ p.cssMin ∧ p.cssMin ≤ 3000 ∧ p.cssMin < p.cssMax)
  , decide (1 ≤ p.cssMax ∧ p.cssMax ≤ 3000)
  , decide (1 ≤ p.deadband ∧ p.deadband ≤ 100)
  , decide (1 ≤ p.stepMax ∧ p.stepMax ≤ 200)
  , decide (p.settleCycles ≤ 255)
  , decide (1 ≤ p.moveTimeout ∧ p.moveTimeout ≤ 65535)
  , decide (p.moveCap ≤ 1000)
  , decide (p.moveLoadMax ≤ 2000)
  , decide (p.recoverCap ≤ 1000)
  , decide (1 ≤ p.reliefPressure ∧ p.reliefPressure ≤ 65535 ∧ p.reliefClear < p.reliefPressure)
  , decide (1 ≤ p.reliefClear ∧ p.reliefClear ≤ 65535)
  , decide (1 ≤ p.reliefClearCount ∧ p.reliefClearCount ≤ 16)
  , decide (1 ≤ p.reliefLimit ∧ p.reliefLimit ≤ 8)
  , decide (1 ≤ p.linerLimit ∧ p.linerLimit ≤ 65535)
  , decide (1 ≤ p.ratedPower ∧ p.ratedPower ≤ 65535)
  , decide (curve.toNat ≤ 7 ∨ curve = 0xFF)
  , decide (p.levelTarget ≤ 1000)
  , decide (p.levelGain ≤ 255) ]

/-- Whether a crusher is due: its wear has reached linerLimit, or closing is blocked (R58). -/
abbrev Crusher.isDue (x : Crusher) : Prop := x.params.linerLimit ≤ x.wear ∨ x.closeBlocked = true

/-- What becomes of the causes when crusher context k alone changes to `new`, with no other cause of its own:
LINER_DUE is raised when k becomes due, and ceases when no crusher is due; nothing else changes (R58, R186, R187). -/
structure LinerCause (s : State) (k : Fin 4) (new : Crusher) (u : CauseUnit) : Prop where
  raised : new.isDue → ¬(s.crusher k).isDue → RaisedOnce s.params.causeMask .linerDue s.causes u
  kept : ¬(new.isDue ∧ ¬(s.crusher k).isDue) → (new.isDue ∨ ∃ j, j ≠ k ∧ (s.crusher j).isDue) → u = s.causes
  ceased : ¬new.isDue → (¬∃ j, j ≠ k ∧ (s.crusher j).isDue) →
    (∀ x, x ≠ .linerDue → u.entry x = s.causes.entry x) ∧ u.entry .linerDue = { pending := false, count := 0 } ∧
      u.attention = s.causes.attention ∧ u.sequence = s.causes.sequence ∧ u.rollMisses = s.causes.rollMisses

/-! ### Parameters of the line (R172, R175, Table 10-2) -/

/-- The widths in bytes of the arguments of WRITE_LINE: the fewest that hold each range of Table 10-2 (R172). -/
def lineArgWidths : List Nat := [2, 2, 2, 2, 3, 3, 1, 1, 1, 2, 1, 2, 1, 1, 1, 1, 1, 1]

/-- The arguments of WRITE_LINE as numbers, coded by R172. -/
def lineWire (args : List Nat) : List Byte := (lineArgWidths.zip args).flatMap fun x => beBytes x.1 x.2

/-- The checks of R175 in their order on the arguments of WRITE_LINE, for a part with an own address: the position of
the parameter that the check names, and whether it passes. 255 codes none for rollBit, groupAddress and the bin
curves. A causeMask above 14 bits and a flag above 1 are out of range by the model's reading (assumption log 13). -/
def lineRows (own : Byte) : List Nat → List (Nat × Bool)
  | [lotLength, transportDistance, divertLead, maxIncrement, capacity, drawDown, radarBlend, divertConfirm, lockThreshold,
      stopLimit, tripMask, causeMask, rollBit, rollSense, group, lineEnd, primary, secondary] =>
    [ (0, decide (10 ≤ lotLength ∧ lotLength ≤ 2000))
    , (1, decide (1 ≤ transportDistance ∧ transportDistance ≤ 65535))
    , (2, decide (divertLead ≤ 65534))
    , (3, decide (1 ≤ maxIncrement ∧ maxIncrement ≤ 65535))
    , (4, decide (1 ≤ capacity ∧ capacity ≤ 4000000))
    , (5, decide (drawDown ≤ 4000000))
    , (6, decide (radarBlend ≤ 16))
    , (7, decide (1 ≤ divertConfirm ∧ divertConfirm ≤ 255))
    , (8, decide (2 ≤ lockThreshold ∧ lockThreshold ≤ 32))
    , (9, decide (1 ≤ stopLimit ∧ stopLimit ≤ 65535))
    , (10, decide (tripMask ≤ 255))
    , (11, decide (causeMask < 2 ^ 14))
    , (12, decide (rollBit ≤ 15 ∨ rollBit = 255))
    , (13, decide (rollSense ≤ 1))
    , (14, decide ((1 ≤ group ∧ group ≤ 126) ∨ group = 255))
    , (15, decide (lineEnd ≤ 1))
    , (16, decide (primary ≤ 7 ∨ primary = 255))
    , (17, decide (secondary ≤ 7 ∨ secondary = 255))
    , (14, decide (group ≠ own.toNat))
    , (0, decide (lotLength + divertLead < transportDistance))
    , (5, decide (drawDown ≤ capacity)) ]
  | _ => []

/-! ### Trips and stand-downs (R45, R93, R133, R134) -/

/-- A crusher context after the signal of R45, given whether its regulation is governed: from RUN, MOVE, RECOVER or
RELIEF it enters STANDBY without a move and with settleCount 0; the command becomes STOP with moveSeq where a move is
aborted or regulation is governed. The relief record is kept (R74). -/
def Crusher.stoodDown (regulated : Bool) (x : Crusher) : Crusher :=
  if x.state ∈ [CrusherState.run, .move, .recover, .relief] then
    { x with
      state := .standby
      settleCount := 0
      moveRec := none
      command := if x.moveRec.isSome || regulated then { kind := .stop, seq := x.moveSeq, step := 0 } else x.command }
  else x

/-- Every crusher context of `t` is the one of `s` after the signal of R45, and every feeder the one of `s` zeroed, with
its drive value (R81, R93). -/
structure Halted (s t : State) : Prop where
  crushers : ∀ k, t.crusher k = (s.crusher k).stoodDown (governed s.activeTable k)
  feeders : ∀ j, t.feeder j = { s.feeder j with output := 0, driveValue := driveValueOf s.activeTable j 0 }

/-- Some trip input is active. -/
abbrev TripInputs.active (a : TripInputs) : Prop := a.pin = true ∨ a.unitLine = true ∨ a.unitStale = true

/-- What an evaluation that found the trip inputs `a` makes of the state `s` (R131, R133, R134, R135): nothing where
none is active; in TRIPPED they are added to the trip record and nothing else changes; in every other mode the line
enters TRIPPED, with a stop under way ended, TRIP_OUT asserted, TRIP raised, and the crushers and feeders halted. -/
structure TripTaken (s : State) (a : TripInputs) (t : State) : Prop where
  quiet : ¬a.active → t = s
  added : a.active → s.line.lineMode = .tripped →
    t =
      { s with
        line :=
          { s.line with
            tripRec :=
              s.line.tripRec.map fun (r : TripRec) =>
                { r with
                  inputs :=
                    { pin := r.inputs.pin || a.pin, unitLine := r.inputs.unitLine || a.unitLine
                      unitStale := r.inputs.unitStale || a.unitStale, lines := r.inputs.lines ||| a.lines } } } }
  entered : a.active → s.line.lineMode ≠ .tripped → CauseInv s →
    RaisedOnce s.params.causeMask .trip s.causes t.causes ∧ Halted s t ∧
    t =
      { s with
        pins := { s.pins with tripOut := true }
        line :=
          { lineMode := .tripped
            stopRec := none
            lastStopEnd := if s.line.stopRec.isSome then .tripped else s.line.lastStopEnd
            tripRec := some { fromMode := s.line.lineMode, entryCycle := s.tracker.cycleCount, inputs := a }
            tripEntries := min 65535 (s.line.tripEntries + 1) }
        crushers := t.crushers
        feeders := t.feeders
        causes := t.causes }

/-! ### Observed values (R5, R6, R15 to R18, R20) -/

/-- A record made STALE, its value and arrival cycle kept and a counter's baseline cleared (R17, R20). -/
def Record.lapsed (rec : Record) : Record :=
  { fresh := false
    arrival := rec.arrival
    value :=
      match rec.value with
      | .counter last _ => .counter last false
      | v => v }

/-- The field that a reply from `src` holds for entry i: the entry's role, and the bytes where they fit the payload;
absent where the entry is unused, of another station, or reads no field (R15). -/
def State.readField (s : State) (src : Byte) (payload : List Byte) (i : Fin 32) : Option (Role × Option (List Byte)) :=
  let e := s.activeTable[i]
  if e.used = true ∧ e.address = src then
    match e.role? with
    | some r =>
      match r.readWidth, offsetOfCode e.readOffset with
      | some w, some off => some (r, if off + w ≤ payload.length then some ((payload.drop off).take w) else none)
      | _, _ => none
    | none => none
  else none

/-- The value a field of a role is stored as; absent where it is discarded: a status with a result byte above 4, and a
confirm byte that is neither PASS nor REJECT (R5, R6, R16, R17, R159, Tables 8-14 and 8-15). -/
def storedValue (e : Entry) : Role → List Byte → Option Value
  | .power _, [hi, lo] | .gap _, [hi, lo] | .level _, [hi, lo] | .pressure _, [hi, lo] | .binLevel, [hi, lo] =>
    let raw : Int := hi.toNat * 256 + lo.toNat
    some (.scalar (some (min 65535 (max 0 (Int.tdiv ((raw - e.offset.toNat) * e.gain.toNat) 1024))).toNat))
  | .feederTotal _, [hi, lo] | .beltScale, [hi, lo] | .beltTravel, [hi, lo] =>
    some (.counter (some (hi.toNat * 256 + lo.toNat)) true)
  | .metal, [b] => some (.counter (some b.toNat) true)
  | .actuator _, [seq, result, flags] =>
    ([ActResult.idle, .busy, .done, .strokeEnd, .fault][result.toNat]?).map fun r =>
      .actuator (some { lastSeq := seq, result := r, reliefOpen := flags.getLsbD 0 })
  | .diverter, [b] => if b = 0 then some (.confirm (some .pass)) else if b = 1 then some (.confirm (some .reject)) else none
  | .tripUnit, [b] => some (.tripWord (some b))
  | _, _ => none

/-- A REPLY from `src` with a payload waits at port F: the front of the queue delivers it whole, or is its last character
(R146, R147). That such a reply can have come together with an event taken now is the model's choice (assumption log
33). -/
def State.replyWaits (s : State) (src : Byte) (payload : List Byte) : Prop :=
  payload.length ≤ 40 ∧ ∃ (dst fn : Byte) (rest : List Instr),
    s.pending = .fieldReply dst src fn payload :: rest ∨
      s.pending = .fTelegramForward .reply dst src fn payload :: rest ∨
      ∃ (part : List Byte) (byte : Byte), s.pending = .goodCharacter .f byte :: rest ∧
        s.portF.rx = .receiving part ∧ part ++ [byte] = (Telegram.make .reply dst src fn payload).bytes

/-- The waiting reply holds an onset sample of crusher k: a pressure at or above reliefPressure, or a status with
reliefOpen set (R65). -/
def State.onsetWaits (s : State) (k : Fin 4) : Prop :=
  ∃ (src : Byte) (payload : List Byte) (i : Fin 32) (bytes : List Byte), s.replyWaits src payload ∧
    ((s.readField src payload i = some (.pressure k, some bytes) ∧ ∃ pressure : Nat,
        storedValue s.activeTable[i] (.pressure k) bytes = some (.scalar (some pressure)) ∧
          (s.crusher k).params.reliefPressure ≤ pressure) ∨
      (s.readField src payload i = some (.actuator k, some bytes) ∧ ∃ st : ActStatus,
        storedValue s.activeTable[i] (.actuator k) bytes = some (.actuator (some st)) ∧ st.reliefOpen = true))

/-- The increment of a counter that is stored against the value held before: the difference modulo the counter's wrap,
absent without a baseline; 0 stands for a role that is no counter (R17, Table 1-2). -/
def storedIncrement (old new : Value) (wrap : Nat) : Option Nat :=
  match old, new with
  | .counter (some last) true, .counter (some raw) _ => some ((raw + wrap - last) % wrap)
  | _, .counter _ _ => none
  | _, _ => some 0

/-- The row of Table 1-6 that hands over a role's arrival; absent for LEVEL, FEEDER_DRIVE and DIVERTER, which make none
(R18). -/
def Role.row : Role → Option Nat
  | .tripUnit => some 1
  | .pressure _ => some 2
  | .actuator _ => some 3
  | .gap _ => some 4
  | .power _ => some 5
  | .beltScale => some 6
  | .metal => some 7
  | .beltTravel => some 8
  | .feederTotal _ => some 9
  | .binLevel => some 10
  | .level _ | .feederDrive _ | .diverter => none

/-! ### Validation of the banks (R8, R9, R97; role kinds by their codes in Table 8-19) -/

/-- The width of the field that a role of a kind reads (Table 1-2). -/
def readsOfKind (kind : Nat) : Option Nat :=
  if kind ∈ [1, 2, 3, 4, 7, 8, 9, 11] then some 2 else if kind = 5 then some 3
  else if kind ∈ [10, 12, 13] then some 1 else none

/-- The width of the field that a role of a kind writes, for the output roles (Table 1-2). -/
def writesOfKind (kind : Nat) : Option Nat :=
  if kind = 5 then some 3 else if kind = 6 then some 2 else if kind = 12 then some 1 else none

/-- What entry i must meet to pass the check of a number, counting the checks of Table 1-4 from 0 (ADDRESS, ROLE, MODE,
OFFSET, GAIN, FRESH_LIMIT), then DUPLICATE_ROLE 6 and OUTPUT_CONFLICT 7, judged against the used entries of lower index
(R8, R9). -/
def StationCheck (own : Option Byte) (tab : Vector Entry 32) (i : Fin 32) (check : Nat) : Prop :=
  let e := tab[i]
  let kind := e.roleKind.toNat
  let inst := e.roleInst.toNat
  match check with
  | 0 => e.address.toNat ≤ 126 ∧ own ≠ some e.address
  | 1 => (1 ≤ kind ∧ kind ≤ 6 ∧ inst ≤ 3) ∨ (kind = 7 ∧ 1 ≤ inst ∧ inst ≤ 3) ∨ (8 ≤ kind ∧ kind ≤ 13 ∧ inst = 0)
  | 2 => if (writesOfKind kind).isSome then e.mode.toNat ∈ [2, 3, 4] else e.mode.toNat = 1
  | 3 => (∀ w, readsOfKind kind = some w → e.readOffset ≠ 0xFF ∧ e.readOffset.toNat + w ≤ 40) ∧
      ∀ w, writesOfKind kind = some w → e.writeOffset ≠ 0xFF ∧ e.writeOffset.toNat + w ≤ 40
  | 4 => kind ∈ [1, 2, 3, 4, 6, 11] → e.gain ≠ 0
  | 5 => (readsOfKind kind).isSome = true → e.freshLimit ≠ 0
  | 6 => ∀ j, j < i → tab[j].used = true → ¬(tab[j].roleKind = e.roleKind ∧ tab[j].roleInst = e.roleInst)
  | _ => (writesOfKind kind).isSome = true → ∀ j, j < i → tab[j].used = true → tab[j].address = e.address →
      (writesOfKind tab[j].roleKind.toNat).isSome = false

/-- What a staged curve must meet to pass the check of a number, counting the checks of Table 5-6 from 0: COUNT, RANGE
of its counted points, and ORDER of their x (R97). -/
def CurveCheck (x : StagedCurve) (check : Nat) : Prop :=
  let n := x[0].toNat
  match check with
  | 0 => n ≠ 1 ∧ n ≤ 16
  | 1 =>
    ∀ q : Nat, q < n → ∀ a b : Word, x[1 + 2 * q]? = some a → x[2 + 2 * q]? = some b →
      a.toNat ≤ 2000 ∧ b.toNat ≤ 1000
  | _ =>
    ∀ q : Nat, q + 1 < n → ∀ a b : Word, x[1 + 2 * q]? = some a → x[3 + 2 * q]? = some b → a.toNat < b.toNat

/-- Entry i is the POWER entry of crusher k. -/
def isPowerOf (tab : Vector Entry 32) (k : Nat) (i : Fin 32) : Prop :=
  tab[i].used = true ∧ tab[i].roleKind = 1 ∧ tab[i].roleInst.toNat = k

/-- A FEEDER_DRIVE entry of feeder k exists. -/
def hasDrive (tab : Vector Entry 32) (k : Nat) : Prop :=
  ∃ j : Fin 32, tab[j].used = true ∧ tab[j].roleKind = 6 ∧ tab[j].roleInst.toNat = k

/-! ### Reception and loading -/

/-- Some characters, all good, at a port, one command each. -/
def feed (p : PortId) : List Byte → State → Host.Outcome State Fault Refusal
  | [], s => .next s
  | b :: rest, s =>
    match exec (.goodCharacter p b) s with
    | .next t => feed p rest t
    | other => other

/-- A word of a station entry as it reads back: the high byte of a one-byte field reads as 0 (R160, Table 8-17). -/
def Entry.word (e : Entry) : Nat → Word
  | 0 => e.address.setWidth 16
  | 1 => e.roleKind ++ e.roleInst
  | 2 => e.mode.setWidth 16
  | 3 => e.readOffset.setWidth 16
  | 4 => e.writeOffset.setWidth 16
  | 5 => e.gain
  | 6 => e.offset
  | _ => e.freshLimit.setWidth 16

/-- What a word reads back as in word `n` of a station entry (R160). -/
def heldWord (n : Nat) (w : Word) : Word := if n = 1 ∨ n = 5 ∨ n = 6 then w else w &&& 0x00FF

/-- Word `q` of the staged station bank, 0 to 255 (R160). -/
def State.stationWord (s : State) (q : Nat) : Option Word := s.stagedTable[q / 8]?.map fun e => e.word (q % 8)

/-- Word `q` of the staged curve bank, 0 to 263 (R160). -/
def State.curveWord (s : State) (q : Nat) : Option Word := s.stagedCurves[q / 33]?.bind fun x => x[q % 33]?

/-! ### Invariants of the line (R35, R127, R131, R138, R143) -/

/-- The modes that need lock (R127: each is entered while LOCKED and left at a loss of lock). -/
def LineMode.needsLock : LineMode → Bool
  | .ready | .run | .stopping | .stopped => true
  | .idle | .tripped => false

/-- The stop record is present in STOPPING alone and the trip record in TRIPPED alone; TRIP_OUT and LOCK show the mode
and the lock; READY, RUN, STOPPING and STOPPED are held while LOCKED; and a crusher is in RUN, MOVE, RECOVER or RELIEF
in RUN and STOPPING alone (R127, R35, R143). -/
structure LineInv (s : State) : Prop where
  stop : s.line.stopRec.isSome = (s.line.lineMode == .stopping)
  trip : s.line.tripRec.isSome = (s.line.lineMode == .tripped)
  tripOut : s.pins.tripOut = (s.line.lineMode == .tripped)
  lock : s.pins.lock = (s.tracker.lockState == .locked)
  locked : s.line.lineMode.needsLock = true → s.tracker.lockState = .locked
  crushers : ∀ k : Fin 4, (s.crusher k).state.isEnabled = true → s.line.lineMode.feeds = true

/-! ### Invariants of a crusher (Tables 3-1, 3-2, 3-5; R10, R48, R51, R64) -/

/-- A move record in WAITING has neither sequence nor step; in ISSUED or ACTIVE it has both, and the command is the
ADJUST it was issued with (Table 3-5, R39, R53). -/
structure MoveInv (x : Crusher) (m : Move) : Prop where
  waiting : m.phase = .waiting → m.seq = none ∧ m.step = none
  flying : m.phase ≠ .waiting → ∃ step : Int, m.seq = some x.moveSeq ∧ m.step = some step ∧ step ≠ 0 ∧
    -200 ≤ step ∧ step ≤ 200 ∧ x.command = { kind := .adjust, seq := x.moveSeq, step := step }
  elapsed : m.elapsed ≤ 65535

/-- What holds of one crusher context at every moment. -/
structure ContextInv (x : Crusher) : Prop where
  params : ∀ ok ∈ x.params.checks true, ok = true
  window : x.params.cssMin ≤ x.cssTarget ∧ x.cssTarget ≤ x.params.cssMax
  move : ∀ m, x.moveRec = some m → MoveInv x m ∧ (x.state = .move ∨ x.state = .recover)
  moving : x.state = .move → x.moveRec.isSome = true
  reliefAbsent : x.state = .absent ∨ x.state = .run ∨ x.state = .move → x.reliefRec = none
  reliefOpen : x.state = .relief → ∃ r, x.reliefRec = some r ∧ r.phase = .opened
  reliefCleared : x.state = .recover → ∃ r, x.reliefRec = some r ∧ r.phase = .cleared
  relief : ∀ r, x.reliefRec = some r →
    1 ≤ r.reliefCount ∧ r.reliefCount ≤ 255 ∧ r.clearRun ≤ 16 ∧ (r.phase = .opened → r.clearRun ≤ 15)
  settled : x.state = .absent ∨ x.state = .standby → x.settleCount = 0
  ranges : x.settleCount ≤ 255 ∧ x.wear ≤ 65535
  proposed : ∀ step, x.proposedStep = some step → -200 ≤ step ∧ step ≤ 200

/-- Every context holds its invariant, and a crusher is ABSENT exactly when the active bank has no POWER entry of it
(R10). -/
structure CrusherInv (s : State) : Prop where
  context : ∀ k : Fin 4, ContextInv (s.crusher k)
  presence : ∀ k : Fin 4, (s.crusher k).state = .absent ↔ present s.activeTable k = false

/-! ### Invariants of the feeders (R79, R81) -/

/-- What R79 and Table 5-1 say of one feeder record, given whether its crusher is in a run state in a line mode that
feeds; and the drive value is the output in the drive's units (R81). -/
structure FeederInv (s : State) : Prop where
  rates : ∀ j : Fin 4, 1 ≤ (s.feeder j).slewUp ∧ (s.feeder j).slewUp ≤ 1000 ∧ 1 ≤ (s.feeder j).slewDown ∧
    (s.feeder j).slewDown ≤ 1000 ∧ (s.feeder j).minRun ≤ 500 ∧ (s.feeder j).staleCap ≤ 1000
  output : ∀ j : Fin 4, (s.feeder j).output ≤ 1000
  least : ∀ j : Fin 4, (s.feeder j).output = 0 ∨ (s.feeder j).minRun ≤ (s.feeder j).output
  feeds : ∀ j : Fin 4, (s.feeder j).output ≠ 0 → (s.crusher j).state.isRun = true ∧ s.line.lineMode.feeds = true
  drive : ∀ j : Fin 4, (s.feeder j).driveValue = driveValueOf s.activeTable j (s.feeder j).output

/-! ### Invariants of the lots and the bin (R103, R116, R117, R120) -/

/-- The sum of the tonnages of the lots in the table, modulo 2^32. -/
def tonnageSum (table : List Lot) : Long := (table.map fun l => l.tonnage).sum

/-- The order of the states along the table, oldest first: PASSING, RIDING, OPEN (R103). -/
def LotState.rank : LotState → Nat
  | .passing => 0
  | .riding => 1
  | .opened => 2

/-- Where a lot lies at a belt position: endPos is absent while OPEN alone; a lot short of its head lies within
transportDistance of the weigh point, and a PASSING lot has its end within it (R108, R109, R110). The bounds keep every
distance far from a wrap of the position (R102). -/
structure LotPlaced (pos : Long) (l : Lot) : Prop where
  opened : l.state = .opened → l.endPos = none ∧ distance l.startPos pos ≤ 65535
  riding : l.state = .riding →
    ∃ e, l.endPos = some e ∧ distance e pos ≤ distance l.startPos pos ∧ distance l.startPos pos ≤ 65535
  passing : l.state = .passing →
    ∃ e, l.endPos = some e ∧ distance e pos ≤ 65535 ∧ distance e pos ≤ distance l.startPos pos ∧
      distance l.startPos pos ≤ distance e pos + 98302

/-- An older lot beside a younger one: startPos and endPos non-decreasing along the belt, PASSING before RIDING, and an
OPEN lot the youngest (R103, R107). -/
structure LotPrecedes (pos : Long) (l m : Lot) : Prop where
  start : distance m.startPos pos ≤ distance l.startPos pos
  ends : ∀ e f, l.endPos = some e → m.endPos = some f → distance f pos ≤ distance e pos
  state : l.state.rank ≤ m.state.rank
  closed : l.state ≠ .opened

/-- What holds of the lots and the bin account: R103 with consecutive tags up to the tag counter, a source for every
mark (Table 6-2), the balance of R116, the diverter command of R117 and the range of R120. -/
structure LotsInv (s : State) : Prop where
  size : s.lots.table.length ≤ 64
  order : s.lots.table.Pairwise (LotPrecedes s.lots.position)
  placed : ∀ l ∈ s.lots.table, LotPlaced s.lots.position l
  tags : ∀ (i : Nat) (l : Lot), s.lots.table[i]? = some l →
    l.tag = s.lots.tagCounter - BitVec.ofNat 8 (s.lots.table.length - i)
  marks : ∀ l ∈ s.lots.table, l.rejectSource.isSome = l.reject
  balance : s.lots.weighedTotal = tonnageSum s.lots.table + s.lots.creditedTotal + s.lots.rejectedTotal
  divert : s.lots.divertCommand = .reject ↔ ∃ l ∈ s.lots.table, l.state = .passing ∧ l.reject = true
  inventory : s.lots.inventory ≤ s.params.capacity

/-! ### Invariants of the tracker, the relay and the ports (Tables 2-1 and 8-4, R146, R151, R152) -/

/-- The ranges of Table 2-1: the runs, the period and the supervision a marker loads, and the expected number that a
locked tracker follows. -/
structure TrackerInv (s : State) : Prop where
  run : s.tracker.runCount ≤ 32
  searching : s.tracker.lockState = .search → s.tracker.runCount ≤ 31
  slips : s.tracker.slipRun ≤ 3
  period : ∀ p, s.tracker.period = some p → 2 ≤ p ∧ p ≤ 250
  supervision : ∀ n, s.tracker.supervision = some n → n ≤ 750
  locked : s.tracker.lockState = .locked →
    s.tracker.expected.isSome = true ∧ s.tracker.period.isSome = true ∧ s.tracker.supervision.isSome = true

/-- A telegram the relay holds: at most 40 bytes of payload, with a check that agrees (R146, R147, R158). -/
def Telegram.sound (t : Telegram) : Bool := decide (t.payload.length ≤ 40) && t.checkHolds

/-- Each queue holds at most four telegrams, each sound; a telegram being sent keeps its place in its queue; a driver
is enabled exactly while its transmitter sends a telegram or a break; and a break is sent on port F alone, with the
line at space (R150, R151, R152). -/
structure RelayInv (s : State) : Prop where
  fSize : s.relay.fBound.length ≤ 4
  mSize : s.relay.mBound.length ≤ 4
  fSound : ∀ t ∈ s.relay.fBound, t.sound = true
  mSound : ∀ t ∈ s.relay.mBound, t.sound = true
  sending : ∀ (p : PortId) (t : Telegram), (s.port p).tx = .sending t → t.sound = true ∧ s.queueOf p ≠ []
  enabled : ∀ p : PortId, (s.port p).de = ((s.port p).tx != .idle)
  space : ∀ p : PortId, (s.port p).txLine = .space ↔ (s.port p).tx = .breaking
  breaking : s.portM.tx ≠ .breaking

/-- The partial telegram a receiver holds begins with a kind code, has a length byte of at most 40, and is not yet
complete (R146). -/
structure PartialInv (part : List Byte) : Prop where
  kind : ∃ code rest, part = code :: rest ∧ (kindOfCode code).isSome = true
  length : ∀ n, part[4]? = some n → n.toNat ≤ 40 ∧ part.length < n.toNat + 7

/-- Every receiver in RECEIVING holds such a partial telegram. -/
def ReceiverInv (s : State) : Prop :=
  ∀ (p : PortId) (part : List Byte), (s.port p).rx = .receiving part → PartialInv part

/-! ### Invariants of the store, the tables and the handler (R7, R9, R14, R95, R97, R175, R180) -/

/-- The forms of Table 1-5, and whether a value of that form has been stored. -/
def Value.fits (r : Role) (fresh : Bool) : Value → Bool
  | .scalar v => r.isScalar && (!fresh || v.isSome)
  | .counter last _ => r.counterModulus.isSome && (!fresh || last.isSome)
  | .actuator v => (match r with | .actuator _ => true | _ => false) && (!fresh || v.isSome)
  | .confirm v => r == .diverter && (!fresh || v.isSome)
  | .tripWord v => r == .tripUnit && (!fresh || v.isSome)
  | .nothing => (match r with | .feederDrive _ => true | _ => false) && !fresh

/-- The store holds one record for each used entry and none for another; a FRESH record has an arrival cycle and a value
in the form of its role; and a record without an arrival is STALE (R14, Table 1-5). -/
structure StoreInv (s : State) : Prop where
  held : ∀ i : Fin 32, (s.store[i]).isSome = s.activeTable[i].used
  form : ∀ (i : Fin 32) (rec : Record), s.store[i] = some rec →
    ∃ r, s.activeTable[i].role? = some r ∧ rec.value.fits r rec.fresh = true
  arrival : ∀ (i : Fin 32) (rec : Record), s.store[i] = some rec → rec.fresh = true → rec.arrival.isSome = true

/-- A curve of the active bank: empty, or 2 to 16 points in range with x strictly increasing (R95). -/
structure CurveInv (x : Curve) : Prop where
  count : x.length = 0 ∨ (2 ≤ x.length ∧ x.length ≤ 16)
  points : ∀ p ∈ x, p.x ≤ 2000 ∧ p.y ≤ 1000
  rising : x.Pairwise fun p q => p.x < q.x

/-- The active bank satisfies every check of R8 and R9; a bank whose commit is pending still holds what was validated,
with no session open on it; every active curve is well formed; and a session's portal lies within its bank (R7, R9,
R95, R97, R180, R183). -/
structure TableInv (s : State) : Prop where
  active : stationFailure s.ownAddress s.activeTable = none
  station : s.handler.pendingStation = true →
    stationFailure s.ownAddress s.stagedTable = none ∧ sessionOn s.handler .station = false
  curve : s.handler.pendingCurve = true → curveFailure s.stagedCurves = none ∧ sessionOn s.handler .curve = false
  curves : ∀ i : Fin 8, CurveInv s.activeCurves[i]
  session : ∀ x, s.handler.session = some x → x.portal ≤ x.bank.size ∧ x.startIndex ≤ x.portal ∧ x.wordsTaken ≤ 65535

/-- Line parameters within the ranges of Table 10-2 that meet the conditions of R175, for a part with an own address
or none. -/
structure LineParams.Valid (own : Option Byte) (p : LineParams) : Prop where
  lot : 10 ≤ p.lotLength ∧ p.lotLength ≤ 2000
  distance : p.transportDistance ≤ 65535 ∧ p.lotLength + p.divertLead < p.transportDistance
  increment : 1 ≤ p.maxIncrement ∧ p.maxIncrement ≤ 65535
  capacity : 1 ≤ p.capacity ∧ p.capacity ≤ 4000000 ∧ p.drawDown ≤ p.capacity
  blend : p.radarBlend ≤ 16
  confirm : 1 ≤ p.divertConfirm ∧ p.divertConfirm ≤ 255
  threshold : 2 ≤ p.lockThreshold ∧ p.lockThreshold ≤ 32
  limit : 1 ≤ p.stopLimit ∧ p.stopLimit ≤ 65535
  group : ∀ g, p.groupAddress = some g → own ≠ some g ∧ 1 ≤ g.toNat ∧ g.toNat ≤ 126

/-- The line parameters held are valid (R174, R175). -/
def ParamsInv (s : State) : Prop := s.params.Valid s.ownAddress

end Sys2Proof.Machine
end

