-- ==== Sys2Proof/Certificates/Slice0/Obligations.lean ====
section
/-!
DEFINITION. The statements for the provers. Each says of the model what a numbered rule of the spec says of the part, or
an invariant that every step keeps. A statement about a request at the own address gives the next state whole: the state
`State.asked` in which it is judged, the fields it changes, and its reply.
-/

open Sys2Proof Sys2Proof.Machine

/-! ### The queue and the step -/

/-- A step takes the command at the front of the queue and leaves the rest of the queue waiting. With no command
waiting it is one tick of the 1 ms timer, which counts down, expires at 0 as SUPERVISION_EXPIRY does, and stands
while it is stopped (R25): that an idle step is a tick is the model's choice (assumption log 2). -/
def Obligations.StepTakesFront : Prop :=
  (∀ (i : Instr) (rest : List Instr) (s : State), s.pending = i :: rest →
    step s = exec i { s with pending := rest }) ∧
  ∀ s : State, s.pending = [] →
    (∀ n, s.tracker.supervision = some n → 1 < n →
      step s = .next { s with tracker := { s.tracker with supervision := some (n - 1) } }) ∧
    (∀ n, s.tracker.supervision = some n → n ≤ 1 → step s = exec .supervisionExpiry s) ∧
    (s.tracker.supervision = none → step s = .next s)

/-- Every command completes in every state; none touches the waiting commands; and the straps change at power-on
reset alone (R145). That POWER_ON_RESET keeps the waiting commands (assumption log 22), and that a command whose event
cannot occur in the state completes with no change (assumption log 3), are the model's choices. -/
def Obligations.CommandsComplete : Prop :=
  ∀ (i : Instr) (s : State), ∃ t : State, exec i s = .next t ∧ t.pending = s.pending ∧
    ((∀ a r l, i ≠ .powerOnReset a r l) → t.straps = s.straps)

/-! ### Invariants that every step keeps -/

/-- Every step keeps: the stop record in STOPPING alone and the trip record in TRIPPED alone, TRIP_OUT and LOCK as
the mode and the lock are, lock in READY, RUN, STOPPING and STOPPED, and crushers enabled in RUN and STOPPING alone
(R35, R127, R131, R143). -/
def Obligations.LineInvariantKept : Prop :=
  ∀ s t : State, LineInv s → step s = .next t → LineInv t

/-- Every step keeps: a count is 0 exactly while its cause is not pending and at most 255, and a level cause is
pending exactly while its condition holds (R186, Table 11-1). -/
def Obligations.CauseInvariantKept : Prop :=
  ∀ s t : State, CauseInv s → step s = .next t → CauseInv t

/-- Every step keeps, of each crusher context: valid parameters, the target in its window, a move in MOVE or
RECOVER alone with the command it was issued with, a relief record as the state asks for, and ABSENT exactly where
the active table has no POWER entry (R10, R48, R51, R64, Tables 3-1, 3-2 and 3-5). -/
def Obligations.CrusherInvariantKept : Prop :=
  ∀ s t : State, CrusherInv s → step s = .next t → CrusherInv t

/-- Every step keeps, of each feeder: parameters in range, an output of 0 or of minRun to 1000, an output above 0
only with its crusher in a run state in RUN or STOPPING, and the drive value of the output (R79, R81, R92, R93). -/
def Obligations.FeederInvariantKept : Prop :=
  ∀ s t : State, FeederInv s → step s = .next t → FeederInv t

/-- Every step keeps, with valid line parameters: at most 64 lots in belt order with consecutive tags, each within
the belt; the balance of the weighed total; the diverter command; and inventory within capacity (R103, R116, R117,
R120). That lots lie within the belt, and the tags by the counter, are inferences of the model from R103 and R107
to R110. -/
def Obligations.LotsInvariantKept : Prop :=
  ∀ s t : State, LotsInv s → ParamsInv s → step s = .next t → LotsInv t

/-- Every step keeps the ranges of Table 2-1 and the validity of the line parameters; a locked tracker has an
expected number, a period and a running supervision (R25, R26, R29, R30, R174, R175). -/
def Obligations.TrackerInvariantKept : Prop :=
  ∀ s t : State, TrackerInv s → ParamsInv s → step s = .next t → TrackerInv t ∧ ParamsInv t

/-- Every step keeps: at most four telegrams in each queue, each with at most 40 payload bytes and a check that
agrees; a telegram being sent keeps its place; the driver is enabled exactly while its transmitter is at work; and
a partial telegram is one that R146 allows (R146, R150, R151, R152). -/
def Obligations.RelayInvariantKept : Prop :=
  ∀ s t : State, RelayInv s → ReceiverInv s → step s = .next t → RelayInv t ∧ ReceiverInv t

/-- Every step keeps: the active station table passes every check, so does a staged bank whose commit is pending,
with no session open on it; active curves are well formed; a portal lies within its bank; and with that the store
holds a record of the right form for each used entry (R7, R8, R9, R14, R95, R97, R180, R183). -/
def Obligations.TableInvariantKept : Prop :=
  ∀ s t : State, TableInv s → step s = .next t → TableInv t ∧ (StoreInv s → StoreInv t)

/-- Every invariant holds right after reset. The straps of `State.reset` are the model's choice (assumption log 1). -/
def Obligations.ResetHoldsInvariants : Prop :=
  LineInv State.reset ∧ CauseInv State.reset ∧ CrusherInv State.reset ∧ FeederInv State.reset ∧ LotsInv State.reset ∧
    TrackerInv State.reset ∧ RelayInv State.reset ∧ ReceiverInv State.reset ∧ StoreInv State.reset ∧
    TableInv State.reset ∧ ParamsInv State.reset

/-! ### Resets and pins -/

/-- Power-on reset brings every block to its reset state with the straps read; with TRIP_IN low the line is TRIPPED
with fromMode IDLE and sources PIN, TRIP_OUT is asserted and TRIP is pending (R36, R144, R157). That the model's own
fields freeCount and pending are kept is the model's choice (assumption log 22). -/
def Obligations.PowerOnReset : Prop :=
  ∀ (addr : BitVec 7) (rate : BitVec 3) (s : State),
    let r : State :=
      { State.reset with straps := { addr := addr, rate := rate }, freeCount := s.freeCount, pending := s.pending }
    exec (.powerOnReset addr rate false) s = .next r ∧
    ∃ u, RaisedOnce 0x3FFF .trip CauseUnit.reset u ∧
      exec (.powerOnReset addr rate true) s =
        .next
          { r with
            pins := { tripInLow := true, tripOut := true, lock := false }
            line :=
              { lineMode := .tripped, stopRec := none, lastStopEnd := .none
                tripRec :=
                  some
                    { fromMode := .idle, entryCycle := 0
                      inputs := { pin := true, unitLine := false, unitStale := false, lines := 0 } }
                tripEntries := 1 }
            causes := u }

/-- The trip inputs, and two of the events that evaluate them (R132, R133). PIN is active while TRIP_IN is low; with a
TRIP_UNIT entry, UNIT_STALE while its record is STALE, and UNIT_LINE while it is FRESH with a line set that tripMask
enables, those lines being the active unit lines; without one neither is. A change of TRIP_IN, to low and to high, and
an arrival of the TRIP_UNIT record each evaluate them: with none active nothing changes further; in TRIPPED those
active are added to the trip record; in any other mode the line trips, with the trip record, the end of a stop under
way, TRIP_OUT, TRIP, every crusher stood down and every feeder at 0 (R45, R93, R134, R135). The other events are said
by CountedCycleWork, MarkerAcquiresLock, CommitApplied, WriteLine, LineStartStop, TripRelease, PowerOnReset and
WarmRestart. That TRIP_IN_CHANGE to the level it has does nothing is the model's choice (assumption log 3). -/
def Obligations.TripInputsEvaluated : Prop :=
  ∀ s : State,
    let a := tripInputs s
    a.pin = s.pins.tripInLow ∧
    ((∀ i : Fin 32, s.activeTable[i].used = true → s.activeTable[i].role? ≠ some .tripUnit) →
      a = { pin := s.pins.tripInLow, unitLine := false, unitStale := false, lines := 0 }) ∧
    (TableInv s → ∀ (i : Fin 32) (rec : Record), s.activeTable[i].used = true →
      s.activeTable[i].role? = some .tripUnit → s.store[i] = some rec →
      (rec.fresh = false → a = { pin := s.pins.tripInLow, unitLine := false, unitStale := true, lines := 0 }) ∧
      ∀ word : Byte, rec.fresh = true → rec.value = .tripWord (some word) →
        a =
          { pin := s.pins.tripInLow
            unitLine := decide (∃ n : Fin 8, word.getLsbD n.val = true ∧ s.params.tripMask.getLsbD n.val = true)
            unitStale := false
            lines := word &&& s.params.tripMask }) ∧
    (∀ low : Bool,
      (low = s.pins.tripInLow → exec (.tripInChange low) s = .next s) ∧
      (low ≠ s.pins.tripInLow →
        let changed : State := { s with pins := { s.pins with tripInLow := low } }
        ∃ t : State, exec (.tripInChange low) s = .next t ∧ TripTaken changed (tripInputs changed) t)) ∧
    TripTaken s a (deliverArrival { role := .tripUnit, increment := 0 } s)

/-! ### Cycle markers and line time (Chapter 2) -/

/-- An invalid marker advances invalidMarkers and raises LINE_ERROR, leaves the tracker otherwise as it was, and is
forwarded (R24); that LINE_ERROR is raised at a saturated counter too is the model's reading (assumption log 19). A
valid marker in SEARCH short of the threshold starts or continues the run, sets expected and period and starts
supervision afresh; cycleCount does not change (R25, R26). -/
def Obligations.MarkersShortOfLock : Prop :=
  (∀ (s : State) (dst src fn : Byte) (payload : List Byte), payload.length ≤ 40 → s.relay.fBound.length < 4 →
     (payload.length ≠ 2 ∨ ∃ n p, payload = [n, p] ∧ (p.toNat < 2 ∨ 250 < p.toNat)) →
     ∃ u, RaisedOnce s.params.causeMask .lineError s.causes u ∧
       exec (.cycleMarker dst src fn payload) s =
         .next
           ({ s.heard with
               tracker := { s.tracker with invalidMarkers := min 65535 (s.tracker.invalidMarkers + 1) }
               causes := u }.withForward (Telegram.make .cycle dst src fn payload))) ∧
  ∀ (s : State) (dst src fn n p : Byte), s.tracker.lockState = .search → s.relay.fBound.length < 4 →
    2 ≤ p.toNat → p.toNat ≤ 250 →
    let run := if s.tracker.expected = some n then s.tracker.runCount + 1 else 1
    run < s.params.lockThreshold →
    exec (.cycleMarker dst src fn [n, p]) s =
      .next
        ({ s.heard with
            tracker :=
              { s.tracker with
                runCount := run, expected := some (n + 1), period := some p.toNat
                supervision := some (3 * p.toNat) } }.withForward (Telegram.make .cycle dst src fn [n, p]))

/-- The acquiring marker: LOCKED with slipRun 0 and cycleCount unchanged, the LOCK pin asserted, every record STALE
with its value and arrival cycle kept and its counter baseline cleared, and a line in IDLE in READY, or in TRIPPED where
a trip unit is configured or the pin is low (R17, R20, R28, R128). Here no commit is pending. -/
def Obligations.MarkerAcquiresLock : Prop :=
  ∀ (s : State) (dst src fn n p : Byte), s.tracker.lockState = .search → s.line.lineMode = .idle →
    s.handler.pendingStation = false → s.handler.pendingCurve = false → 2 ≤ p.toNat → p.toNat ≤ 250 →
    let run := if s.tracker.expected = some n then s.tracker.runCount + 1 else 1
    s.params.lockThreshold ≤ run →
    ∃ t : State, exec (.cycleMarker dst src fn [n, p]) s = .next t ∧
      t.tracker =
        { s.tracker with
          lockState := .locked, runCount := run, expected := some (n + 1), period := some p.toNat
          supervision := some (3 * p.toNat), slipRun := 0 } ∧
      t.pins.lock = true ∧
      (∀ i : Fin 32, t.store[i] = (s.store[i]).map Record.lapsed) ∧
      t.line.lineMode =
        (if s.pins.tripInLow = true ∨ hasRole s.activeTable .tripUnit = true then .tripped else .ready)

/-- A valid marker in LOCKED counts a cycle: in sequence it ends the run of slips, out of sequence it is a slip
that the tracker follows (R29, R30). At the fourth slip in a row lock ends after the cycle: SEARCH, the LOCK pin
deasserted, the line in IDLE or TRIPPED, every feeder at 0 and no crusher in RUN, MOVE, RECOVER or RELIEF (R30,
R32); and the end is that of an expiry of supervision (R31). The cycle's users each do their work once, in an order that
R34 leaves open (assumption log 7), on the state with the marker taken, whole blocks one after another; the work of each
is said by CountedCycleWork, OrderlyStop and CommitApplied. The marker is then forwarded, or dropped at a full F-bound
queue, counted in overrunsF and reported by LINE_ERROR (R151, R153, R156), at a saturated counter too by the model's
reading (assumption log 19). -/
def Obligations.MarkerInLock : Prop :=
  ∀ (s : State) (dst src fn n p : Byte), s.tracker.lockState = .locked → 2 ≤ p.toNat → p.toNat ≤ 250 →
    let slip := s.tracker.expected ≠ some n
    let marked : State :=
      { s.heard with
        tracker :=
          { s.tracker with
            cycleCount := s.tracker.cycleCount + 1, expected := some (n + 1), period := some p.toNat
            supervision := some (3 * p.toNat), slipRun := if slip then s.tracker.slipRun + 1 else 0
            slips := if slip then min 65535 (s.tracker.slips + 1) else s.tracker.slips }
        freeCount := s.freeCount + 1 }
    (∃ (order : List CycleUser) (v u : State),
      order.Perm [.store, .crushers, .confirm, .line, .handler] ∧ v = order.foldl (fun w x => cycleWork x w) marked ∧
      (if slip ∧ 3 ≤ s.tracker.slipRun then exec .supervisionExpiry v = .next u else u = v) ∧
      (s.relay.fBound.length < 4 →
        exec (.cycleMarker dst src fn [n, p]) s = .next (u.withForward (Telegram.make .cycle dst src fn [n, p]))) ∧
      (4 ≤ s.relay.fBound.length →
        ∃ c, RaisedOnce u.params.causeMask .lineError u.causes c ∧
          exec (.cycleMarker dst src fn [n, p]) s =
            .next
              { u with relay := { s.relay with overrunsF := min 65535 (s.relay.overrunsF + 1) }, causes := c })) ∧
    ∃ t : State, exec (.cycleMarker dst src fn [n, p]) s = .next t ∧
      t.tracker.cycleCount = s.tracker.cycleCount + 1 ∧ t.tracker.period = some p.toNat ∧
      t.tracker.slips = (if slip then min 65535 (s.tracker.slips + 1) else s.tracker.slips) ∧
      t.tracker.invalidMarkers = s.tracker.invalidMarkers ∧
      ((slip → s.tracker.slipRun < 3) →
        t.tracker =
          { s.tracker with
            cycleCount := s.tracker.cycleCount + 1, expected := some (n + 1), period := some p.toNat
            supervision := some (3 * p.toNat), slipRun := if slip then s.tracker.slipRun + 1 else 0
            slips := if slip then min 65535 (s.tracker.slips + 1) else s.tracker.slips }) ∧
      ((slip ∧ 3 ≤ s.tracker.slipRun) →
        t.tracker.lockState = .search ∧ t.tracker.runCount = 0 ∧ t.tracker.slipRun = 0 ∧ t.tracker.expected = none ∧
        t.tracker.supervision = none ∧ t.tracker.lockLosses = min 65535 (s.tracker.lockLosses + 1) ∧
        t.pins.lock = false ∧ t.line.lineMode.needsLock = false ∧ (∀ j, (t.feeder j).output = 0) ∧
        ∀ k, (t.crusher k).state.isEnabled = false)

/-- The work of the store, the crusher contexts and the confirm supervision at a counted cycle. The store makes each
FRESH record STALE whose age exceeds its freshLimit, raising STALE_INPUT once for each; its feeder computes at a stale
POWER, and a stale trip unit trips the line, with every crusher stood down (R19, R45, R82, R133). Each crusher's
settleCount falls by one (R51); its move's elapsed count advances, and at moveTimeout a waiting move is given up and
an issued one ends in FAULT, each with MOVE_FAILED (R57); a crusher in RECOVER without governed regulation enters RUN
at settleCount 0 (R72). While supervision is active a confirm that does not match advances mismatchCount, and sets
mismatch with DIVERTER_MISMATCH at divertConfirm; a match, and a cycle without supervision, end both (R118, R119). The
order in which the owners of one cycle's stale records are told is free (assumption log 7). -/
def Obligations.CountedCycleWork : Prop :=
  ∀ s : State, CauseInv s → TableInv s →
    (let out (i : Fin 32) : Bool :=
        (s.store[i]).any fun rec =>
          rec.fresh &&
            rec.arrival.any fun a => decide (s.activeTable[i].freshLimit.toNat < (s.tracker.cycleCount - a).toNat)
     let stale := (List.finRange 32).filter out
     let staleRole (r : Role) : Bool := stale.any fun i => s.activeTable[i].holds r
     let t := cycleWork .store s
     let aged : State := { s with store := t.store }
     (∀ i : Fin 32, t.store[i] = if out i then (s.store[i]).map fun rec => { rec with fresh := false } else s.store[i]) ∧
     (stale = [] → t.causes = s.causes) ∧
     (stale ≠ [] →
       t.causes.entry .staleInput =
         { pending := true
           count :=
             min 255
               ((if (s.causes.entry .staleInput).pending then (s.causes.entry .staleInput).count else 0) +
                 stale.length) }) ∧
     (∀ x, x ≠ .staleInput → x ≠ .configGap → x ≠ .trip → t.causes.entry x = s.causes.entry x) ∧
     (staleRole .tripUnit = false →
       t =
           { s with
             store := t.store, feeders := t.feeders, causes := t.causes, freeCount := s.freeCount + 1 } ∧
         ∀ j, t.feeder j = if staleRole (.power j) then (computeFeeder j aged).feeder j else s.feeder j) ∧
     (staleRole .tripUnit = true →
       t.line.lineMode = .tripped ∧ (LineInv s → t.line.tripRec.any (fun r => r.inputs.unitStale) = true) ∧
         (s.line.lineMode ≠ .tripped →
           (∀ j, (t.feeder j).output = 0) ∧ ∀ k, t.crusher k = (s.crusher k).stoodDown (governed s.activeTable k)))) ∧
    (let t := cycleWork .crushers s
     let expires (k : Fin 4) : Bool :=
        (s.crusher k).moveRec.any fun m => decide ((s.crusher k).params.moveTimeout ≤ min 65535 (m.elapsed + 1))
     let flying (k : Fin 4) : Bool := (s.crusher k).moveRec.any fun m => decide (m.phase ≠ .waiting)
     let faults (k : Fin 4) : Bool := expires k && flying k
     (∀ k,
       let c := s.crusher k
       let settled : Crusher := { c with settleCount := c.settleCount - 1 }
       t.crusher k =
         if faults k then
           { settled with moveRec := none, state := .fault, command := { kind := .stop, seq := c.moveSeq, step := 0 } }
         else if expires k then
           { c with
             moveRec := none, settleCount := c.params.settleCycles
             state := if c.state = .move then .run else c.state }
         else if c.moveRec.isSome then
           { settled with moveRec := c.moveRec.map fun (m : Move) => { m with elapsed := min 65535 (m.elapsed + 1) } }
         else if c.state = .recover ∧ s.governed k = false ∧ c.settleCount ≤ 1 then
           { settled with state := .run, reliefRec := none }
         else settled) ∧
     (∀ k,
       t.feeder k =
         if faults k = true ∧ (s.crusher k).state.isRun = true then
           { s.feeder k with output := 0, driveValue := driveValueOf s.activeTable k 0 }
         else s.feeder k) ∧
     t = { s with crushers := t.crushers, feeders := t.feeders, causes := t.causes } ∧
     RaisedEach s.params.causeMask
       (fun x =>
         match x with
         | .moveFailed => ((List.finRange 4).filter expires).length
         | .crusherFault => ((List.finRange 4).filter fun k => faults k && decide ((s.crusher k).state ≠ .fault)).length
         | _ => 0)
       s.causes t.causes) ∧
    let t := cycleWork .confirm s
    let ended : Prop :=
      t = { s with lots := { s.lots with mismatchCount := 0, mismatch := false }, causes := t.causes } ∧
        (∀ x, x ≠ .diverterMismatch → t.causes.entry x = s.causes.entry x) ∧
        t.causes.entry .diverterMismatch = { pending := false, count := 0 } ∧
        t.causes.attention = s.causes.attention ∧ t.causes.sequence = s.causes.sequence ∧
        t.causes.rollMisses = s.causes.rollMisses
    ((∀ i : Fin 32, s.activeTable[i].used = true → s.activeTable[i].role? ≠ some .diverter) → ended) ∧
    ∀ (i : Fin 32) (rec : Option Record), s.activeTable[i].used = true → s.activeTable[i].role? = some .diverter →
      rec = s.store[i] →
      let mode := s.activeTable[i].mode?
      let confirms (d : Divert) : Bool := rec.any fun x => x.fresh && decide (x.value = .confirm (some d))
      let matched : Bool := confirms s.lots.divertCommand || (decide (mode = some .clamp) && confirms .reject)
      if (mode = some .govern ∨ mode = some .clamp) ∧ s.handler.dryRun = false ∧ matched = false then
        let count := min 255 (s.lots.mismatchCount + 1)
        let found := decide (s.params.divertConfirm ≤ count)
        t =
            { s with
              lots := { s.lots with mismatchCount := count, mismatch := s.lots.mismatch || found }
              causes := t.causes } ∧
          if found = true ∧ s.lots.mismatch = false then
            RaisedOnce s.params.causeMask .diverterMismatch s.causes t.causes
          else t.causes = s.causes
      else ended

/-- What the request handler does at a counted cycle: it applies each pending commit, in an order left open (R184,
assumption log 7). A station commit copies the staged bank, keeps the record of an identical old entry and makes every
other record anew, STALE and without value (R13), computes every drive value anew (R81), trips the line at a new trip
unit, and lets each crusher take its presence and its governance (R41, R42, R75); a curve commit brings the counted
points of every staged curve into force (R98). TABLE_COMMITTED is raised for each. Both staged banks are kept. -/
def Obligations.CommitApplied : Prop :=
  ∀ s : State, TableInv s → CauseInv s →
    let t := cycleWork .handler s
    let station := s.handler.pendingStation
    let curve := s.handler.pendingCurve
    let old := s.activeTable
    let new := s.stagedTable
    let fresh (i : Fin 32) : Bool := new[i].used && (List.finRange 32).all fun j => decide (old[j] ≠ new[i])
    let made (r : Role) : Bool := (List.finRange 32).any fun i => fresh i && new[i].holds r
    (station = false → curve = false → t = { s with freeCount := s.freeCount + 1 }) ∧
    t.handler = { s.handler with pendingStation := false, pendingCurve := false } ∧
    t.stagedTable = s.stagedTable ∧ t.stagedCurves = s.stagedCurves ∧
    (station = true ∨ curve = true →
      t.causes.entry .tableCommitted =
        { pending := true
          count :=
            min 255
              ((if (s.causes.entry .tableCommitted).pending then (s.causes.entry .tableCommitted).count else 0) +
                if station && curve then 2 else 1) }) ∧
    (if curve then
      ∀ x : Fin 8, t.activeCurves[x].length = s.stagedCurves[x][0].toNat ∧
        ∀ (q : Nat) (a b : Word), q < s.stagedCurves[x][0].toNat → s.stagedCurves[x][1 + 2 * q]? = some a →
          s.stagedCurves[x][2 + 2 * q]? = some b → t.activeCurves[x][q]? = some { x := a.toNat, y := b.toNat }
    else t.activeCurves = s.activeCurves) ∧
    (station = false →
      t =
        { s with
          activeCurves := t.activeCurves, handler := t.handler, causes := t.causes, freeCount := s.freeCount + 1 } ∧
        (curve = true → RaisedOnce s.params.causeMask .tableCommitted s.causes t.causes)) ∧
    (station = true →
      t.activeTable = new ∧
      (∀ i : Fin 32,
        (new[i].used = false → t.store[i] = none) ∧
        (∀ j : Fin 32, new[i].used = true → old[j] = new[i] → t.store[i] = s.store[j]) ∧
        ∀ r, fresh i = true → new[i].role? = some r →
          t.store[i] =
            some
              { fresh := false
                arrival := none
                value :=
                  match r with
                  | .feederTotal _ | .beltScale | .beltTravel | .metal => .counter none false
                  | .actuator _ => .actuator none
                  | .feederDrive _ => .nothing
                  | .diverter => .confirm none
                  | .tripUnit => .tripWord none
                  | _ => .scalar none }) ∧
      (∀ j, (t.feeder j).driveValue = driveValueOf new j (t.feeder j).output) ∧
      (made .tripUnit = true → t.line.lineMode = .tripped) ∧
      (made .tripUnit = false →
        t =
            { s with
              activeTable := new, store := t.store, activeCurves := t.activeCurves, crushers := t.crushers
              feeders := t.feeders, handler := t.handler, causes := t.causes, freeCount := t.freeCount } ∧
          (∀ x, x ≠ .tableCommitted → x ≠ .configGap → x ≠ .crusherFault → t.causes.entry x = s.causes.entry x) ∧
          ∀ k,
            let c := s.crusher k
            let hold : Command := { kind := .hold, seq := c.moveSeq, step := 0 }
            let stop : Command := { kind := .stop, seq := c.moveSeq, step := 0 }
            let back := if c.state = .move then CrusherState.run else c.state
            let governance : Crusher :=
              if governed old k = true ∧ governed new k = false then
                { c with moveRec := none, command := hold, state := back }
              else if governed new k && (made (.gap k) || made (.actuator k)) && c.moveRec.isSome then
                { c with moveRec := none, command := stop, state := back }
              else c
            t.crusher k =
                (if present new k = false then
                  if c.state = .absent then c
                  else
                    { c with
                      state := .absent, reliefRec := none, settleCount := 0, moveRec := none
                      command := if c.moveRec.isSome then stop else c.command }
                else if c.state = .absent then
                  { c with
                    state := .standby, settleCount := 0, targetSettled := false
                    command := if governed new k then c.command else hold }
                else if hasRole new (.pressure k) || hasRole new (.actuator k) then governance
                else if governance.state = .relief then
                  { governance with reliefRec := none, state := .standby, settleCount := 0 }
                else if governance.state = .standby ∨ governance.state = .fault then { governance with reliefRec := none }
                else governance) ∧
              (made (.power k) = false →
                t.feeder k =
                  if c.state.isRun = true ∧ (t.crusher k).state.isRun = false then
                    { s.feeder k with output := 0, driveValue := driveValueOf new k 0 }
                  else { s.feeder k with driveValue := driveValueOf new k (s.feeder k).output })))

/-- An expiry in SEARCH ends the run, and with the timer stopped none occurs (R25, R27; that SUPERVISION_EXPIRY then
does nothing is assumption log 3, and that it expires a running timer whatever time is left is assumption log 31). An
expiry in LOCKED ends lock: the tracker's state, the LOCK pin, LOCK_LOST, the line in IDLE unless TRIPPED with a stop
ended by LOCK_LOST, every feeder at 0 with its drive value, and every crusher stood down, its move aborted and its
command by R45 (R31, R32, R45, R93, R137). Where a reply waits with an onset sample, that sample may come together
with the loss: then, for each such crusher now in STANDBY, the relief record is created or reopened with RELIEF
raised, or an open one takes a breaking sample, and nothing else changes (R67, R68, R76). Which replies can come
together with a loss, and that whether one does is a free value, is the model's choice (assumption log 33); with no
such reply the loss is all. -/
def Obligations.SupervisionExpires : Prop :=
  (∀ s : State, s.tracker.lockState = .search ∨ s.tracker.supervision = none →
    exec .supervisionExpiry s =
      .next
        (if s.tracker.supervision.isSome then
          { s with tracker := { s.tracker with runCount := 0, expected := none, supervision := none } }
        else s)) ∧
  ∀ s : State, s.tracker.lockState = .locked → s.tracker.supervision.isSome = true → LineInv s → CauseInv s →
    ∃ (t : State) (u : CauseUnit),
      RaisedOnce s.params.causeMask .lockLost s.causes u ∧
      t =
        { s with
          tracker :=
            { s.tracker with
              lockState := .search, runCount := 0, slipRun := 0, expected := none, supervision := none
              lockLosses := min 65535 (s.tracker.lockLosses + 1) }
          pins := { s.pins with lock := false }
          line :=
            if s.line.lineMode = .tripped then s.line
            else
              { s.line with
                lineMode := .idle, stopRec := none
                lastStopEnd := if s.line.stopRec.isSome then .lockLost else s.line.lastStopEnd }
          crushers := t.crushers
          feeders := t.feeders
          causes := u } ∧
      Halted s t ∧
      ((∀ src payload, ¬s.replyWaits src payload) → exec .supervisionExpiry s = .next t) ∧
      (StoreInv s → TableInv s →
        ((∀ k, ¬s.onsetWaits k) → exec .supervisionExpiry s = .next t) ∧
        ((∃ k, s.onsetWaits k) →
          let drawn : State := { t with freeCount := s.freeCount + 1 }
          let isOpen (k : Fin 4) : Bool := ((t.crusher k).reliefRec).any fun r => decide (r.phase = .opened)
          ∃ (takes : Fin 4 → Bool) (v : State),
            (∀ k, takes k = true ↔ s.onsetWaits k ∧ (t.crusher k).state = .standby) ∧
            v = { drawn with crushers := v.crushers, causes := v.causes } ∧
            (∀ k,
              let c := t.crusher k
              v.crusher k =
                if takes k then
                  { c with
                    reliefRec :=
                      if isOpen k then c.reliefRec.map fun (r : Relief) => { r with clearRun := 0 }
                      else
                        some
                          { phase := .opened
                            reliefCount := c.reliefRec.elim 1 fun r => min 255 (r.reliefCount + 1)
                            clearRun := 0
                            onsetCycle := s.tracker.cycleCount } }
                else c) ∧
            RaisedEach s.params.causeMask
              (fun x => if x = .relief then ((List.finRange 4).filter fun k => takes k && !isOpen k).length else 0)
              t.causes v.causes ∧
            (exec .supervisionExpiry s = .next drawn ∨ exec .supervisionExpiry s = .next v)))

/-! ### Replies from the field (Chapter 1) -/

/-- A REPLY that port F delivers is observed and then forwarded, whatever its destination (R15, R154). In SEARCH
nothing is stored; that this holds of a trip word after a lock loss too, against R142, is the model's reading
(assumption log 32), and what an onset sample does that comes together with the loss is said by SupervisionExpires.
While LOCKED every field of its source that fits is stored, FRESH with the current cycle, scaled or decoded by its
role; a field that does not fit, or that decodes to nothing, leaves its record and is counted; records of other
stations are left (R5, R6, R15, R16, R17). Then the arrivals are handed over in the order of Table 1-6, one for each
field stored of a role that has a receiver, a counter's with its increment against the baseline held before (R17,
R18); what each does is said by TripInputsEvaluated, GapMoves, ReliefSamples, BeltArrivals, LotWalk and
FeederComputation. The reply reaches no table, parameter, queue F-bound or tracker. A roll-call reply has the part's
bit set on its way, or is counted in rollMisses when short (R192). The telegram joins the M-bound queue, or is dropped
as an overrun (R151, R156); that LINE_ERROR is raised at a saturated counter too is the model's reading (assumption
log 19). -/
def Obligations.FieldReplyObserved : Prop :=
  ∀ (s : State) (dst src fn : Byte) (payload : List Byte), payload.length ≤ 40 →
    let heard : State := { s with portF := { s.portF with rx := .idle } }
    let reply := exec (.fieldReply dst src fn payload) s
    let now := s.tracker.cycleCount
    let read := s.readField src payload
    let value (i : Fin 32) : Option Value :=
      (read i).bind fun x => x.2.bind fun bytes => storedValue s.activeTable[i] x.1 bytes
    let joins (u : State) (x : Telegram) : Prop :=
      (u.relay.mBound.length < 4 → reply = .next (u.withReply x)) ∧
      (4 ≤ u.relay.mBound.length →
        ∃ c, RaisedOnce u.params.causeMask .lineError u.causes c ∧
          reply =
            .next
              { u with relay := { u.relay with overrunsM := min 65535 (u.relay.overrunsM + 1) }, causes := c })
    ∃ u : State,
      (s.tracker.lockState = .search → u = heard) ∧
      (s.tracker.lockState = .locked → StoreInv s → TableInv s →
        ∃ (v : State) (arrivals : List Arrival),
          v =
            { heard with
              store := v.store
              shortFields :=
                min 65535 (s.shortFields + (indices.filter fun i => (read i).any fun x => x.2.isNone).length)
              badFields :=
                min 65535
                  (s.badFields +
                    (indices.filter fun i => ((read i).any fun x => x.2.isSome) && (value i).isNone).length) } ∧
          (∀ i : Fin 32,
            v.store[i] =
              match value i with
              | some x => some { fresh := true, arrival := some now, value := x }
              | none => s.store[i]) ∧
          (∀ (i : Fin 32) (r : Role), s.activeTable[i].used = true → s.activeTable[i].role? = some r →
            v.recordOf r = v.store[i]) ∧
          (arrivals.Pairwise fun a b => a.role.row.getD 0 ≤ b.role.row.getD 0) ∧ (arrivals.map Arrival.role).Nodup ∧
          (∀ a, a ∈ arrivals ↔ a.role.row.isSome = true ∧
            ∃ (i : Fin 32) (old : Record) (bytes : List Byte) (x : Value), s.store[i] = some old ∧
              read i = some (a.role, some bytes) ∧ value i = some x ∧
              storedIncrement old.value x (if a.role = .metal then 256 else 65536) = some a.increment) ∧
          u = arrivals.foldl (fun w a => deliverArrival a w) v ∧
          u =
            { v with
              pins := { s.pins with tripOut := u.pins.tripOut }
              crushers := u.crushers
              feeders := u.feeders
              lots := u.lots
              line := u.line
              causes := u.causes } ∧
          (∀ k, (u.crusher k).params = (s.crusher k).params ∧ (u.crusher k).cssTarget = (s.crusher k).cssTarget) ∧
          ∀ j, ((u.feeder j).slewUp, (u.feeder j).slewDown, (u.feeder j).minRun, (u.feeder j).staleCap) =
            ((s.feeder j).slewUp, (s.feeder j).slewDown, (s.feeder j).minRun, (s.feeder j).staleCap)) ∧
      (fn ≠ 0x15 → joins u (Telegram.make .reply dst src fn payload)) ∧
      (fn = 0x15 → payload.length < 3 →
        joins { u with causes := { u.causes with rollMisses := min 65535 (u.causes.rollMisses + 1) } }
          (Telegram.make .reply dst src fn payload)) ∧
      ∀ (a hi lo : Byte) (rest : List Byte), fn = 0x15 → payload = a :: hi :: lo :: rest →
        (∀ n, u.params.rollBit = some n → u.causes.attention = u.params.rollSense →
          (hi ++ lo : Word).getLsbD n.val = false →
          ∃ hi' lo' : Byte,
            (∀ m : Nat, m < 16 →
              ((hi' ++ lo' : Word).getLsbD m = true ↔ (hi ++ lo : Word).getLsbD m = true ∨ m = n.val)) ∧
            joins u (Telegram.make .reply dst src fn (a :: hi' :: lo' :: rest))) ∧
        ((u.params.rollBit = none ∨ u.causes.attention ≠ u.params.rollSense ∨
            ∃ n, u.params.rollBit = some n ∧ (hi ++ lo : Word).getLsbD n.val = true) →
          joins u (Telegram.make .reply dst src fn payload))

/-! ### Forwarding (Chapter 8) -/

/-- What port M forwards without acting on it: a REPLY, and a REQUEST or STREAM telegram to another station, a STREAM
telegram to address 0 among them. It joins the F-bound queue; a fifth telegram is dropped and counted as an overrun
with LINE_ERROR (R151, R153, R156). What port F does with a REQUEST, CYCLE or STREAM telegram: a REQUEST to the own or
the group address is dropped and counted as misdirected; every other is forwarded to the M-bound queue, or dropped as
an overrun (R154, R156). That LINE_ERROR is raised at a saturated overrun or misdirected counter too is the model's
reading (assumption log 19). -/
def Obligations.PortsForward : Prop :=
  (∀ (s : State) (kind : Kind) (dst src fn : Byte) (payload : List Byte), payload.length ≤ 40 →
     kind = .reply ∨
       ((kind = .request ∧ dst ≠ 0 ∨ kind = .stream) ∧ s.ownAddress ≠ some dst ∧ s.params.groupAddress ≠ some dst) →
     (s.relay.fBound.length < 4 →
       exec (.mTelegramForward kind dst src fn payload) s =
         .next (s.heard.withForward (Telegram.make kind dst src fn payload))) ∧
     (4 ≤ s.relay.fBound.length →
       ∃ u, RaisedOnce s.params.causeMask .lineError s.causes u ∧
         exec (.mTelegramForward kind dst src fn payload) s =
           .next
             { s.heard with
               relay := { s.relay with overrunsF := min 65535 (s.relay.overrunsF + 1) }
               causes := u })) ∧
  ∀ (s : State) (kind : Kind) (dst src fn : Byte) (payload : List Byte), payload.length ≤ 40 → kind ≠ .reply →
    let u0 := setRx .f .idle s
    ∃ u, RaisedOnce s.params.causeMask .lineError s.causes u ∧
      exec (.fTelegramForward kind dst src fn payload) s =
        .next
          (if kind = .request ∧ (s.ownAddress = some dst ∨ s.params.groupAddress = some dst) then
            { u0 with relay := { s.relay with misdirected := min 65535 (s.relay.misdirected + 1) }, causes := u }
          else if s.relay.mBound.length < 4 then u0.withReply (Telegram.make kind dst src fn payload)
          else { u0 with relay := { s.relay with overrunsM := min 65535 (s.relay.overrunsM + 1) }, causes := u })

/-- Every request to another station is forwarded and changes nothing but the queue (R153). So are STATUS_POLL,
READ_CAUSES and READ_RECORD to address 0 and to the group address, the latter ending an open session all the same
(R173, R182). -/
def Obligations.RequestsNotTaken : Prop :=
  ∀ (s : State) (dst src : Byte) (payload : List Byte), payload.length ≤ 40 → s.relay.fBound.length < 4 →
    s.ownAddress ≠ some dst →
    (dst ≠ 0 → s.params.groupAddress ≠ some dst → ∀ row ∈ requestRows,
      exec (row.2 dst src payload) s =
        .next (s.heard.withForward (Telegram.make .request dst src row.1 payload))) ∧
    ∀ row ∈ readingRows,
      (dst = 0 →
        exec (row.2 dst src payload) s =
          .next (s.heard.withForward (Telegram.make .request dst src row.1 payload))) ∧
      (dst ≠ 0 → s.params.groupAddress = some dst →
        exec (row.2 dst src payload) s =
          .next (s.asked.withForward (Telegram.make .request dst src row.1 payload)))

/-- What a request does, it does without its reply. The same request to address 0 or the group address is acted on in
the same way, built no reply and forwarded (R153, R173): with no session open and room in both queues, the two next
states differ in the relay's queues alone. And a reply that finds four telegrams in the M-bound queue is dropped,
counted in replyDrops and reported by LINE_ERROR, the request acted on as with room and the queue kept (R151, R155,
R156); that LINE_ERROR is raised at a saturated counter too is the model's reading (assumption log 19). -/
def Obligations.RequestsActWithoutReply : Prop :=
  (∀ (s : State) (own dst src : Byte) (payload : List Byte), Consumes s own payload → s.relay.fBound.length < 4 →
    s.handler.session = none → dst ≠ own → (dst = 0 ∨ s.params.groupAddress = some dst) → ∀ row ∈ takenRows,
      ∃ (t u : State) (reply : Telegram), exec (row.2 own src payload) s = .next t ∧
        exec (row.2 dst src payload) s = .next u ∧
        t.relay.mBound = s.relay.mBound ++ [reply] ∧ reply.kind = .reply ∧ reply.dst = 127 ∧ reply.src = own ∧
        reply.fn = row.1 ∧ reply.sound = true ∧ t.relay.fBound = s.relay.fBound ∧
        u.relay.mBound = s.relay.mBound ∧
        u.relay.fBound = s.relay.fBound ++ [Telegram.make .request dst src row.1 payload] ∧
        t = { u with relay := { u.relay with fBound := t.relay.fBound, mBound := t.relay.mBound } }) ∧
  ∀ (s : State) (own src fn : Byte) (payload : List Byte) (i : Instr), s.ownAddress = some own → payload.length ≤ 40 →
    4 ≤ s.relay.mBound.length →
    (i = .unknownFunction own src fn payload ∨ ∃ row ∈ requestRows, i = row.2 own src payload) →
    let roomy : State := { s with relay := { s.relay with mBound := [] } }
    ∃ (t : State) (u : CauseUnit), exec i roomy = .next t ∧ t.relay.mBound.length = 1 ∧
      RaisedOnce t.params.causeMask .lineError t.causes u ∧
      exec i s =
        .next
          { t with
            relay :=
              { t.relay with mBound := s.relay.mBound, replyDrops := min 65535 (t.relay.replyDrops + 1) }
            causes := u }

/-! ### Polling and reading (Chapters 10 and 11) -/

/-- STATUS_POLL replies DONE with the code of the highest-priority pending cause or 0, attention, lineMode,
lockState, the crusher states, the dry-run flag and the sequence number; attention is then clear, and nothing else
changes; to address 0 and the group address it is forwarded and not taken (R188). -/
def Obligations.StatusPoll : Prop :=
  ∀ (s : State) (own src : Byte) (payload : List Byte), Consumes s own payload →
    ∃ top : Byte,
      exec (.statusPoll own src payload) s =
        .next
          ({ s.asked with causes := { s.causes with attention := false } }.answer own 0x01 .done
            [top, if s.causes.attention then 1 else 0, s.line.lineMode.code, s.tracker.lockState.code,
              (s.crusher 0).state.code, (s.crusher 1).state.code, (s.crusher 2).state.code, (s.crusher 3).state.code,
              if s.handler.dryRun then 1 else 0, s.causes.sequence]) ∧
      (top = 0 ↔ ∀ x, (s.causes.entry x).pending = false) ∧
      (∀ x, (s.causes.entry x).pending = true → top.toNat ≤ x.code.toNat) ∧
      (top ≠ 0 → ∃ x, (s.causes.entry x).pending = true ∧ top = x.code) ∧
      (s.relay.fBound.length < 4 →
        exec (.statusPoll 0 src payload) s =
            .next (s.heard.withForward (Telegram.make .request 0 src 0x01 payload)) ∧
        ∀ group : Byte, group ≠ 0 → group ≠ own → s.params.groupAddress = some group →
          exec (.statusPoll group src payload) s =
            .next (s.asked.withForward (Telegram.make .request group src 0x01 payload)))

/-- READ_CAUSES replies DONE with the sequence number, the number of pending causes and, in priority order, the
code and count of each, in at most 30 bytes; every edge cause then ceases to be pending, and level causes,
attention and the sequence number stay. A reply dropped at a full M-bound queue has cleared the edge causes all the
same; the drop is counted in replyDrops and then raises LINE_ERROR anew (R151, R155, R156, R189), at a saturated
counter too by the model's reading (assumption log 19). -/
def Obligations.ReadCauses : Prop :=
  ∀ (s : State) (own src : Byte) (payload : List Byte), s.ownAddress = some own → payload.length ≤ 40 →
    ∃ (u : CauseUnit) (pending : List Cause),
      let data : List Byte :=
        [s.causes.sequence, BitVec.ofNat 8 pending.length] ++
          pending.flatMap fun (x : Cause) => [x.code, BitVec.ofNat 8 (s.causes.entry x).count]
      (s.relay.mBound.length < 4 →
        exec (.readCauses own src payload) s = .next ({ s.asked with causes := u }.answer own 0x02 .done data)) ∧
      (4 ≤ s.relay.mBound.length →
        ∃ v, RaisedOnce s.params.causeMask .lineError u v ∧
          exec (.readCauses own src payload) s =
            .next
              { s.asked with
                relay := { s.relay with replyDrops := min 65535 (s.relay.replyDrops + 1) }
                causes := v }) ∧
      data.length ≤ 30 ∧ pending.length ≤ 14 ∧ (∀ x, x ∈ pending ↔ (s.causes.entry x).pending = true) ∧
      (pending.Pairwise fun x y => x.code.toNat < y.code.toNat) ∧
      u.attention = s.causes.attention ∧ u.sequence = s.causes.sequence ∧ u.rollMisses = s.causes.rollMisses ∧
      ∀ x, u.entry x = if x.isLevel then s.causes.entry x else { pending := false, count := 0 }

/-- READ_RECORD of a record and a page it has replies DONE with kind, index, page, the number of pages, the cycle
count and the page's bytes, at most 31; an absent record or page, or short arguments, is refused with BAD_ARG; the
pages of a record together are its bytes; and nothing but the end of the session changes (R172, R179). That these
refusals carry no data is the model's reading (assumption log 14). Which kind, index and qualifier have a record is
said by Table 10-3, its kinds coded by their position; that ACTIVE is 0 and STAGED is 1 is the model's reading
(assumption log 17). The bytes of each record are said by RecordBytes. -/
def Obligations.ReadRecord : Prop :=
  (∀ (s : State) (kind index qualifier : Nat),
    (recordBytes s kind index qualifier).isSome = true ↔
      (kind = 0 ∧ index < 4) ∨ (kind = 1 ∧ index < 4) ∨ (kind = 2 ∧ index < 64) ∨
      (kind = 3 ∧ index < 64 ∧ 1 ≤ qualifier ∧ qualifier ≤ 4) ∨ kind = 4 ∨ (kind = 5 ∧ index < 32) ∨
      (kind = 6 ∧ index < 32 ∧ qualifier ≤ 1) ∨ (kind = 7 ∧ index < 8 ∧ qualifier ≤ 1) ∨ kind = 8 ∨ kind = 9) ∧
  ∀ (s : State) (own src kind index qualifier page : Byte) (rest : List Byte),
    Consumes s own (kind :: index :: qualifier :: page :: rest) →
    (∀ bytes, recordBytes s.asked kind.toNat index.toNat qualifier.toNat = some bytes →
      let pages := max 1 ((bytes.length + 30) / 31)
      let slice (n : Nat) : List Byte := (bytes.drop (31 * n)).take 31
      (List.range pages).flatMap slice = bytes ∧
      exec (.readRecord own src (kind :: index :: qualifier :: page :: rest)) s =
        .next
          (if page.toNat < pages then
            s.asked.answer own 0x03 .done
              ([kind, index, page, BitVec.ofNat 8 pages] ++ beBytes 4 s.tracker.cycleCount.toNat ++ slice page.toNat)
          else s.asked.answer own 0x03 .badArg [])) ∧
    (recordBytes s.asked kind.toNat index.toNat qualifier.toNat = none →
      exec (.readRecord own src (kind :: index :: qualifier :: page :: rest)) s =
        .next (s.asked.answer own 0x03 .badArg [])) ∧
    ∀ short : List Byte, short.length < 4 →
      exec (.readRecord own src short) s = .next (s.asked.answer own 0x03 .badArg [])

/-- The bytes of every record, field by field in the order of the rule or table that gives it (R22, R35, R62, R77,
R99, R125, R143, R156, R170, R179, R185, R192, R193): each number in the fewest bytes that hold its range, a choice by
its position, a flag as 0 or 1, an optional field behind a presence byte. By the model's reading, a lot row marked
empty is 0 alone and any other 1 and its fields, an observed value of an unused index 0 alone and any other 1 and its
fields, FRESH is 0 and STALE 1, ACTIVE 0 and STAGED 1, and a role and a mode are their bytes of the station table
(assumption log 17); a counter's value is sent once, as lastRaw and the baseline flag (assumption log 18); and an
unused station entry is returned as held (assumption log 30). -/
def Obligations.RecordBytes : Prop :=
  ∀ (s : State) (q : Nat),
    let flag (b : Bool) : List Byte := [if b then 1 else 0]
    let two (n : Nat) : List Byte := beBytes 2 n
    let signed (z : Int) : List Byte := two (z % 65536).toNat
    let opt (n : Nat) (x : Option Nat) : List Byte := x.elim [0] fun v => 1 :: beBytes n v
    let optByte (x : Option Byte) : List Byte := x.elim [0] fun b => [1, b]
    let optSigned (x : Option Int) : List Byte := x.elim [0] fun z => 1 :: signed z
    let long (v : Long) : List Byte := beBytes 4 v.toNat
    let optLong (x : Option Long) : List Byte := x.elim [0] fun v => 1 :: long v
    let id (n : Option Nat) : List Byte := [n.elim 0xFF fun v => BitVec.ofNat 8 v]
    (∀ k : Fin 4, let c := s.crusher k
      recordBytes s 0 k.val q =
        some
          ([c.state.code] ++ two c.cssTarget ++ flag c.targetSettled ++ beBytes 1 c.settleCount ++ two c.wear ++
            flag c.closeBlocked ++ flag (decide c.isDue) ++ [c.moveSeq] ++
            [c.command.kind.position, c.command.seq] ++ signed c.command.step ++
            (c.moveRec.elim [0] fun m =>
              1 :: (optByte m.seq ++ optSigned m.step ++ [m.cause.code, m.phase.code] ++ two m.elapsed)) ++
            (c.reliefRec.elim [0] fun r =>
              1 :: ([r.phase.code] ++ beBytes 1 r.reliefCount ++ beBytes 1 r.clearRun ++ long r.onsetCycle)) ++
            optSigned c.proposedStep ++
            c.params.wire (c.params.loadCurve.elim 0xFF fun i => BitVec.ofNat 8 i.val))) ∧
    (∀ j : Fin 4, let f := s.feeder j
      recordBytes s 1 j.val q =
        some
          (two f.output ++ opt 2 f.driveValue ++ two f.slewUp ++ two f.slewDown ++ two f.minRun ++ two f.staleCap ++
            long f.lastComputeCycle ++
            f.stage.elim [0] fun g =>
              1 ::
                (long g.cycle ++ flag g.stale ++ opt 2 g.load ++ opt 2 g.curveDemand ++ optSigned g.correction ++
                  two g.corrected ++ opt 2 g.fill ++ two g.binDemand ++ two g.capped ++ [g.capBy.code] ++
                  beBytes 1 g.elapsed ++ two g.slewed))) ∧
    (∀ n, n < 64 →
      recordBytes s 2 n q =
        some
          (s.lots.table[n]?.elim [0] fun l =>
            1 ::
              ([l.tag, l.state.code] ++ long l.tonnage ++ long l.startPos ++ optLong l.endPos ++ flag l.reject ++
                optByte (l.rejectSource.map RejectSource.code) ++ flag l.extended)) ∧
      (1 ≤ q → q ≤ 4 →
        recordBytes s 3 n q =
          some
            (((s.lots.table.drop n).take q).flatMap fun l =>
              [l.tag, l.state.code] ++ long l.tonnage ++ flag l.reject ++
                optByte (l.rejectSource.map RejectSource.code) ++ flag l.extended))) ∧
    (∀ n, recordBytes s 4 n q =
      some
        (long s.lots.position ++ [s.lots.tagCounter] ++ beBytes 1 s.lots.table.length ++ beBytes 3 s.lots.inventory ++
          beBytes 4 (min 4294967295 (riding s.lots.table)) ++ beBytes 3 s.params.capacity ++
          long s.lots.weighedTotal ++ long s.lots.creditedTotal ++ long s.lots.rejectedTotal ++
          long s.lots.drawnTotal ++ [s.lots.divertCommand.code] ++ beBytes 1 s.lots.mismatchCount ++
          flag s.lots.mismatch ++ flag (trackingActive s.activeTable))) ∧
    (∀ i : Fin 32, let e := s.activeTable[i]
      (e.used = false → recordBytes s 5 i.val q = some [0]) ∧
      ∀ rec, e.used = true → s.store[i] = some rec → StoreInv s →
        recordBytes s 5 i.val q =
          some
            ([1, e.address, e.roleKind, e.roleInst, if rec.fresh then 0 else 1] ++
              (match rec.value with
                | .scalar v => opt 2 v
                | .counter _ _ => []
                | .actuator v => v.elim [0] fun st => [1, st.lastSeq, st.result.code] ++ flag st.reliefOpen
                | .confirm v => optByte (v.map Divert.code)
                | .tripWord v => optByte v
                | .nothing => [0]) ++
              optLong rec.arrival ++
              opt 1 (rec.arrival.map fun a => min 255 (s.tracker.cycleCount - a).toNat) ++
              match rec.value with
              | .counter last based => opt (if e.role? = some .metal then 1 else 2) last ++ flag based
              | _ => [])) ∧
    (∀ i : Fin 32,
      let entry (e : Entry) : List Byte :=
        let offset (b : Byte) : List Byte := if b = 0xFF then [0] else [1, b]
        [e.address, e.roleKind, e.roleInst, e.mode] ++ offset e.readOffset ++ offset e.writeOffset ++
          two e.gain.toNat ++ two e.offset.toNat ++ [e.freshLimit]
      recordBytes s 6 i.val 0 = some (entry s.activeTable[i]) ∧
      recordBytes s 6 i.val 1 = some (entry s.stagedTable[i])) ∧
    (∀ i : Fin 8,
      recordBytes s 7 i.val 0 =
        some
          (beBytes 1 s.activeCurves[i].length ++ s.activeCurves[i].flatMap fun (x : Point) => two x.x ++ two x.y) ∧
      recordBytes s 7 i.val 1 = some (s.stagedCurves[i].toList.flatMap fun (w : Word) => two w.toNat)) ∧
    (∀ n, let p := s.params; let h := s.handler
      recordBytes s 8 n q =
        some
          (two p.lotLength ++ two p.transportDistance ++ two p.divertLead ++ two p.maxIncrement ++
            beBytes 3 p.capacity ++ beBytes 3 p.drawDown ++ beBytes 1 p.radarBlend ++ beBytes 1 p.divertConfirm ++
            beBytes 1 p.lockThreshold ++ two p.stopLimit ++ [p.tripMask] ++ two p.causeMask.toNat ++
            id (p.rollBit.map Fin.val) ++ flag p.rollSense ++ [p.groupAddress.getD 0xFF] ++ flag p.lineEnd ++
            id (p.primaryBinCurve.map Fin.val) ++ id (p.secondaryBinCurve.map Fin.val) ++
            (h.session.elim [0] fun x =>
              1 :: ([x.bank.code] ++ two x.portal ++ two x.startIndex ++ two x.wordsTaken ++ flag x.overflowed)) ++
            (h.lastSession.elim [0] fun x =>
              1 :: ([x.bank.code] ++ two x.startIndex ++ two x.portal ++ two x.wordsTaken ++ flag x.overflowed)) ++
            [h.lastSessionEnd.code] ++ flag h.pendingStation ++ flag h.pendingCurve ++ flag h.dryRun)) ∧
    ∀ n,
      let port (x : Port) : List Byte :=
        two x.parityErrors ++ two x.framingErrors ++ two x.kindErrors ++ two x.lengthErrors ++ two x.checkErrors ++
          two x.fragments ++ two x.breaks
      recordBytes s 9 n q =
        some
          ([s.tracker.lockState.code] ++ beBytes 1 s.tracker.runCount ++ optByte s.tracker.expected ++
            opt 1 s.tracker.period ++ beBytes 1 s.tracker.slipRun ++ long s.tracker.cycleCount ++
            two s.tracker.invalidMarkers ++ two s.tracker.slips ++ two s.tracker.lockLosses ++
            two s.shortFields ++ two s.badFields ++ port s.portM ++ port s.portF ++
            two s.relay.overrunsF ++ two s.relay.overrunsM ++ two s.relay.replyDrops ++ two s.relay.misdirected ++
            two s.rewriter.rewrites ++ two s.rewriter.rewriteMisses ++ two s.rewriter.masterAdjusts ++
            two s.rewriter.unknownCodes ++ two s.lots.discardedIncrements ++ two s.lots.mergedIncrements ++
            two s.lots.reverseTravels ++ two s.lots.unattributedHits ++ [s.line.lineMode.code] ++
            (s.line.stopRec.elim [0] fun r => 1 :: (long r.startCycle ++ two r.remaining)) ++
            [s.line.lastStopEnd.code] ++
            (s.line.tripRec.elim [0] fun r =>
              1 ::
                ([r.fromMode.code] ++ long r.entryCycle ++
                  [BitVec.ofNat 8
                    ((if r.inputs.pin then 1 else 0) + (if r.inputs.unitLine then 2 else 0) +
                      if r.inputs.unitStale then 4 else 0), r.inputs.lines])) ++
            two s.line.tripEntries ++ two s.causes.rollMisses)

/-! ### Parameters -/

/-- WRITE_CRUSHER with parameters that pass every check writes them all and re-clamps the target into the new window,
with the effects of a change of target; nothing else changes but what becomes of LINER_DUE, which is raised where the
crusher becomes due and ceases where none is due any more (R38, R48, R54, R58). An index above 3, short arguments and
a parameter that fails its check are refused with BAD_ARG and change nothing, the last naming the first failing
parameter in the order of Table 3-2 (R38, R172). That the refusals of an index and of short arguments carry no data is
the model's reading (assumption log 14); so are the parameter a failed ordering condition names and the upper end 3000
of cssMin by itself (assumption log 12). -/
def Obligations.WriteCrusher : Prop :=
  (∀ (s : State) (own src : Byte) (k : Fin 4) (p : CrusherParams) (rest : List Byte),
    (∀ ok ∈ p.checks true, ok = true) →
    Consumes s own (BitVec.ofNat 8 k.val :: (codeCrusherParams p ++ rest)) → CauseInv s →
    let old : Crusher := s.crusher k
    let target := clamp p.cssMin p.cssMax old.cssTarget
    let new : Crusher :=
      { old with
        params := p
        cssTarget := target
        targetSettled := if target = old.cssTarget then old.targetSettled else false
        moveRec :=
          if target = old.cssTarget then old.moveRec
          else
            old.moveRec.map fun (m : Move) =>
              if m.phase = MovePhase.waiting ∧ m.cause = MoveCause.wear then { m with cause := .target } else m }
    ∃ u : CauseUnit,
      exec (.writeCrusher own src (BitVec.ofNat 8 k.val :: (codeCrusherParams p ++ rest))) s =
        .next
          ({ s.asked with crushers := s.crushers.set k new, causes := u }.answer own 0x04
            (if target = old.cssTarget then .done else .clamped) []) ∧
      LinerCause s k new u ∧
      (∀ x, x ≠ .linerDue → u.entry x = s.causes.entry x) ∧
      ((u.entry .linerDue).pending = true ↔ new.isDue ∨ ∃ j : Fin 4, j ≠ k ∧ (s.crusher j).isDue)) ∧
  (∀ (p : CrusherParams) (curve : Byte), p.sized →
    ((∀ ok ∈ p.rows curve, ok = true) →
      ∃ id : Option (Fin 8), curve = ((id.map fun i => BitVec.ofNat 8 i.val).getD 0xFF : Byte) ∧
        p.wire curve = codeCrusherParams { p with loadCurve := id } ∧
        ∀ ok ∈ ({ p with loadCurve := id } : CrusherParams).checks true, ok = true) ∧
    ∀ (s : State) (own src : Byte) (k : Fin 4) (rest : List Byte) (n : Nat),
      Consumes s own (BitVec.ofNat 8 k.val :: (p.wire curve ++ rest)) → (p.rows curve)[n]? = some false →
      (∀ m, m < n → (p.rows curve)[m]? = some true) →
      exec (.writeCrusher own src (BitVec.ofNat 8 k.val :: (p.wire curve ++ rest))) s =
        .next (s.asked.answer own 0x04 .badArg [BitVec.ofNat 8 (n + 1)])) ∧
  ∀ (s : State) (own src : Byte) (payload : List Byte), Consumes s own payload →
    (payload.length < 30 ∨ ∃ index rest, payload = index :: rest ∧ 3 < index.toNat) →
    exec (.writeCrusher own src payload) s = .next (s.asked.answer own 0x04 .badArg [])

/-- WRITE_FEEDER with values in range writes all four; an output left above 0 and below the new minRun becomes 0 at
once, with its drive value; a value out of range is refused with BAD_ARG naming the first, and changes nothing
(R80, R81). A feeder index above 3 is refused with BAD_ARG; that the reply then carries no data is the model's
reading (assumption log 14). -/
def Obligations.WriteFeeder : Prop :=
  (∀ (s : State) (own src : Byte) (j : Fin 4) (slewUp slewDown minRun staleCap : Nat) (rest : List Byte),
    slewUp < 65536 → slewDown < 65536 → minRun < 65536 → staleCap < 65536 →
    let payload :=
      BitVec.ofNat 8 j.val :: (beBytes 2 slewUp ++ beBytes 2 slewDown ++ beBytes 2 minRun ++ beBytes 2 staleCap ++ rest)
    Consumes s own payload →
    exec (.writeFeeder own src payload) s =
      .next
        (if ¬(1 ≤ slewUp ∧ slewUp ≤ 1000) then s.asked.answer own 0x05 .badArg [1]
        else if ¬(1 ≤ slewDown ∧ slewDown ≤ 1000) then s.asked.answer own 0x05 .badArg [2]
        else if 500 < minRun then s.asked.answer own 0x05 .badArg [3]
        else if 1000 < staleCap then s.asked.answer own 0x05 .badArg [4]
        else
          { s.asked with
              feeders :=
                s.feeders.set j
                  (if 0 < (s.feeder j).output ∧ (s.feeder j).output < minRun then
                    { s.feeder j with
                      slewUp := slewUp, slewDown := slewDown, minRun := minRun, staleCap := staleCap, output := 0
                      driveValue := driveValueOf s.activeTable j 0 }
                  else
                    { s.feeder j with
                      slewUp := slewUp, slewDown := slewDown, minRun := minRun
                      staleCap := staleCap }) }.answer own 0x05 .done [])) ∧
  ∀ (s : State) (own src index : Byte) (rest : List Byte), Consumes s own (index :: rest) → 3 < index.toNat →
    exec (.writeFeeder own src (index :: rest)) s = .next (s.asked.answer own 0x05 .badArg [])

/-- WRITE_LINE with valid parameters writes them all and brings inventory to a capacity lowered below it; the trip
inputs are then evaluated under the new tripMask, and trip the line or are added to the trip record where one is
active; nothing else changes, and the reply is DONE in either case (R104, R133, R134, R175). Otherwise it is refused
with BAD_ARG, writes nothing, and names the parameter of the first failing check in the order of R175: the ranges in
the order of Table 10-2, groupAddress equal to the own address, lotLength with divertLead below transportDistance, and
drawDown at or below capacity (R172, R175). The arguments that pass every check are those of valid parameters. A
causeMask above 14 bits and a flag above 1 are out of range by the model's reading (assumption log 13), and short
arguments are refused without data by its reading too (assumption log 14). -/
def Obligations.WriteLine : Prop :=
  (∀ (s : State) (own src : Byte) (p : LineParams) (rest : List Byte), p.Valid (some own) →
    Consumes s own (codeLineParams p ++ rest) →
    let written : State :=
      { s.asked with
        handler := { s.asked.handler with params := p }
        lots := { s.lots with inventory := min p.capacity s.lots.inventory } }
    ∃ t : State, exec (.writeLine own src (codeLineParams p ++ rest)) s = .next (t.answer own 0x06 .done []) ∧
      TripTaken written (tripInputs written) t) ∧
  (∀ (own : Byte) (args : List Nat), own.toNat ≤ 126 → args.length = 18 →
    (∀ x ∈ lineArgWidths.zip args, x.2 < 256 ^ x.1) →
    ((∀ row ∈ lineRows own args, row.2 = true) ↔
      ∃ p : LineParams, p.Valid (some own) ∧ lineWire args = codeLineParams p) ∧
    ∀ (s : State) (src : Byte) (rest : List Byte) (n position : Nat), Consumes s own (lineWire args ++ rest) →
      (lineRows own args)[n]? = some (position, false) →
      (∀ m, m < n → ∃ other, (lineRows own args)[m]? = some (other, true)) →
      exec (.writeLine own src (lineWire args ++ rest)) s =
        .next (s.asked.answer own 0x06 .badArg [BitVec.ofNat 8 position])) ∧
  ∀ (s : State) (own src : Byte) (payload : List Byte), Consumes s own payload → payload.length < 28 →
    exec (.writeLine own src payload) s = .next (s.asked.answer own 0x06 .badArg [])

/-! ### Crushers (Chapter 3) -/

/-- SET_TARGET clamps the target into the window and replies CLAMPED where that changed the value; a new target
clears targetSettled and turns a waiting WEAR move into a TARGET move. An ABSENT crusher is WRONG_MODE and an index
above 3 BAD_ARG, with no change (R47, R54); that both of these refusals carry no data is the model's reading
(assumption log 14). -/
def Obligations.SetTarget : Prop :=
  ∀ (s : State) (own src index hi lo : Byte) (rest : List Byte), CauseInv s →
    Consumes s own (index :: hi :: lo :: rest) →
    (∀ k : Fin 4, index.toNat = k.val →
      let old : Crusher := s.crusher k
      let css := hi.toNat * 256 + lo.toNat
      let target := min old.params.cssMax (max old.params.cssMin css)
      exec (.setTarget own src (index :: hi :: lo :: rest)) s =
        .next
          (if old.state = .absent then s.asked.answer own 0x07 .wrongMode []
          else
            { s.asked with
                crushers :=
                  s.crushers.set k
                    (if target = old.cssTarget then old
                    else
                      { old with
                        cssTarget := target, targetSettled := false
                        moveRec :=
                          old.moveRec.map fun (m : Move) =>
                            if m.phase = MovePhase.waiting ∧ m.cause = MoveCause.wear then { m with cause := .target }
                            else m }) }.answer own 0x07 (if target = css then .done else .clamped)
              (beBytes 2 target))) ∧
    (3 < index.toNat →
      exec (.setTarget own src (index :: hi :: lo :: rest)) s = .next (s.asked.answer own 0x07 .badArg []))

/-- CRUSHER_ENABLE in line mode RUN takes a crusher from STANDBY to RUN, or by its relief record to RELIEF or to
RECOVER with settleCount loaded; it leaves a crusher already enabled, refuses one ABSENT or in FAULT with WRONG_MODE and
an index above 3 with BAD_ARG, and is refused with WRONG_MODE in every other line mode; short arguments are refused with
BAD_ARG (R43, R74, R172). The command keeps its value. That the replies carry no data is the model's reading (assumption
log 14); so is the order of the refusals where two apply, short arguments first and the line mode before the index
(assumption log 15). -/
def Obligations.CrusherEnable : Prop :=
  (∀ (s : State) (own src : Byte) (k : Fin 4) (rest : List Byte), CauseInv s →
    Consumes s own (BitVec.ofNat 8 k.val :: rest) →
    let old : Crusher := s.crusher k
    exec (.crusherEnable own src (BitVec.ofNat 8 k.val :: rest)) s =
      .next
        (if s.line.lineMode ≠ .run ∨ old.state = .absent ∨ old.state = .fault then
          s.asked.answer own 0x08 .wrongMode []
        else if old.state = .standby then
          { s.asked with
              crushers :=
                s.crushers.set k
                  (match old.reliefRec with
                  | none => { old with state := .run }
                  | some r =>
                    if r.phase = ReliefPhase.opened then { old with state := .relief }
                    else { old with state := .recover, settleCount := old.params.settleCycles }) }.answer own 0x08
            .done []
        else s.asked.answer own 0x08 .done [])) ∧
  (∀ (s : State) (own src index : Byte) (rest : List Byte), Consumes s own (index :: rest) → 3 < index.toNat →
    exec (.crusherEnable own src (index :: rest)) s =
      .next (s.asked.answer own 0x08 (if s.line.lineMode = .run then .badArg else .wrongMode) [])) ∧
  ∀ (s : State) (own src : Byte), Consumes s own [] →
    exec (.crusherEnable own src []) s = .next (s.asked.answer own 0x08 .badArg [])

/-- CRUSHER_DISABLE takes an enabled crusher to STANDBY with settleCount 0: a move is aborted, a governed crusher
without one takes STOP with moveSeq, and leaving a run state sets its feeder to 0. STANDBY and FAULT stay as they
are, and ABSENT is refused with WRONG_MODE, and an index above 3 with BAD_ARG (R40, R44, R92); that the refusals
carry no data is the model's reading (assumption log 14). -/
def Obligations.CrusherDisable : Prop :=
  (∀ (s : State) (own src : Byte) (k : Fin 4) (rest : List Byte), CauseInv s →
    Consumes s own (BitVec.ofNat 8 k.val :: rest) →
    let old : Crusher := s.crusher k
    exec (.crusherDisable own src (BitVec.ofNat 8 k.val :: rest)) s =
      .next
        (if old.state = .absent then s.asked.answer own 0x09 .wrongMode []
        else if old.state = .standby ∨ old.state = .fault then s.asked.answer own 0x09 .done []
        else
          { s.asked with
              crushers :=
                s.crushers.set k
                  { old with
                    state := .standby, settleCount := 0, moveRec := none
                    command :=
                      if old.moveRec.isSome ∨ governed s.activeTable k = true then
                        { kind := .stop, seq := old.moveSeq, step := 0 }
                      else old.command }
              feeders :=
                if old.state = CrusherState.relief then s.feeders
                else
                  s.feeders.set k
                    { s.feeder k with
                      output := 0
                      driveValue := driveValueOf s.activeTable k 0 } }.answer own 0x09 .done [])) ∧
  ∀ (s : State) (own src index : Byte) (rest : List Byte), Consumes s own (index :: rest) → 3 < index.toNat →
    exec (.crusherDisable own src (index :: rest)) s = .next (s.asked.answer own 0x09 .badArg [])

/-- FAULT_CLEAR takes a crusher from FAULT to STANDBY with settleCount 0 and no relief record; its command stays,
or is HOLD with moveSeq where regulation is not governed; CRUSHER_FAULT ceases when no crusher is left in FAULT. In
every other state it is refused with WRONG_MODE, and an index above 3 and short arguments with BAD_ARG (R46, R172). That
the replies carry no data is the model's reading (assumption log 14). -/
def Obligations.FaultClear : Prop :=
  (∀ (s : State) (own src : Byte) (k : Fin 4) (rest : List Byte), CauseInv s →
    Consumes s own (BitVec.ofNat 8 k.val :: rest) →
    let old : Crusher := s.crusher k
    ((old.state ≠ .fault →
        exec (.faultClear own src (BitVec.ofNat 8 k.val :: rest)) s =
          .next (s.asked.answer own 0x0A .wrongMode [])) ∧
      (old.state = .fault →
        ∃ u : CauseUnit,
          exec (.faultClear own src (BitVec.ofNat 8 k.val :: rest)) s =
            .next
              ({ s.asked with
                  crushers :=
                    s.crushers.set k
                      { old with
                        state := .standby, settleCount := 0, reliefRec := none
                        command :=
                          if governed s.activeTable k = true then old.command
                          else { kind := .hold, seq := old.moveSeq, step := 0 } }
                  causes := u }.answer own 0x0A .done []) ∧
          (∀ x, x ≠ .crusherFault → u.entry x = s.causes.entry x) ∧
          u.attention = s.causes.attention ∧ u.sequence = s.causes.sequence ∧
          u.entry .crusherFault =
            if ∃ j : Fin 4, j ≠ k ∧ (s.crusher j).state = .fault then s.causes.entry .crusherFault
            else { pending := false, count := 0 }))) ∧
  (∀ (s : State) (own src index : Byte) (rest : List Byte), Consumes s own (index :: rest) → 3 < index.toNat →
    exec (.faultClear own src (index :: rest)) s = .next (s.asked.answer own 0x0A .badArg [])) ∧
  ∀ (s : State) (own src : Byte), Consumes s own [] →
    exec (.faultClear own src []) s = .next (s.asked.answer own 0x0A .badArg [])

/-- WEAR_RESET sets wear to 0 and clears closeBlocked in every crusher state; LINER_DUE ceases when no crusher is
left due (R58, R59). An index above 3 is refused with BAD_ARG; that the reply then carries no data is the model's
reading (assumption log 14). -/
def Obligations.WearReset : Prop :=
  (∀ (s : State) (own src : Byte) (k : Fin 4) (rest : List Byte), CauseInv s → CrusherInv s →
    Consumes s own (BitVec.ofNat 8 k.val :: rest) →
    ∃ u : CauseUnit,
      exec (.wearReset own src (BitVec.ofNat 8 k.val :: rest)) s =
        .next
          ({ s.asked with
              crushers := s.crushers.set k { s.crusher k with wear := 0, closeBlocked := false }
              causes := u }.answer own 0x0B .done []) ∧
      (∀ x, x ≠ .linerDue → u.entry x = s.causes.entry x) ∧
      u.attention = s.causes.attention ∧ u.sequence = s.causes.sequence ∧
      u.entry .linerDue =
        if ∃ j : Fin 4, j ≠ k ∧
            ((s.crusher j).params.linerLimit ≤ (s.crusher j).wear ∨ (s.crusher j).closeBlocked = true) then
          s.causes.entry .linerDue
        else { pending := false, count := 0 }) ∧
  ∀ (s : State) (own src index : Byte) (rest : List Byte), Consumes s own (index :: rest) → 3 < index.toNat →
    exec (.wearReset own src (index :: rest)) s = .next (s.asked.answer own 0x0B .badArg [])

/-! ### Line mode (Chapter 7) -/

/-- LINE_START: READY and STOPPED enter RUN where no trip input is active, and TRIPPED, with WRONG_MODE, where one is;
STOPPING enters RUN with the stop cancelled; RUN stays; IDLE and TRIPPED are refused. In the last four no trip input
is evaluated. The reply carries lineMode after the request (R129, R133, R134). LINE_STOP in RUN creates a stop record
with the current cycle and stopLimit and enters STOPPING, zeroing no feeder and changing no crusher; in STOPPING it
changes nothing; in every other mode it is refused (R130). -/
def Obligations.LineStartStop : Prop :=
  (∀ (s : State) (own src : Byte) (payload : List Byte), LineInv s → CauseInv s → Consumes s own payload →
     let a := tripInputs s
     let starts := s.line.lineMode = .ready ∨ s.line.lineMode = .stopped
     (starts → a.active →
       ∃ t : State, exec (.lineStart own src payload) s = .next (t.answer own 0x0C .wrongMode [5]) ∧
         TripTaken s.asked a t) ∧
     ((starts → ¬a.active) →
       exec (.lineStart own src payload) s =
         .next
           (match s.line.lineMode with
           | .ready | .stopped | .run =>
             { s.asked with line := { s.line with lineMode := .run } }.answer own 0x0C .done [2]
           | .stopping =>
             { s.asked with
                 line := { s.line with lineMode := .run, stopRec := none, lastStopEnd := .cancelled } }.answer own 0x0C
               .done [2]
           | .idle => s.asked.answer own 0x0C .wrongMode [0]
           | .tripped => s.asked.answer own 0x0C .wrongMode [5]))) ∧
  ∀ (s : State) (own src : Byte) (payload : List Byte), LineInv s → CauseInv s → Consumes s own payload →
    exec (.lineStop own src payload) s =
      .next
        (match s.line.lineMode with
        | .run =>
          { s.asked with
              line :=
                { s.line with
                  lineMode := .stopping
                  stopRec :=
                    some { startCycle := s.tracker.cycleCount, remaining := s.params.stopLimit } } }.answer own 0x0D
            .done [3]
        | .stopping => s.asked.answer own 0x0D .done [3]
        | mode => s.asked.answer own 0x0D .wrongMode [mode.code])

/-- TRIP_RELEASE in TRIPPED: with every trip input inactive the trip record is discarded, the line enters READY
while LOCKED and IDLE in SEARCH, TRIP_OUT deasserts and TRIP ceases; with any input active it is refused and the
inputs found are added to the record. In any other mode it is refused and changes nothing (R133, R136); that the
reply then carries lineMode and empty sets is the model's reading (assumption log 16). -/
def Obligations.TripRelease : Prop :=
  ∀ (s : State) (own src : Byte) (payload : List Byte), LineInv s → CauseInv s → Consumes s own payload →
    let a := tripInputs s
    (s.line.lineMode = .tripped → a.any = false →
      let mode : LineMode := if s.tracker.lockState = .locked then .ready else .idle
      ∃ u : CauseUnit,
        exec (.tripRelease own src payload) s =
          .next
            ({ s.asked with
                line := { s.line with lineMode := mode, tripRec := none }
                pins := { s.pins with tripOut := false }
                causes := u }.answer own 0x0E .done [mode.code, 0, 0]) ∧
        (∀ x, x ≠ .trip → u.entry x = s.causes.entry x) ∧ u.entry .trip = { pending := false, count := 0 } ∧
        u.attention = s.causes.attention ∧ u.sequence = s.causes.sequence) ∧
    (s.line.lineMode = .tripped → a.any = true →
      exec (.tripRelease own src payload) s =
        .next
          ({ s.asked with
              line :=
                { s.line with
                  tripRec :=
                    s.line.tripRec.map fun (r : TripRec) =>
                      { r with
                        inputs :=
                          { pin := r.inputs.pin || a.pin, unitLine := r.inputs.unitLine || a.unitLine
                            unitStale := r.inputs.unitStale || a.unitStale
                            lines := r.inputs.lines ||| a.lines } } } }.answer own 0x0E .wrongMode
            (5 :: codeTripInputs a))) ∧
    (s.line.lineMode ≠ .tripped →
      exec (.tripRelease own src payload) s = .next (s.asked.answer own 0x0E .wrongMode [s.line.lineMode.code, 0, 0]))

/-! ### Lots (Chapter 6) -/

/-- REJECT_LOT by Table 6-4, for the lot of a tag and for a tag no lot has; every other lot and every account is
left, and riding falls by the tonnage of a lot it marks (R114, R115). -/
def Obligations.RejectLot : Prop :=
  ∀ (s : State) (own src tag : Byte) (rest : List Byte), Consumes s own (tag :: rest) →
    (∀ (older younger : List Lot) (l : Lot), s.lots.table = older ++ l :: younger → l.tag = tag →
      (∀ m ∈ older, m.tag ≠ tag) →
      exec (.rejectLot own src (tag :: rest)) s =
        .next
          (if l.reject = true then
            s.asked.answer own 0x0F .done (l.state.code :: codeOption (fun x => [x.code]) l.rejectSource)
          else if l.state = .passing then
            s.asked.answer own 0x0F .tooLate (l.state.code :: codeOption (fun x => [x.code]) l.rejectSource)
          else
            { s.asked with
                lots :=
                  { s.lots with
                    table := older ++ { l with reject := true, rejectSource := some .master } :: younger } }.answer
              own 0x0F .done [l.state.code, 1, 1]) ∧
      (l.reject = false → riding s.lots.table =
        riding (older ++ { l with reject := true, rejectSource := some .master } :: younger) + l.tonnage.toNat)) ∧
    ((∀ m ∈ s.lots.table, m.tag ≠ tag) →
      exec (.rejectLot own src (tag :: rest)) s = .next (s.asked.answer own 0x0F .badArg []))

/-! ### Tables (Chapter 10) -/

/-- LOAD_OPEN opens a session at an index within its bank; it is refused with BAD_ARG for another bank or an index
at or above the bank's size, and then with BUSY while a commit is pending on the bank (R180). That the refusals
carry no data is the model's reading (assumption log 14). -/
def Obligations.LoadOpen : Prop :=
  ∀ (s : State) (own src bank hi lo : Byte) (rest : List Byte), Consumes s own (bank :: hi :: lo :: rest) →
    let start := hi.toNat * 256 + lo.toNat
    let opened (b : Bank) : State :=
      { s.asked with
          handler :=
            { s.asked.handler with
              session :=
                some
                  { bank := b, portal := start, startIndex := start, wordsTaken := 0
                    overflowed := false } } }.answer own 0x10 .done [bank, hi, lo]
    exec (.loadOpen own src (bank :: hi :: lo :: rest)) s =
      .next
        (if bank = 0 ∧ start < 256 then
          if s.handler.pendingStation then s.asked.answer own 0x10 .busy [] else opened .station
        else if bank = 1 ∧ start < 264 then
          if s.handler.pendingCurve then s.asked.answer own 0x10 .busy [] else opened .curve
        else s.asked.answer own 0x10 .badArg [])

/-- COMMIT in the order of R183, for a request at the own address, whose session has ended: BAD_ARG, BUSY,
WRONG_MODE for STATION in RUN and STOPPING, INVALID_TABLE with the failing index and check, and DONE with the
pending flag set. That the first three carry no data is the model's reading (assumption log 14). -/
def Obligations.Commit : Prop :=
  ∀ (s : State) (own src bank : Byte) (rest : List Byte), Consumes s own (bank :: rest) →
    exec (.commit own src (bank :: rest)) s =
      .next
        (if bank = 0 then
          if s.handler.pendingStation then s.asked.answer own 0x11 .busy []
          else if s.line.lineMode = .run ∨ s.line.lineMode = .stopping then s.asked.answer own 0x11 .wrongMode []
          else
            match stationFailure (some own) s.stagedTable with
            | some (index, check) =>
              s.asked.answer own 0x11 .invalidTable [BitVec.ofNat 8 index, BitVec.ofNat 8 check]
            | none =>
              { s.asked with handler := { s.asked.handler with pendingStation := true } }.answer own 0x11 .done []
        else if bank = 1 then
          if s.handler.pendingCurve then s.asked.answer own 0x11 .busy []
          else
            match curveFailure s.stagedCurves with
            | some (index, check) =>
              s.asked.answer own 0x11 .invalidTable [BitVec.ofNat 8 index, BitVec.ofNat 8 check]
            | none =>
              { s.asked with handler := { s.asked.handler with pendingCurve := true } }.answer own 0x11 .done []
        else s.asked.answer own 0x11 .badArg [])

/-- What validation of the two banks means. Of a station table it finds no failure exactly when every used entry passes
every check and every crusher with a POWER entry has its FEEDER_DRIVE entry; the failure found otherwise is the first
check failed by the first used entry that fails one; and with all entries passing, FEEDER_MISSING, numbered 8, at the
POWER entry of the lowest crusher that fails it (R7, R8, R9). Of the staged curve bank it finds no failure exactly when
every curve has a count of 0 or 2 to 16, its counted points in range, and each counted x above the one before; the
failure found otherwise is the first check that the first failing curve fails, of COUNT 0, RANGE 1 and ORDER 2 (R97). -/
def Obligations.BanksValidated : Prop :=
  (∀ (own : Option Byte) (tab : Vector Entry 32),
     let passes (i : Fin 32) : Prop := ∀ n, n < 8 → StationCheck own tab i n
     let all : Prop := ∀ i : Fin 32, tab[i].used = true → passes i
     (stationFailure own tab = none ↔ all ∧ ∀ k, k < 4 → (∃ i, isPowerOf tab k i) → hasDrive tab k) ∧
     (∀ (i : Fin 32) (n : Nat), n < 8 →
       (stationFailure own tab = some (i.val, n) ↔
         tab[i].used = true ∧ (∀ j : Fin 32, j < i → tab[j].used = true → passes j) ∧
         (∀ m, m < n → StationCheck own tab i m) ∧ ¬StationCheck own tab i n)) ∧
     ∀ i : Fin 32, stationFailure own tab = some (i.val, 8) ↔
       all ∧ ∃ k, k < 4 ∧ isPowerOf tab k i ∧ ¬hasDrive tab k ∧
         ∀ m, m < k → (∃ j, isPowerOf tab m j) → hasDrive tab m) ∧
  ∀ curves : Vector StagedCurve 8,
    (curveFailure curves = none ↔ ∀ (i : Fin 8) (n : Nat), n < 3 → CurveCheck curves[i] n) ∧
    ∀ (i : Fin 8) (n : Nat), n < 3 →
      (curveFailure curves = some (i.val, n) ↔
        (∀ j : Fin 8, j < i → ∀ m, m < 3 → CurveCheck curves[j] m) ∧ (∀ m, m < n → CurveCheck curves[i] m) ∧
        ¬CurveCheck curves[i] n)

/-- A STREAM telegram to the own or the group address, taken into an open session: its words, n div 2 of them, are
written in order at the portal, which advances by one a word up to the bank's size; a word that finds the portal there
is discarded, and the first such word of the session raises STREAM_ABORTED; wordsTaken counts every word, saturating at
65535; and every other word of the staged banks is left (R160, R181). With the end flag, bit 0 of the function byte, the
session ends after its words with END_FLAG, its fields copied into lastSession; without it the session stays open
(R182). With no session open nothing is taken (R181), nor is a telegram to any other destination, address 0 among them
(R153). The telegram is forwarded in every case (R153). -/
def Obligations.StreamTelegrams : Prop :=
  (∀ (s : State) (dst src fn : Byte) (payload : List Byte), payload.length ≤ 40 → s.relay.fBound.length < 4 →
    s.ownAddress ≠ some dst → s.params.groupAddress ≠ some dst →
    exec (.streamTelegram dst src fn payload) s =
      .next (s.heard.withForward (Telegram.make .stream dst src fn payload))) ∧
  ∀ (s : State) (dst src fn : Byte), s.ownAddress = some dst ∨ s.params.groupAddress = some dst →
    s.relay.fBound.length < 4 →
    (∀ payload : List Byte, payload.length ≤ 40 → s.handler.session = none →
      exec (.streamTelegram dst src fn payload) s =
        .next (s.heard.withForward (Telegram.make .stream dst src fn payload))) ∧
    ∀ (words : List Word) (odd : List Byte) (x : Session), odd.length ≤ 1 → 2 * words.length + odd.length ≤ 40 →
      s.handler.session = some x →
      let payload := (words.flatMap fun (w : Word) => [(w >>> 8).setWidth 8, w.setWidth 8]) ++ odd
      let fit := min words.length (x.bank.size - x.portal)
      let y : Session :=
        { x with
          portal := x.portal + fit
          wordsTaken := if words = [] then x.wordsTaken else min 65535 (x.wordsTaken + words.length)
          overflowed := x.overflowed || decide (fit < words.length) }
      ∃ (t : State) (u : CauseUnit),
        exec (.streamTelegram dst src fn payload) s =
          .next (t.withForward (Telegram.make .stream dst src fn payload)) ∧
        (if fit < words.length ∧ x.overflowed = false then RaisedOnce s.params.causeMask .streamAborted s.causes u
        else u = s.causes) ∧
        t =
          { s.heard with
            handler :=
              if fn.getLsbD 0 then { s.handler with session := none, lastSession := some y, lastSessionEnd := .endFlag }
              else { s.handler with session := some y }
            stagedTable := t.stagedTable
            stagedCurves := t.stagedCurves
            causes := u } ∧
        (∀ q, q < 256 →
          t.stationWord q =
            if x.bank = .station ∧ x.portal ≤ q ∧ q < x.portal + fit then
              (words[q - x.portal]?).map (heldWord (q % 8))
            else s.stationWord q) ∧
        ∀ q, q < 264 →
          t.curveWord q =
            if x.bank = .curve ∧ x.portal ≤ q ∧ q < x.portal + fit then words[q - x.portal]? else s.curveWord q

/-! ### The part as a whole (Chapter 10) -/

/-- DRY_RUN to the setting held has no further effect; a change sets the flag, and each crusher context takes it:
on, a move is aborted with settleCount loaded and MOVE returning to RUN; off, proposedStep becomes absent. The
reply carries the setting (R61, R73, R176). -/
def Obligations.DryRun : Prop :=
  ∀ (s : State) (own src : Byte) (on : Bool) (rest : List Byte), CauseInv s →
    Consumes s own ((if on then 1 else 0) :: rest) →
    let code : Byte := if on then 1 else 0
    ∃ t : State, exec (.dryRun own src (code :: rest)) s = .next (t.answer own 0x12 .done [code]) ∧
      t =
        { s.asked with
          handler := { s.asked.handler with dryRun := on }
          crushers := t.crushers } ∧
      ∀ k,
        t.crusher k =
          if on = s.handler.dryRun then s.crusher k
          else if on then
            if (s.crusher k).moveRec.isSome then
              { s.crusher k with
                moveRec := none
                command := { kind := .stop, seq := (s.crusher k).moveSeq, step := 0 }
                settleCount := (s.crusher k).params.settleCycles
                state := if (s.crusher k).state = .move then .run else (s.crusher k).state }
            else s.crusher k
          else { s.crusher k with proposedStep := none }

/-- DEVICE_CLEAR sets every counter to 0 and clears the cause unit; each level cause whose condition holds is
pending again with count 1, the sequence number counts them, and attention is set if one of them is enabled;
nothing else changes (R23, R36, R126, R144, R157, R171, R177, R190). -/
def Obligations.DeviceClear : Prop :=
  ∀ (s : State) (own src : Byte) (payload : List Byte), Consumes s own payload →
    let cleared (x : Port) : Port :=
      { x with
        parityErrors := 0, framingErrors := 0, kindErrors := 0, lengthErrors := 0, checkErrors := 0, fragments := 0
        breaks := 0 }
    ∃ u : CauseUnit,
      exec (.deviceClear own src payload) s =
        .next
          ({ s.asked with
              shortFields := 0
              badFields := 0
              tracker := { s.tracker with invalidMarkers := 0, slips := 0, lockLosses := 0 }
              lots :=
                { s.lots with
                  discardedIncrements := 0, mergedIncrements := 0, reverseTravels := 0, unattributedHits := 0 }
              line := { s.line with tripEntries := 0 }
              portM := cleared s.asked.portM
              portF := cleared s.portF
              relay := { s.relay with overrunsF := 0, overrunsM := 0, replyDrops := 0, misdirected := 0 }
              rewriter := { rewrites := 0, rewriteMisses := 0, masterAdjusts := 0, unknownCodes := 0 }
              causes := u }.answer own 0x13 .done []) ∧
      u.rollMisses = 0 ∧
      (∀ x : Cause,
        u.entry x =
          if x.isLevel = true ∧ levelHolds x s = true then { pending := true, count := 1 }
          else { pending := false, count := 0 }) ∧
      u.sequence = BitVec.ofNat 8 (levelCauses.filter fun x => levelHolds x s).length ∧
      (u.attention = true ↔ ∃ x ∈ levelCauses, levelHolds x s = true ∧ s.params.causeMask.getLsbD x.index.val = true)

/-- WARM_RESTART: the tracker in SEARCH with its counters and cycleCount kept; every record STALE with its value and
arrival kept and its baseline cleared (R17, R20, R36); every present crusher in STANDBY, without a move, with the
command of R63 and the relief record of R78, and all else of each context kept; every feeder at 0 with its drive
value, its parameters and stage record kept (R100); the line in IDLE or, where it was TRIPPED or the pin is low, in
TRIPPED, with a stop ended by RESTART and the trip record kept or made (R144); the confirm supervision cleared (R126);
the causes cleared but for TRIP and LINER_DUE where they hold (R190); and tables, parameters, lots, accounts, pending
commits, dry-run and queues kept (R157, R178). Here at the own address, where a session open before has already ended
as at any request (R182). That the causes are cleared after every block has taken the restart, so that TRIP has count
1, is the model's reading (assumption log 21); so is the command of an ABSENT crusher (assumption log 29). -/
def Obligations.WarmRestart : Prop :=
  ∀ (s : State) (own src : Byte) (payload : List Byte), LineInv s → Consumes s own payload →
    let wasTripped := decide (s.line.lineMode = .tripped)
    let low := s.pins.tripInLow
    ∃ t : State, exec (.warmRestart own src payload) s = .next (t.answer own 0x14 .done []) ∧
      t =
        { s.asked with
          tracker :=
            { s.tracker with
              lockState := .search, runCount := 0, expected := none, supervision := none, slipRun := 0 }
          pins := { s.pins with lock := false, tripOut := wasTripped || low }
          store := t.store
          crushers := t.crushers
          feeders := t.feeders
          lots := { s.lots with mismatchCount := 0, mismatch := false }
          line :=
            { lineMode := if wasTripped || low then .tripped else .idle
              stopRec := none
              lastStopEnd := if s.line.stopRec.isSome then .restart else s.line.lastStopEnd
              tripRec :=
                if wasTripped then
                  s.line.tripRec.map fun (r : TripRec) => { r with inputs := { r.inputs with pin := r.inputs.pin || low } }
                else if low then
                  some
                    { fromMode := .idle, entryCycle := s.tracker.cycleCount
                      inputs := { pin := true, unitLine := false, unitStale := false, lines := 0 } }
                else none
              tripEntries :=
                if !wasTripped && low then min 65535 (s.line.tripEntries + 1) else s.line.tripEntries }
          causes := t.causes } ∧
      (∀ i : Fin 32, t.store[i] = (s.store[i]).map Record.lapsed) ∧
      (∀ j, t.feeder j = { s.feeder j with output := 0, driveValue := driveValueOf s.activeTable j 0 }) ∧
      (∀ k,
        let old := s.crusher k
        t.crusher k =
          { old with
            state := if old.state = .absent then .absent else .standby
            moveRec := none
            settleCount := 0
            command :=
              { kind := if old.state ≠ .absent ∧ governed s.activeTable k = false then .hold else .stop
                seq := old.moveSeq
                step := 0 }
            reliefRec :=
              if old.state = .fault then none
              else
                old.reliefRec.map fun (r : Relief) =>
                  if r.phase = ReliefPhase.opened then { r with clearRun := 0 } else r }) ∧
      let due := decide (∃ k, (s.crusher k).isDue)
      let mask := s.params.causeMask
      (∀ x : Cause, t.causes.entry x =
        if (x = .trip ∧ (wasTripped || low) = true) ∨ (x = .linerDue ∧ due = true) then { pending := true, count := 1 }
        else { pending := false, count := 0 }) ∧
      t.causes.sequence = (if wasTripped || low then 1 else 0) + (if due then 1 else 0) ∧
      (t.causes.attention = true ↔
        ((wasTripped || low) = true ∧ mask.getLsbD 0 = true) ∨ (due = true ∧ mask.getLsbD 9 = true)) ∧
      t.causes.rollMisses = s.causes.rollMisses

/-- ROLL_CALL to address 0 is forwarded, and a part with lineEnd set and an own address answers it with a field in
which its bit alone is set when asserted, changing no cause; a reply that finds the M-bound queue full is dropped as any
reply of the part is (R155, R191), with LINE_ERROR at a saturated replyDrops too by the model's reading (assumption log
19). Without lineEnd nothing further is done, nor by a part without an own address, which answers no request (R145). To
the group address it is forwarded and not taken, ending an open session (R173, R182); at the own address it is refused
with BAD_ARG (R172, R191), without data by the model's reading (assumption log 14). That the bit is judged before the
copy joins the F-bound queue shows only where that copy is dropped, which is not said here (assumption log 11). -/
def Obligations.RollCall : Prop :=
  ∀ (s : State) (src : Byte) (payload : List Byte), payload.length ≤ 40 → s.relay.fBound.length < 4 →
    let copy := Telegram.make .request 0 src 0x15 payload
    (s.params.lineEnd = false ∨ s.ownAddress = none →
      exec (.rollCall 0 src payload) s = .next (s.heard.withForward copy)) ∧
    (∀ own : Byte, s.params.lineEnd = true → s.ownAddress = some own →
      ∃ hi lo : Byte,
        (∀ n : Nat, n < 16 →
          ((hi ++ lo : Word).getLsbD n = true ↔
            s.params.rollBit.map Fin.val = some n ∧ s.causes.attention = s.params.rollSense)) ∧
        (s.relay.mBound.length < 4 →
          exec (.rollCall 0 src payload) s = .next ((s.heard.answer own 0x15 .done [hi, lo]).withForward copy)) ∧
        (4 ≤ s.relay.mBound.length →
          ∃ u, RaisedOnce s.params.causeMask .lineError s.causes u ∧
            exec (.rollCall 0 src payload) s =
              .next
                ({ s.heard with
                    relay := { s.relay with replyDrops := min 65535 (s.relay.replyDrops + 1) }
                    causes := u }.withForward copy))) ∧
    (∀ group : Byte, group ≠ 0 → s.ownAddress ≠ some group → s.params.groupAddress = some group →
      exec (.rollCall group src payload) s =
        .next (s.asked.withForward (Telegram.make .request group src 0x15 payload))) ∧
    ∀ own : Byte, Consumes s own payload →
      exec (.rollCall own src payload) s = .next (s.asked.answer own 0x15 .badArg [])

/-- A request whose function names no request, at the own address, ends the session and is answered with UNKNOWN
and no data; at address 0 it is forwarded and changes nothing else (R172, R173). -/
def Obligations.UnknownFunction : Prop :=
  ∀ (s : State) (own src fn : Byte) (payload : List Byte), Consumes s own payload → s.relay.fBound.length < 4 →
    fn.toNat = 0 ∨ 0x15 < fn.toNat →
    exec (.unknownFunction own src fn payload) s = .next (s.asked.answer own fn .unknown []) ∧
    exec (.unknownFunction 0 src fn payload) s =
      .next (s.heard.withForward (Telegram.make .request 0 src fn payload))

/-! ### Reception (sections 8.1 to 8.3) -/

/-- Decode of encode: the bytes of a telegram with at most 40 payload bytes, received one good character after
another by an IDLE receiver, are delivered as that telegram, whatever its kind and destination, and the receiver is
IDLE again (R146, R147, R158). That M_TELEGRAM_FORWARD and F_TELEGRAM_FORWARD, by which the delivery is said here, take
every kind and destination is the model's choice (assumption log 6). -/
def Obligations.TelegramReceived : Prop :=
  ∀ (s : State) (kind : Kind) (dst src fn : Byte) (payload : List Byte), payload.length ≤ 40 →
    (s.portM.rx = .idle →
      feed .m (Telegram.make kind dst src fn payload).bytes s = exec (.mTelegramForward kind dst src fn payload) s) ∧
    (s.portF.rx = .idle →
      feed .f (Telegram.make kind dst src fn payload).bytes s = exec (.fTelegramForward kind dst src fn payload) s)

/-- A good character: in HUNT and in a break it is discarded; in IDLE a kind code begins a telegram and any other
byte is a kind error; in RECEIVING, short of the length byte, it is appended, and a length byte above 40 is a
length error (R146, R156); a legal length byte and the characters after it are left to TelegramReceived. Each error of
reception abandons the partial telegram, is counted once and raises LINE_ERROR: parity, framing, kind and length errors
put the receiver into HUNT, a check error and a fragment into IDLE (R145, R146, R147, R148, R156). That LINE_ERROR is
raised at a saturated counter too is the model's reading (assumption log 19); that a parity or framing error or a
FRAGMENT in HUNT or in a break, and HUNT_IDLE outside HUNT, change nothing is the model's choice (assumption log 3). -/
def Obligations.ReceptionOfCharacters : Prop :=
  (∀ (p : PortId) (b : Byte) (s : State), ∃ u, RaisedOnce s.params.causeMask .lineError s.causes u ∧
     ((s.port p).rx = .hunt ∨ (s.port p).rx = .inBreak → exec (.goodCharacter p b) s = .next s) ∧
     ((s.port p).rx = .idle →
       exec (.goodCharacter p b) s =
         .next
           (if b = 0x3A ∨ b = 0x5C ∨ b = 0xA3 ∨ b = 0xC6 then s.setPort p { s.port p with rx := .receiving [b] }
           else
             { s with causes := u }.setPort p
               { s.port p with rx := .hunt, kindErrors := min 65535 ((s.port p).kindErrors + 1) })) ∧
     ∀ part, (s.port p).rx = .receiving part →
       (part.length < 4 →
         exec (.goodCharacter p b) s = .next (s.setPort p { s.port p with rx := .receiving (part ++ [b]) })) ∧
       (part.length = 4 → 40 < b.toNat →
         exec (.goodCharacter p b) s =
           .next
             ({ s with causes := u }.setPort p
               { s.port p with rx := .hunt, lengthErrors := min 65535 ((s.port p).lengthErrors + 1) }))) ∧
  ∀ (p : PortId) (s : State), ∃ u, RaisedOnce s.params.causeMask .lineError s.causes u ∧
    let x := s.port p
    let after (y : Port) : Host.Outcome State Fault Refusal := .next ({ s with causes := u }.setPort p y)
    (x.rx = .idle ∨ x.rx.isReceiving = true →
      exec (.parityError p) s = after { x with rx := .hunt, parityErrors := min 65535 (x.parityErrors + 1) } ∧
      exec (.framingError p) s = after { x with rx := .hunt, framingErrors := min 65535 (x.framingErrors + 1) } ∧
      exec (.checkError p) s = after { x with rx := .idle, checkErrors := min 65535 (x.checkErrors + 1) }) ∧
    (x.rx = .idle →
      exec (.kindError p) s = after { x with rx := .hunt, kindErrors := min 65535 (x.kindErrors + 1) }) ∧
    (x.rx.isReceiving = true →
      exec (.lengthError p) s = after { x with rx := .hunt, lengthErrors := min 65535 (x.lengthErrors + 1) } ∧
      exec (.fragment p) s = after { x with rx := .idle, fragments := min 65535 (x.fragments + 1) }) ∧
    (x.rx = .hunt ∨ x.rx = .inBreak →
      exec (.parityError p) s = .next s ∧ exec (.framingError p) s = .next s ∧ exec (.fragment p) s = .next s) ∧
    (x.rx = .hunt → exec (.huntIdle p) s = .next (s.setPort p { x with rx := .idle })) ∧
    (x.rx ≠ .hunt → exec (.huntIdle p) s = .next s)

/-- A break on port M is counted once, abandons the partial telegram, ends an open session with STREAM_ABORTED and
requests a break repeat of port F; on port F it is counted and nothing more. When the line returns to mark the
receiver is IDLE (R149, R150, R182). A pending break repeat is sent by port F when its transmitter is free: the flag
is cleared, F_DE asserted and the line held at space; at its end the line returns to mark and F_DE is released; the
queues are kept (R150). That the end of a break that is not under way, a break repeat that is not pending or finds
the transmitter at work, and the end of a repeat that is not under way change nothing is the model's choice
(assumption log 3). -/
def Obligations.Breaks : Prop :=
  (∀ s : State,
     (s.portM.rx ≠ .inBreak →
       ∃ u, (if s.handler.session.isSome then RaisedOnce s.params.causeMask .streamAborted s.causes u
           else u = s.causes) ∧
         exec (.lineBreak .m) s =
           .next
             { s with
               portM := { s.portM with rx := .inBreak, breaks := min 65535 (s.portM.breaks + 1) }
               handler :=
                 match s.handler.session with
                 | some x =>
                   { s.handler with session := none, lastSession := some x, lastSessionEnd := .lineBreak }
                 | none => s.handler
               causes := u
               breakPending := s.breakPending || decide (s.portF.tx ≠ .breaking) }) ∧
     (s.portF.rx ≠ .inBreak →
       exec (.lineBreak .f) s =
         .next { s with portF := { s.portF with rx := .inBreak, breaks := min 65535 (s.portF.breaks + 1) } }) ∧
     ∀ p : PortId,
       ((s.port p).rx = .inBreak →
         exec (.lineBreak p) s = .next s ∧
         exec (.breakEnd p) s = .next (s.setPort p { s.port p with rx := .idle })) ∧
       ((s.port p).rx ≠ .inBreak → exec (.breakEnd p) s = .next s)) ∧
  ∀ s : State,
    (s.breakPending = true → s.portF.tx = .idle →
      exec .breakRepeat s =
        .next { s with breakPending := false, portF := { s.portF with tx := .breaking, de := true, txLine := .space } }) ∧
    (s.breakPending = false ∨ s.portF.tx ≠ .idle → exec .breakRepeat s = .next s) ∧
    (s.portF.tx = .breaking →
      exec .breakRepeatEnd s =
        .next { s with portF := { s.portF with tx := .idle, de := false, txLine := .mark } }) ∧
    (s.portF.tx ≠ .breaking → exec .breakRepeatEnd s = .next s)

/-! ### Transmission (section 8.4 and Chapter 9) -/

/-- Port M sends the telegram at the head of its queue as the queue holds it, its driver enabled; so does port F
for a telegram that is no REQUEST and for a REQUEST to a station with no output entry, unless a break repeat is
pending; a busy transmitter and an empty queue begin nothing. The telegram keeps its place until its last character
has been sent, when it leaves the queue and the driver is released (R151, R152, R161). That TRANSMIT_START with nothing
to send or a transmitter at work, and TRANSMIT_COMPLETE with no telegram being sent, change nothing is the model's
choice (assumption log 3). -/
def Obligations.Transmission : Prop :=
  ∀ (s : State) (p : PortId) (t : Telegram) (rest : List Telegram),
    ((s.port p).tx = .idle → s.queueOf p = t :: rest →
      p = .m ∨ (s.breakPending = false ∧ (t.kind ≠ .request ∨ outputEntry s.activeTable t.dst = none)) →
      exec (.transmitStart p) s = .next (s.setPort p { s.port p with tx := .sending t, de := true })) ∧
    ((s.port p).tx ≠ .idle ∨ s.queueOf p = [] ∨ (p = .f ∧ s.breakPending = true) →
      exec (.transmitStart p) s = .next s) ∧
    ((s.port p).tx = .sending t → ∃ v : State, exec (.transmitComplete p) s = .next v ∧ v.queueOf p = (s.queueOf p).tail ∧
      v =
        { s.setPort p { s.port p with tx := .idle, de := false } with
          relay :=
            { s.relay with
              mBound := if p = .m then s.relay.mBound.tail else s.relay.mBound
              fBound := if p = .f then s.relay.fBound.tail else s.relay.fBound } }) ∧
    ((∀ x, (s.port p).tx ≠ .sending x) → exec (.transmitComplete p) s = .next s)

/-- A REQUEST to a station with an output entry, as port F begins to send it (R152, R161). In dry-run (R162) and under
PASS (R163) it leaves as received. In GOVERN and CLAMP a field that does not fit is a rewrite miss with CONFIG_GAP,
sent as received (R164). A field that fits leaves with the part's value and a check computed anew (R168): in GOVERN
the drive value, or 0 outside RUN and STOPPING, for FEEDER_DRIVE, the crusher's command for ACTUATOR and divertCommand
for DIVERTER; in CLAMP the lower of the master's speed and the part's (R165), the crusher's command unless it is HOLD,
which passes the master's field and reads its code (R166), and REJECT where either side rejects (R167). That
unknownCodes advances for a diverter's byte in CLAMP alone is the model's reading (assumption log 24). -/
def Obligations.GovernedRequestRewritten : Prop :=
  ∀ (s : State) (t : Telegram) (rest : List Telegram) (e : Entry) (r : Role),
    s.portF.tx = .idle → s.breakPending = false → s.relay.fBound = t :: rest → t.kind = .request →
    outputEntry s.activeTable t.dst = some (e, r) →
    let sends (u : State) (x : Telegram) : Host.Outcome State Fault Refusal :=
      .next { u with portF := { s.portF with tx := .sending x, de := true } }
    (s.handler.dryRun = true ∨ e.mode? = some .pass → exec (.transmitStart .f) s = sends s t) ∧
    ∀ (off width : Nat), e.mode? = some .govern ∨ e.mode? = some .clamp → s.handler.dryRun = false →
      offsetOfCode e.writeOffset = some off → r.writeWidth = some width →
      let clamped := decide (e.mode? = some .clamp)
      let master (n : Nat) : Nat := (t.payload[off + n]?.getD 0).toNat
      let held (k : Fin 4) : Bool := clamped && decide ((s.crusher k).command.kind = .hold)
      let passes : Bool := match r with | .actuator k => held k | _ => false
      let field : List Byte :=
        match r with
        | .feederDrive j =>
          let part := if s.line.lineMode.feeds then (s.feeder j).driveValue.getD 0 else 0
          beBytes 2 (if clamped then min (master 0 * 256 + master 1) part else part)
        | .actuator k => encodeCommand (s.crusher k).command
        | _ => [if (clamped && decide (master 0 = 1)) || decide (s.lots.divertCommand = .reject) then 1 else 0]
      let code := master 0 / 16
      let unknown : Bool :=
        if passes then decide (code ∉ [1, 2, 3]) else decide (r = .diverter) && clamped && decide (1 < master 0)
      let counted : Rewriter :=
        { s.rewriter with
          rewrites := if passes then s.rewriter.rewrites else min 65535 (s.rewriter.rewrites + 1)
          masterAdjusts :=
            if passes && decide (code = 2) then min 65535 (s.rewriter.masterAdjusts + 1) else s.rewriter.masterAdjusts
          unknownCodes := if unknown then min 65535 (s.rewriter.unknownCodes + 1) else s.rewriter.unknownCodes }
      (off + width ≤ t.payload.length →
        (passes = true → exec (.transmitStart .f) s = sends { s with rewriter := counted } t) ∧
        (passes = false →
          ∃ x, x.sound = decide (t.payload.length ≤ 40) ∧ x.kind = .request ∧ x.dst = t.dst ∧ x.src = t.src ∧
            x.fn = t.fn ∧ x.payload = t.payload.take off ++ field ++ t.payload.drop (off + width) ∧
            x.payload.length = t.payload.length ∧ exec (.transmitStart .f) s = sends { s with rewriter := counted } x)) ∧
      (t.payload.length < off + width →
        ∃ u, RaisedOnce s.params.causeMask .configGap s.causes u ∧
          exec (.transmitStart .f) s =
            sends
              { s with
                rewriter := { s.rewriter with rewriteMisses := min 65535 (s.rewriter.rewriteMisses + 1) }
                causes := u }
              t)

/-! ### The plant: causes, feeders, curves and moves -/

/-- Raising a cause does what R187 says, and changes the cause unit alone. -/
def Obligations.RaisingCauses : Prop :=
  ∀ (x : Cause) (s : State), RaisedOnce s.params.causeMask x s.causes (raise x s).causes ∧
    raise x s = { s with causes := (raise x s).causes }

/-- The lookup of R95 in a curve with increasing x: y of the first point at or below its x, y of the last at or
above its x, and the y of every point at its x; between two neighbours y of the first plus the truncated share of
the difference, which lies between theirs. -/
def Obligations.CurveLookup : Prop :=
  ∀ (curve : Curve), CurveInv curve →
    (∀ p ∈ curve, lookupCurve curve p.x = some p.y) ∧
    (∀ p, curve.head? = some p → ∀ x, x ≤ p.x → lookupCurve curve x = some p.y) ∧
    (∀ p, curve.getLast? = some p → ∀ x, p.x ≤ x → lookupCurve curve x = some p.y) ∧
    ∀ (i : Nat) (p q : Point), curve[i]? = some p → curve[i + 1]? = some q → ∀ x, p.x ≤ x → x ≤ q.x →
      ∃ y : Nat, lookupCurve curve x = some y ∧
        (y : Int) = p.y + Int.tdiv (((q.y : Int) - p.y) * ((x : Int) - p.x)) ((q.x : Int) - p.x) ∧
        min p.y q.y ≤ y ∧ y ≤ max p.y q.y

/-- A computation of a feeder (R82 to R91), stage by stage: the load L and the curve value D1 (R83, R84), the level
correction C and D2 (R85), or staleCap with the POWER record not FRESH (R83, R91); the fill and the bin limit D3 (R86,
R87); the cap D4 and its row (R88); the elapsed count (R82); S within slewDown and slewUp for each elapsed cycle,
without the lower bound in a stale computation (R89, R91); and the output by minRun (R90). The record of the stages is
taken at the current cycle. So no output stands without a crusher in RUN, MOVE or RECOVER and a line in RUN or
STOPPING; the output is 0 or at least minRun; it never rises by more than slewUp for each elapsed cycle, or to minRun;
with the POWER record not FRESH it is at most staleCap; and no other feeder, no crusher and, of the causes, nothing
but CONFIG_GAP changes, which each lookup in an empty curve raises (R96). -/
def Obligations.FeederComputation : Prop :=
  ∀ (s : State) (j : Fin 4), FeederInv s →
    let f := s.feeder j
    let c := s.crusher j
    let t := computeFeeder j s
    let g := t.feeder j
    let n := min 8 (max 1 (s.tracker.cycleCount - f.lastComputeCycle).toNat)
    (t = { s with feeders := s.feeders.set j g, causes := t.causes } ∧
      g.lastComputeCycle = s.tracker.cycleCount ∧
      (g.stage.map fun x => (x.cycle, x.elapsed)) = some (s.tracker.cycleCount, n) ∧
      g.driveValue = driveValueOf s.activeTable j g.output ∧
      (¬((s.crusher j).state.isRun = true ∧ s.line.lineMode.feeds = true) → g.output = 0) ∧
      (g.output = 0 ∨ f.minRun ≤ g.output) ∧
      g.output ≤ max (f.output + f.slewUp * n) f.minRun ∧
      (s.isFresh (.power j) = false → g.output ≤ f.staleCap)) ∧
    ∃ x : Stage, g.stage = some x ∧
      g = { f with
            output := g.output, lastComputeCycle := s.tracker.cycleCount
            driveValue := driveValueOf s.activeTable j g.output, stage := some x } ∧
      (∀ power, s.freshScalar (.power j) = some power →
        let load := min 2000 (power * 1000 / c.params.ratedPower)
        let d1 := c.params.loadCurve.elim 1000 fun id => (lookupCurve s.activeCurves[id] load).getD 0
        let corr : Int :=
          (s.freshScalar (.level j)).elim 0 fun level =>
            max (-300) (min 300 (Int.tdiv (((c.params.levelTarget : Int) - min level 1000) * c.params.levelGain) 64))
        x.stale = false ∧ x.load = some load ∧ x.curveDemand = some d1 ∧ x.correction = some corr ∧
          (x.corrected : Int) = max 0 (min 1000 (d1 + corr))) ∧
      (s.freshScalar (.power j) = none →
        x.stale = true ∧ x.load = none ∧ x.curveDemand = none ∧ x.correction = none ∧ x.corrected = f.staleCap) ∧
      (let id := if j = 0 then s.params.primaryBinCurve else s.params.secondaryBinCurve
       let stock := s.lots.inventory + if j = 0 then riding s.lots.table else 0
       let fill := min 1000 (stock * 1000 / s.params.capacity)
       (∀ i, id = some i → binInformation s.activeTable = true →
         x.fill = some fill ∧ x.binDemand = min x.corrected ((lookupCurve s.activeCurves[i] fill).getD 0)) ∧
       (id = none ∨ binInformation s.activeTable = false → x.fill = none ∧ x.binDemand = x.corrected)) ∧
      (x.capped, x.capBy) =
        (if s.line.lineMode ≠ .run ∧ s.line.lineMode ≠ .stopping then (0, .lineMode)
        else if s.line.lineMode = .stopping ∧ j = 0 then (0, .stopping)
        else if c.state = .run then (x.binDemand, .none)
        else if c.state = .move then
          if c.params.moveCap < x.binDemand then (c.params.moveCap, .moveCap) else (x.binDemand, .none)
        else if c.state = .recover then
          if c.params.recoverCap < x.binDemand then (c.params.recoverCap, .recoverCap) else (x.binDemand, .none)
        else (0, .crusherState)) ∧
      (x.slewed : Int) =
        max 0
          (min 1000
            (min ((f.output : Int) + f.slewUp * n)
              (max (if x.stale then 0 else (f.output : Int) - f.slewDown * n) x.capped))) ∧
      g.output = (if f.minRun ≤ x.slewed then x.slewed else if f.minRun ≤ x.capped then f.minRun else 0) ∧
      let gaps : Nat :=
        (if (s.freshScalar (.power j)).isSome ∧ c.params.loadCurve.any fun id => s.activeCurves[id].isEmpty then 1 else 0) +
          (if binInformation s.activeTable ∧
              (if j = 0 then s.params.primaryBinCurve else s.params.secondaryBinCurve).any fun id =>
                s.activeCurves[id].isEmpty
          then 1 else 0)
      RaisedEach s.params.causeMask (fun y => if y = .configGap then gaps else 0) s.causes t.causes

/-- What an arrival does to a crusher's move (R50 to R56, R60, R71, R73), of a crusher that the arrival finds in any
state. A GAP arrival checks a waiting move for issue (R52), drops it or issues it (R53); without a move, with governed
regulation and settleCount 0, it evaluates in RUN (R50) and RECOVER (R71), or proposes in dry-run (R60, R73). A POWER
arrival lets the feeder compute (R18) and then checks a waiting move for issue. A status that reports on the move in
flight makes it active, or ends it with DONE, STROKE_END or FAULT, with wear, closeBlocked, the command and the causes
that R56 gives; any other status does nothing to it (R55). An issued move's sequence is the next after moveSeq, passing
over the one the actuator's held record reports, FRESH or STALE, so that it is never that one (R53). -/
def Obligations.GapMoves : Prop :=
  ∀ (s : State) (k : Fin 4), CauseInv s → ContextInv (s.crusher k) →
    let c := s.crusher k
    let after (x : CrusherState) : CrusherState := if x = .move then .run else x
    let last := (s.heldStatus k).map fun st => st.lastSeq
    let seq := if last = some (c.moveSeq + 1) then c.moveSeq + 2 else c.moveSeq + 1
    let mayIssue (state : CrusherState) (output : Nat) : Bool :=
      if state = .recover then decide (output ≤ c.params.recoverCap)
      else
        decide (output ≤ c.params.moveCap) &&
          ((s.freshScalar (.power k)).elim (decide (c.params.moveLoadMax = 2000)) fun p =>
            decide (min 2000 (p * 1000 / c.params.ratedPower) ≤ c.params.moveLoadMax))
    let within (gap : Nat) : Bool := decide (((gap : Int) - c.cssTarget).natAbs ≤ c.params.deadband)
    let refused (gap : Nat) : Bool := decide ((c.params.deadband : Int) < (gap : Int) - c.cssTarget) && c.closeBlocked
    let stepOf (gap : Nat) : Int := min (c.params.stepMax : Int) (max (-(c.params.stepMax : Int)) ((gap : Int) - c.cssTarget))
    let issued (gap : Nat) (m : Move) (x : Crusher) : Crusher :=
      { x with
        moveSeq := seq
        moveRec := some { m with seq := some seq, step := some (stepOf gap), phase := .issued }
        command := { kind := .adjust, seq := seq, step := stepOf gap } }
    let checked (gap output : Nat) : Crusher :=
      match c.moveRec with
      | some m =>
        if m.phase = MovePhase.waiting && mayIssue c.state output then
          if within gap then { c with moveRec := none, targetSettled := true, state := after c.state }
          else if refused gap then { c with moveRec := none, state := after c.state }
          else issued gap m c
        else c
      | none => c
    let waiting (cause : MoveCause) : Move := { seq := none, step := none, cause := cause, phase := .waiting, elapsed := 0 }
    let begun (gap : Nat) (cause : MoveCause) (x : Crusher) : Crusher :=
      if mayIssue x.state (s.feeder k).output then issued gap (waiting cause) x else { x with moveRec := some (waiting cause) }
    let evaluated (gap : Nat) : Crusher :=
      if c.state = .run then
        if s.handler.dryRun then
          { c with
            targetSettled := c.targetSettled || within gap
            proposedStep := some (if within gap || refused gap then 0 else stepOf gap) }
        else if within gap then { c with targetSettled := true }
        else if refused gap then c
        else begun gap (if c.targetSettled then .wear else .target) { c with state := .move }
      else if c.state = .recover then
        let back : Crusher := { c with state := .run, targetSettled := c.targetSettled || within gap, reliefRec := none }
        if s.handler.dryRun then
          if within gap || refused gap then { back with proposedStep := some 0 }
          else { c with proposedStep := some (stepOf gap) }
        else if within gap || refused gap then back
        else begun gap .recovery c
      else c
    (∀ gap, s.freshScalar (.gap k) = some gap →
      let new := if c.moveRec.isSome then checked gap (s.feeder k).output
        else if s.governed k && c.settleCount == 0 then evaluated gap else c
      deliverArrival { role := .gap k, increment := 0 } s = { s with crushers := s.crushers.set k new } ∧
      ((∃ m, new.moveRec = some m ∧ m.phase = .issued) → c.moveRec.all (fun m => m.phase = .waiting) = true →
        last ≠ some new.moveSeq)) ∧
    (let t := computeFeeder k s
     let new := (s.freshScalar (.gap k)).elim c fun gap => checked gap (t.feeder k).output
     deliverArrival { role := .power k, increment := 0 } s = { t with crushers := s.crushers.set k new }) ∧
    ∀ st, s.heldStatus k = some st → st.reliefOpen = false → (∀ r, c.reliefRec = some r → r.phase = .cleared) →
      let hit : Option Move := c.moveRec.filter fun m => decide (m.phase ≠ .waiting ∧ m.seq = some st.lastSeq)
      let hold : Command := { kind := .hold, seq := c.moveSeq, step := 0 }
      let new : Crusher :=
        match hit with
        | none => c
        | some m =>
          let closing : Nat := (m.step.getD 0).toNat
          match st.result with
          | .idle => c
          | .busy => { c with moveRec := some { m with phase := .active } }
          | .done =>
            { c with
              moveRec := none, command := hold, state := after c.state, settleCount := c.params.settleCycles
              wear := if m.cause = MoveCause.wear then min 65535 (c.wear + closing) else c.wear }
          | .strokeEnd =>
            { c with
              moveRec := none, command := hold, state := after c.state, settleCount := c.params.settleCycles
              closeBlocked := c.closeBlocked || decide (0 < closing) }
          | .fault =>
            { c with moveRec := none, command := { kind := .stop, seq := c.moveSeq, step := 0 }, state := .fault }
      let failed := hit.isSome && decide (st.result = .fault)
      let blocked := hit.isSome && decide (st.result = .strokeEnd)
      let raises (x : Cause) : Nat :=
        match x with
        | .moveFailed => if failed || blocked then 1 else 0
        | .crusherFault => if failed then 1 else 0
        | .linerDue => if new.isDue ∧ ¬c.isDue then 1 else 0
        | _ => 0
      ∃ u, RaisedEach s.params.causeMask raises s.causes u ∧
        deliverArrival { role := .actuator k, increment := 0 } s =
          { s with
            crushers := s.crushers.set k new
            feeders :=
              if failed then s.feeders.set k { s.feeder k with output := 0, driveValue := driveValueOf s.activeTable k 0 }
              else s.feeders
            causes := u }

/-- What an arrival does to a crusher's relief (R65 to R70). With the pressure at or above reliefPressure, or the
relief flag of the status set, it is an onset sample; the pressure clears below reliefClear with no relief reported,
and breaks otherwise; the status clears with its flag clear and no FRESH PRESSURE record, and is neither with one
(R65). An onset in RUN, MOVE or RECOVER aborts the move, opens the record, enters RELIEF, zeroes the feeder and raises
RELIEF (R66); in STANDBY without an open relief it opens the record and raises RELIEF (R67). An open relief in RELIEF
or STANDBY counts clearing samples and starts anew at breaking ones (R68); at reliefClearCount it is cleared, with
FAULT at reliefLimit, else RECOVER with settleCount loaded from RELIEF (R69, R70). Every other sample does nothing. A
status arrival is said here where it opens or finds a relief or finds no move; GapMoves says the rest. -/
def Obligations.ReliefSamples : Prop :=
  ∀ (s : State) (k : Fin 4) (a : Role) (pressure : Nat) (st : ActStatus), CauseInv s → ContextInv (s.crusher k) →
    (a = .pressure k ∧ s.freshScalar (.pressure k) = some pressure) ∨ (a = .actuator k ∧ s.heldStatus k = some st) →
    let c := s.crusher k
    let on := if a = .pressure k then decide (c.params.reliefPressure ≤ pressure) else st.reliefOpen
    let clears :=
      if a = .pressure k then decide (pressure < c.params.reliefClear) && !s.reliefReported k
      else !st.reliefOpen && !s.isFresh (.pressure k)
    let breaks := on || (decide (a = .pressure k) && !clears)
    (a = .actuator k → on = true ∨ c.moveRec = none) →
    let isOpen : Bool := c.reliefRec.any fun r => decide (r.phase = .opened)
    let opened : Relief :=
      { phase := .opened
        reliefCount := c.reliefRec.elim 1 fun r => min 255 (r.reliefCount + 1)
        clearRun := 0
        onsetCycle := s.tracker.cycleCount }
    let stop : Command := { kind := .stop, seq := c.moveSeq, step := 0 }
    ∃ (new : Crusher) (u : CauseUnit),
      deliverArrival { role := a, increment := 0 } s =
        { s with
          crushers := s.crushers.set k new
          feeders :=
            if c.state.isRun = true ∧ on = true then
              s.feeders.set k { s.feeder k with output := 0, driveValue := driveValueOf s.activeTable k 0 }
            else s.feeders
          causes := u } ∧
      (if c.state.isRun = true ∧ on = true then
        new =
            { c with
              state := .relief, reliefRec := some opened, moveRec := none
              command := if c.moveRec.isSome then stop else c.command } ∧
          RaisedOnce s.params.causeMask .relief s.causes u
      else if c.state = .standby ∧ isOpen = false ∧ on = true then
        new = { c with reliefRec := some opened } ∧ RaisedOnce s.params.causeMask .relief s.causes u
      else if (c.state = .relief ∨ c.state = .standby) ∧ isOpen = true ∧ breaks = true then
        new = { c with reliefRec := c.reliefRec.map fun (r : Relief) => { r with clearRun := 0 } } ∧ u = s.causes
      else if (c.state = .relief ∨ c.state = .standby) ∧ isOpen = true ∧ clears = true then
        ∀ r, c.reliefRec = some r →
          let done := decide (c.params.reliefClearCount ≤ r.clearRun + 1)
          let next : Relief :=
            { r with clearRun := r.clearRun + 1, phase := if done then ReliefPhase.cleared else ReliefPhase.opened }
          if done = true ∧ c.params.reliefLimit ≤ r.reliefCount then
            new = { c with reliefRec := some next, state := .fault, command := stop } ∧
              RaisedOnce s.params.causeMask .crusherFault s.causes u
          else
            new =
                (if done = true ∧ c.state = .relief then
                  { c with reliefRec := some next, state := .recover, settleCount := c.params.settleCycles }
                else { c with reliefRec := some next }) ∧
              u = s.causes
      else new = c ∧ u = s.causes)

/-- What the arrivals of the belt and the bin do (R105, R111 to R113, R121, R122). While tracking is inactive, and with
an increment of 0, a weigh increment and hits do nothing. A weigh increment above maxIncrement is discarded and counted;
any other is added to weighedTotal and placed on the OPEN lot, on a lot opened for it, or, with no row free, on the
youngest lot with LOT_TABLE_FULL (R112). Hits mark the OPEN lot unless it is marked, or a lot opened for them, or, with
no row free, are counted with LOT_TABLE_FULL (R113). A totaliser increment up to maxIncrement is drawn from inventory
down to 0; BIN_LEVEL blends the radar's estimate in, within 0 to capacity (R121, R122). -/
def Obligations.BeltArrivals : Prop :=
  ∀ (s : State) (w : Nat),
    let l := s.lots
    let weigh := deliverArrival { role := .beltScale, increment := w } s
    let metal := deliverArrival { role := .metal, increment := w } s
    let active := trackingActive s.activeTable
    let discarded : State := { s with lots := { l with discardedIncrements := min 65535 (l.discardedIncrements + 1) } }
    let total : Long := l.weighedTotal + BitVec.ofNat 32 w
    let lot (tonnage : Nat) (marked : Bool) : Lot :=
      { tag := l.tagCounter, state := .opened, tonnage := BitVec.ofNat 32 tonnage, startPos := l.position, endPos := none
        reject := marked, rejectSource := if marked then some .detector else none, extended := false }
    (active = false ∨ w = 0 → weigh = s ∧ metal = s) ∧
    (active = true → s.params.maxIncrement < w → weigh = discarded) ∧
    (active = true → 0 < w →
      (∀ (older younger : List Lot) (x : Lot), l.table = older ++ x :: younger → x.state = .opened →
        (∀ y ∈ older, y.state ≠ .opened) →
        (w ≤ s.params.maxIncrement →
          weigh =
            { s with
              lots :=
                { l with
                  weighedTotal := total
                  table := older ++ { x with tonnage := x.tonnage + BitVec.ofNat 32 w } :: younger } }) ∧
        metal =
          { s with
            lots :=
              { l with
                table :=
                  older ++
                    (if x.reject then x else { x with reject := true, rejectSource := some .detector }) :: younger } }) ∧
      ((∀ y ∈ l.table, y.state ≠ .opened) → l.table.length < 64 →
        (w ≤ s.params.maxIncrement →
          weigh =
            { s with
              lots :=
                { l with weighedTotal := total, table := l.table ++ [lot w false], tagCounter := l.tagCounter + 1 } }) ∧
        metal = { s with lots := { l with table := l.table ++ [lot 0 true], tagCounter := l.tagCounter + 1 } }) ∧
      ∀ (older : List Lot) (x : Lot), l.table = older ++ [x] → (∀ y ∈ l.table, y.state ≠ .opened) →
        64 ≤ l.table.length →
        ∃ u, RaisedOnce s.params.causeMask .lotTableFull s.causes u ∧
          (w ≤ s.params.maxIncrement →
            weigh =
              { s with
                lots :=
                  { l with
                    weighedTotal := total, mergedIncrements := min 65535 (l.mergedIncrements + 1)
                    table := older ++ [{ x with tonnage := x.tonnage + BitVec.ofNat 32 w }] }
                causes := u }) ∧
          metal =
            { s with
              lots := { l with unattributedHits := min 65535 (l.unattributedHits + 1) }, causes := u }) ∧
    (∀ j : Fin 4,
      deliverArrival { role := .feederTotal j, increment := w } s =
        if s.params.maxIncrement < w then discarded
        else { s with lots := { l with inventory := l.inventory - w, drawnTotal := l.drawnTotal + BitVec.ofNat 32 w } }) ∧
    ∀ level, s.freshScalar .binLevel = some level →
      let estimate : Int := min level 1000 * s.params.capacity / 1000
      deliverArrival { role := .binLevel, increment := 0 } s =
        { s with
          lots :=
            { l with
              inventory :=
                (max 0
                  (min (s.params.capacity : Int)
                    (l.inventory + Int.tdiv ((estimate - l.inventory) * s.params.radarBlend) 16))).toNat } }

/-- What a BELT_TRAVEL arrival does (R106 to R110, R117). While tracking is inactive, and with an increment of 0, it
does nothing; above 32767 it is counted as reverse travel alone. Otherwise the position advances, and each lot takes
the events it has reached: an OPEN lot at lotLength closes where a row is free, the lots that leave at this advance
being gone, and is extended otherwise (R108); a lot at transportDistance less divertLead becomes PASSING, closed first
if it was OPEN (R109); a PASSING lot whose end is at transportDistance leaves the table, into rejectedTotal or into
creditedTotal and inventory, up to capacity (R110). divertCommand is REJECT exactly with a marked PASSING lot left
(R117); LOT_TABLE_FULL is raised at a lot's first extension; and a retirement in STOPPING that completes the stop ends
it, with every feeder at 0 and every crusher stood down (R45, R93, R139, R141). -/
def Obligations.LotWalk : Prop :=
  ∀ (s : State) (d : Nat), LotsInv s → ParamsInv s →
    let t := deliverArrival { role := .beltTravel, increment := d } s
    let l := s.lots
    let p := s.params
    (trackingActive s.activeTable = false ∨ d = 0 → t = s) ∧
    (trackingActive s.activeTable = true → 32767 < d →
      t = { s with lots := { l with reverseTravels := min 65535 (l.reverseTravels + 1) } }) ∧
    (trackingActive s.activeTable = true → 0 < d → d ≤ 32767 →
      let pos : Long := l.position + BitVec.ofNat 32 d
      let far (x : Lot) : Nat := (pos - x.startPos).toNat
      let moved (free : Bool) (x : Lot) : Lot :=
        let y :=
          if x.state = .opened ∧ p.lotLength ≤ far x then
            if free then { x with state := .riding, endPos := some pos } else { x with extended := true }
          else x
        if p.transportDistance - p.divertLead ≤ far x then
          { y with state := .passing, endPos := if y.state = LotState.opened then some pos else y.endPos }
        else y
      let leaves (x : Lot) : Bool :=
        decide (x.state = .passing) && x.endPos.any fun e => decide (p.transportDistance ≤ (pos - e).toNat)
      let others := (l.table.filter fun x => decide (x.state ≠ .opened)).map (moved true)
      let free := decide ((others.filter fun x => !leaves x).length + 1 < 64)
      let walked := l.table.map (moved free)
      let gone := walked.filter leaves
      let kept := walked.filter fun x => !leaves x
      let credited := gone.filter fun x => !x.reject
      let lots : LotTracker :=
        { l with
          position := pos
          table := kept
          inventory := min p.capacity (l.inventory + (credited.map fun (x : Lot) => x.tonnage.toNat).sum)
          creditedTotal := l.creditedTotal + (credited.map fun (x : Lot) => x.tonnage).sum
          rejectedTotal :=
            l.rejectedTotal + ((gone.filter fun (x : Lot) => x.reject).map fun (x : Lot) => x.tonnage).sum
          divertCommand := if kept.any fun x => decide (x.state = .passing) && x.reject then .reject else .pass }
      let full := l.table.any fun x =>
        decide (x.state = .opened ∧ p.lotLength ≤ far x) && !free && !x.extended
      ∃ u, (if full then RaisedOnce p.causeMask .lotTableFull s.causes u else u = s.causes) ∧
        if gone ≠ [] ∧ s.line.lineMode = .stopping ∧ kept = [] ∧ lots.inventory ≤ p.drawDown then
          t =
              { s with
                lots := lots
                line := { s.line with lineMode := .stopped, stopRec := none, lastStopEnd := .completed }
                pins := { s.pins with tripOut := false }
                crushers := t.crushers
                feeders := t.feeders
                causes := t.causes } ∧
            Halted s t ∧ (CauseInv s → t.causes = u)
        else t = { s with lots := lots, causes := u })

/-- The counted cycle of an orderly stop (R139, R140, R141): with the lot table empty and inventory at or below
drawDown it ends COMPLETED; otherwise the remaining count falls by one, and at 0 it ends FORCED with STOP_FORCED. At
either end the line is STOPPED, every feeder is at 0 with its drive value, every crusher is stood down, its move aborted
and its command by R45, and nothing else changes (R45, R93). -/
def Obligations.OrderlyStop : Prop :=
  ∀ (s : State) (r : StopRec), s.line.lineMode = .stopping → s.line.stopRec = some r → CauseInv s →
    let t := cycleLine s
    let complete := s.lots.table = [] ∧ s.lots.inventory ≤ s.params.drawDown
    ((complete ∨ r.remaining ≤ 1) →
      t =
        { s with
          line :=
            { s.line with
              lineMode := .stopped, stopRec := none, lastStopEnd := if complete then .completed else .forced }
          pins := { s.pins with tripOut := false }
          crushers := t.crushers
          feeders := t.feeders
          causes := t.causes } ∧
      Halted s t ∧ (complete → t.causes = s.causes) ∧
      (¬complete → RaisedOnce s.params.causeMask .stopForced s.causes t.causes)) ∧
    (¬complete → 1 < r.remaining →
      t = { s with line := { s.line with stopRec := some { r with remaining := r.remaining - 1 } } })
end

