-- ==== Sys2Proof/Laws/State.lean ====
section
/-!
SUPPORT. One lemma for each field under each update of the state, so that no proof unfolds an update: the operations of
Machine/Ops.lean that replace one part, the raising of a cause, and the states in which claims are stated.
-/

namespace Sys2Proof.Machine

/-! ### A crusher context replaced -/

@[simp] theorem State.setCrusher_straps (s : State) (k : Fin 4) (x : Crusher) :
    (s.setCrusher k x).straps = s.straps := rfl
@[simp] theorem State.setCrusher_pins (s : State) (k : Fin 4) (x : Crusher) : (s.setCrusher k x).pins = s.pins := rfl
@[simp] theorem State.setCrusher_portM (s : State) (k : Fin 4) (x : Crusher) :
    (s.setCrusher k x).portM = s.portM := rfl
@[simp] theorem State.setCrusher_portF (s : State) (k : Fin 4) (x : Crusher) :
    (s.setCrusher k x).portF = s.portF := rfl
@[simp] theorem State.setCrusher_breakPending (s : State) (k : Fin 4) (x : Crusher) :
    (s.setCrusher k x).breakPending = s.breakPending := rfl
@[simp] theorem State.setCrusher_relay (s : State) (k : Fin 4) (x : Crusher) :
    (s.setCrusher k x).relay = s.relay := rfl
@[simp] theorem State.setCrusher_tracker (s : State) (k : Fin 4) (x : Crusher) :
    (s.setCrusher k x).tracker = s.tracker := rfl
@[simp] theorem State.setCrusher_activeTable (s : State) (k : Fin 4) (x : Crusher) :
    (s.setCrusher k x).activeTable = s.activeTable := rfl
@[simp] theorem State.setCrusher_stagedTable (s : State) (k : Fin 4) (x : Crusher) :
    (s.setCrusher k x).stagedTable = s.stagedTable := rfl
@[simp] theorem State.setCrusher_store (s : State) (k : Fin 4) (x : Crusher) :
    (s.setCrusher k x).store = s.store := rfl
@[simp] theorem State.setCrusher_shortFields (s : State) (k : Fin 4) (x : Crusher) :
    (s.setCrusher k x).shortFields = s.shortFields := rfl
@[simp] theorem State.setCrusher_badFields (s : State) (k : Fin 4) (x : Crusher) :
    (s.setCrusher k x).badFields = s.badFields := rfl
@[simp] theorem State.setCrusher_activeCurves (s : State) (k : Fin 4) (x : Crusher) :
    (s.setCrusher k x).activeCurves = s.activeCurves := rfl
@[simp] theorem State.setCrusher_stagedCurves (s : State) (k : Fin 4) (x : Crusher) :
    (s.setCrusher k x).stagedCurves = s.stagedCurves := rfl
@[simp] theorem State.setCrusher_crushers (s : State) (k : Fin 4) (x : Crusher) :
    (s.setCrusher k x).crushers = s.crushers.set k x := rfl
@[simp] theorem State.setCrusher_feeders (s : State) (k : Fin 4) (x : Crusher) :
    (s.setCrusher k x).feeders = s.feeders := rfl
@[simp] theorem State.setCrusher_lots (s : State) (k : Fin 4) (x : Crusher) : (s.setCrusher k x).lots = s.lots := rfl
@[simp] theorem State.setCrusher_line (s : State) (k : Fin 4) (x : Crusher) : (s.setCrusher k x).line = s.line := rfl
@[simp] theorem State.setCrusher_rewriter (s : State) (k : Fin 4) (x : Crusher) :
    (s.setCrusher k x).rewriter = s.rewriter := rfl
@[simp] theorem State.setCrusher_handler (s : State) (k : Fin 4) (x : Crusher) :
    (s.setCrusher k x).handler = s.handler := rfl
@[simp] theorem State.setCrusher_causes (s : State) (k : Fin 4) (x : Crusher) :
    (s.setCrusher k x).causes = s.causes := rfl
@[simp] theorem State.setCrusher_freeCount (s : State) (k : Fin 4) (x : Crusher) :
    (s.setCrusher k x).freeCount = s.freeCount := rfl
@[simp] theorem State.setCrusher_pending (s : State) (k : Fin 4) (x : Crusher) :
    (s.setCrusher k x).pending = s.pending := rfl

/-! ### A feeder record replaced -/

@[simp] theorem State.setFeeder_straps (s : State) (j : Fin 4) (x : Feeder) :
    (s.setFeeder j x).straps = s.straps := rfl
@[simp] theorem State.setFeeder_pins (s : State) (j : Fin 4) (x : Feeder) : (s.setFeeder j x).pins = s.pins := rfl
@[simp] theorem State.setFeeder_portM (s : State) (j : Fin 4) (x : Feeder) : (s.setFeeder j x).portM = s.portM := rfl
@[simp] theorem State.setFeeder_portF (s : State) (j : Fin 4) (x : Feeder) : (s.setFeeder j x).portF = s.portF := rfl
@[simp] theorem State.setFeeder_breakPending (s : State) (j : Fin 4) (x : Feeder) :
    (s.setFeeder j x).breakPending = s.breakPending := rfl
@[simp] theorem State.setFeeder_relay (s : State) (j : Fin 4) (x : Feeder) : (s.setFeeder j x).relay = s.relay := rfl
@[simp] theorem State.setFeeder_tracker (s : State) (j : Fin 4) (x : Feeder) :
    (s.setFeeder j x).tracker = s.tracker := rfl
@[simp] theorem State.setFeeder_activeTable (s : State) (j : Fin 4) (x : Feeder) :
    (s.setFeeder j x).activeTable = s.activeTable := rfl
@[simp] theorem State.setFeeder_stagedTable (s : State) (j : Fin 4) (x : Feeder) :
    (s.setFeeder j x).stagedTable = s.stagedTable := rfl
@[simp] theorem State.setFeeder_store (s : State) (j : Fin 4) (x : Feeder) : (s.setFeeder j x).store = s.store := rfl
@[simp] theorem State.setFeeder_shortFields (s : State) (j : Fin 4) (x : Feeder) :
    (s.setFeeder j x).shortFields = s.shortFields := rfl
@[simp] theorem State.setFeeder_badFields (s : State) (j : Fin 4) (x : Feeder) :
    (s.setFeeder j x).badFields = s.badFields := rfl
@[simp] theorem State.setFeeder_activeCurves (s : State) (j : Fin 4) (x : Feeder) :
    (s.setFeeder j x).activeCurves = s.activeCurves := rfl
@[simp] theorem State.setFeeder_stagedCurves (s : State) (j : Fin 4) (x : Feeder) :
    (s.setFeeder j x).stagedCurves = s.stagedCurves := rfl
@[simp] theorem State.setFeeder_crushers (s : State) (j : Fin 4) (x : Feeder) :
    (s.setFeeder j x).crushers = s.crushers := rfl
@[simp] theorem State.setFeeder_feeders (s : State) (j : Fin 4) (x : Feeder) :
    (s.setFeeder j x).feeders = s.feeders.set j x := rfl
@[simp] theorem State.setFeeder_lots (s : State) (j : Fin 4) (x : Feeder) : (s.setFeeder j x).lots = s.lots := rfl
@[simp] theorem State.setFeeder_line (s : State) (j : Fin 4) (x : Feeder) : (s.setFeeder j x).line = s.line := rfl
@[simp] theorem State.setFeeder_rewriter (s : State) (j : Fin 4) (x : Feeder) :
    (s.setFeeder j x).rewriter = s.rewriter := rfl
@[simp] theorem State.setFeeder_handler (s : State) (j : Fin 4) (x : Feeder) :
    (s.setFeeder j x).handler = s.handler := rfl
@[simp] theorem State.setFeeder_causes (s : State) (j : Fin 4) (x : Feeder) :
    (s.setFeeder j x).causes = s.causes := rfl
@[simp] theorem State.setFeeder_freeCount (s : State) (j : Fin 4) (x : Feeder) :
    (s.setFeeder j x).freeCount = s.freeCount := rfl
@[simp] theorem State.setFeeder_pending (s : State) (j : Fin 4) (x : Feeder) :
    (s.setFeeder j x).pending = s.pending := rfl

/-! ### The lot tracker replaced -/

@[simp] theorem State.setLots_straps (s : State) (l : LotTracker) : (s.setLots l).straps = s.straps := rfl
@[simp] theorem State.setLots_pins (s : State) (l : LotTracker) : (s.setLots l).pins = s.pins := rfl
@[simp] theorem State.setLots_portM (s : State) (l : LotTracker) : (s.setLots l).portM = s.portM := rfl
@[simp] theorem State.setLots_portF (s : State) (l : LotTracker) : (s.setLots l).portF = s.portF := rfl
@[simp] theorem State.setLots_breakPending (s : State) (l : LotTracker) :
    (s.setLots l).breakPending = s.breakPending := rfl
@[simp] theorem State.setLots_relay (s : State) (l : LotTracker) : (s.setLots l).relay = s.relay := rfl
@[simp] theorem State.setLots_tracker (s : State) (l : LotTracker) : (s.setLots l).tracker = s.tracker := rfl
@[simp] theorem State.setLots_activeTable (s : State) (l : LotTracker) :
    (s.setLots l).activeTable = s.activeTable := rfl
@[simp] theorem State.setLots_stagedTable (s : State) (l : LotTracker) :
    (s.setLots l).stagedTable = s.stagedTable := rfl
@[simp] theorem State.setLots_store (s : State) (l : LotTracker) : (s.setLots l).store = s.store := rfl
@[simp] theorem State.setLots_shortFields (s : State) (l : LotTracker) :
    (s.setLots l).shortFields = s.shortFields := rfl
@[simp] theorem State.setLots_badFields (s : State) (l : LotTracker) : (s.setLots l).badFields = s.badFields := rfl
@[simp] theorem State.setLots_activeCurves (s : State) (l : LotTracker) :
    (s.setLots l).activeCurves = s.activeCurves := rfl
@[simp] theorem State.setLots_stagedCurves (s : State) (l : LotTracker) :
    (s.setLots l).stagedCurves = s.stagedCurves := rfl
@[simp] theorem State.setLots_crushers (s : State) (l : LotTracker) : (s.setLots l).crushers = s.crushers := rfl
@[simp] theorem State.setLots_feeders (s : State) (l : LotTracker) : (s.setLots l).feeders = s.feeders := rfl
@[simp] theorem State.setLots_lots (s : State) (l : LotTracker) : (s.setLots l).lots = l := rfl
@[simp] theorem State.setLots_line (s : State) (l : LotTracker) : (s.setLots l).line = s.line := rfl
@[simp] theorem State.setLots_rewriter (s : State) (l : LotTracker) : (s.setLots l).rewriter = s.rewriter := rfl
@[simp] theorem State.setLots_handler (s : State) (l : LotTracker) : (s.setLots l).handler = s.handler := rfl
@[simp] theorem State.setLots_causes (s : State) (l : LotTracker) : (s.setLots l).causes = s.causes := rfl
@[simp] theorem State.setLots_freeCount (s : State) (l : LotTracker) : (s.setLots l).freeCount = s.freeCount := rfl
@[simp] theorem State.setLots_pending (s : State) (l : LotTracker) : (s.setLots l).pending = s.pending := rfl

/-! ### A port replaced -/

@[simp] theorem State.setPort_straps (s : State) (p : PortId) (x : Port) :
    (s.setPort p x).straps = s.straps := by cases p <;> rfl
@[simp] theorem State.setPort_pins (s : State) (p : PortId) (x : Port) :
    (s.setPort p x).pins = s.pins := by cases p <;> rfl
@[simp] theorem State.setPort_portM (s : State) (p : PortId) (x : Port) :
    (s.setPort p x).portM = (if p = .m then x else s.portM) := by cases p <;> rfl
@[simp] theorem State.setPort_portF (s : State) (p : PortId) (x : Port) :
    (s.setPort p x).portF = (if p = .f then x else s.portF) := by cases p <;> rfl
@[simp] theorem State.setPort_breakPending (s : State) (p : PortId) (x : Port) :
    (s.setPort p x).breakPending = s.breakPending := by cases p <;> rfl
@[simp] theorem State.setPort_relay (s : State) (p : PortId) (x : Port) :
    (s.setPort p x).relay = s.relay := by cases p <;> rfl
@[simp] theorem State.setPort_tracker (s : State) (p : PortId) (x : Port) :
    (s.setPort p x).tracker = s.tracker := by cases p <;> rfl
@[simp] theorem State.setPort_activeTable (s : State) (p : PortId) (x : Port) :
    (s.setPort p x).activeTable = s.activeTable := by cases p <;> rfl
@[simp] theorem State.setPort_stagedTable (s : State) (p : PortId) (x : Port) :
    (s.setPort p x).stagedTable = s.stagedTable := by cases p <;> rfl
@[simp] theorem State.setPort_store (s : State) (p : PortId) (x : Port) :
    (s.setPort p x).store = s.store := by cases p <;> rfl
@[simp] theorem State.setPort_shortFields (s : State) (p : PortId) (x : Port) :
    (s.setPort p x).shortFields = s.shortFields := by cases p <;> rfl
@[simp] theorem State.setPort_badFields (s : State) (p : PortId) (x : Port) :
    (s.setPort p x).badFields = s.badFields := by cases p <;> rfl
@[simp] theorem State.setPort_activeCurves (s : State) (p : PortId) (x : Port) :
    (s.setPort p x).activeCurves = s.activeCurves := by cases p <;> rfl
@[simp] theorem State.setPort_stagedCurves (s : State) (p : PortId) (x : Port) :
    (s.setPort p x).stagedCurves = s.stagedCurves := by cases p <;> rfl
@[simp] theorem State.setPort_crushers (s : State) (p : PortId) (x : Port) :
    (s.setPort p x).crushers = s.crushers := by cases p <;> rfl
@[simp] theorem State.setPort_feeders (s : State) (p : PortId) (x : Port) :
    (s.setPort p x).feeders = s.feeders := by cases p <;> rfl
@[simp] theorem State.setPort_lots (s : State) (p : PortId) (x : Port) :
    (s.setPort p x).lots = s.lots := by cases p <;> rfl
@[simp] theorem State.setPort_line (s : State) (p : PortId) (x : Port) :
    (s.setPort p x).line = s.line := by cases p <;> rfl
@[simp] theorem State.setPort_rewriter (s : State) (p : PortId) (x : Port) :
    (s.setPort p x).rewriter = s.rewriter := by cases p <;> rfl
@[simp] theorem State.setPort_handler (s : State) (p : PortId) (x : Port) :
    (s.setPort p x).handler = s.handler := by cases p <;> rfl
@[simp] theorem State.setPort_causes (s : State) (p : PortId) (x : Port) :
    (s.setPort p x).causes = s.causes := by cases p <;> rfl
@[simp] theorem State.setPort_freeCount (s : State) (p : PortId) (x : Port) :
    (s.setPort p x).freeCount = s.freeCount := by cases p <;> rfl
@[simp] theorem State.setPort_pending (s : State) (p : PortId) (x : Port) :
    (s.setPort p x).pending = s.pending := by cases p <;> rfl

/-! ### A receiver changed -/

@[simp] theorem setRx_straps (p : PortId) (rx : Rx) (s : State) :
    (setRx p rx s).straps = s.straps := by cases p <;> rfl
@[simp] theorem setRx_pins (p : PortId) (rx : Rx) (s : State) : (setRx p rx s).pins = s.pins := by cases p <;> rfl
@[simp] theorem setRx_portM (p : PortId) (rx : Rx) (s : State) :
    (setRx p rx s).portM = (if p = .m then { s.portM with rx := rx } else s.portM) := by cases p <;> rfl
@[simp] theorem setRx_portF (p : PortId) (rx : Rx) (s : State) :
    (setRx p rx s).portF = (if p = .f then { s.portF with rx := rx } else s.portF) := by cases p <;> rfl
@[simp] theorem setRx_breakPending (p : PortId) (rx : Rx) (s : State) :
    (setRx p rx s).breakPending = s.breakPending := by cases p <;> rfl
@[simp] theorem setRx_relay (p : PortId) (rx : Rx) (s : State) : (setRx p rx s).relay = s.relay := by cases p <;> rfl
@[simp] theorem setRx_tracker (p : PortId) (rx : Rx) (s : State) :
    (setRx p rx s).tracker = s.tracker := by cases p <;> rfl
@[simp] theorem setRx_activeTable (p : PortId) (rx : Rx) (s : State) :
    (setRx p rx s).activeTable = s.activeTable := by cases p <;> rfl
@[simp] theorem setRx_stagedTable (p : PortId) (rx : Rx) (s : State) :
    (setRx p rx s).stagedTable = s.stagedTable := by cases p <;> rfl
@[simp] theorem setRx_store (p : PortId) (rx : Rx) (s : State) : (setRx p rx s).store = s.store := by cases p <;> rfl
@[simp] theorem setRx_shortFields (p : PortId) (rx : Rx) (s : State) :
    (setRx p rx s).shortFields = s.shortFields := by cases p <;> rfl
@[simp] theorem setRx_badFields (p : PortId) (rx : Rx) (s : State) :
    (setRx p rx s).badFields = s.badFields := by cases p <;> rfl
@[simp] theorem setRx_activeCurves (p : PortId) (rx : Rx) (s : State) :
    (setRx p rx s).activeCurves = s.activeCurves := by cases p <;> rfl
@[simp] theorem setRx_stagedCurves (p : PortId) (rx : Rx) (s : State) :
    (setRx p rx s).stagedCurves = s.stagedCurves := by cases p <;> rfl
@[simp] theorem setRx_crushers (p : PortId) (rx : Rx) (s : State) :
    (setRx p rx s).crushers = s.crushers := by cases p <;> rfl
@[simp] theorem setRx_feeders (p : PortId) (rx : Rx) (s : State) :
    (setRx p rx s).feeders = s.feeders := by cases p <;> rfl
@[simp] theorem setRx_lots (p : PortId) (rx : Rx) (s : State) : (setRx p rx s).lots = s.lots := by cases p <;> rfl
@[simp] theorem setRx_line (p : PortId) (rx : Rx) (s : State) : (setRx p rx s).line = s.line := by cases p <;> rfl
@[simp] theorem setRx_rewriter (p : PortId) (rx : Rx) (s : State) :
    (setRx p rx s).rewriter = s.rewriter := by cases p <;> rfl
@[simp] theorem setRx_handler (p : PortId) (rx : Rx) (s : State) :
    (setRx p rx s).handler = s.handler := by cases p <;> rfl
@[simp] theorem setRx_causes (p : PortId) (rx : Rx) (s : State) :
    (setRx p rx s).causes = s.causes := by cases p <;> rfl
@[simp] theorem setRx_freeCount (p : PortId) (rx : Rx) (s : State) :
    (setRx p rx s).freeCount = s.freeCount := by cases p <;> rfl
@[simp] theorem setRx_pending (p : PortId) (rx : Rx) (s : State) :
    (setRx p rx s).pending = s.pending := by cases p <;> rfl

/-! ### A cause raised -/

@[simp] theorem raise_straps (x : Cause) (s : State) : (raise x s).straps = s.straps := rfl
@[simp] theorem raise_pins (x : Cause) (s : State) : (raise x s).pins = s.pins := rfl
@[simp] theorem raise_portM (x : Cause) (s : State) : (raise x s).portM = s.portM := rfl
@[simp] theorem raise_portF (x : Cause) (s : State) : (raise x s).portF = s.portF := rfl
@[simp] theorem raise_breakPending (x : Cause) (s : State) : (raise x s).breakPending = s.breakPending := rfl
@[simp] theorem raise_relay (x : Cause) (s : State) : (raise x s).relay = s.relay := rfl
@[simp] theorem raise_tracker (x : Cause) (s : State) : (raise x s).tracker = s.tracker := rfl
@[simp] theorem raise_activeTable (x : Cause) (s : State) : (raise x s).activeTable = s.activeTable := rfl
@[simp] theorem raise_stagedTable (x : Cause) (s : State) : (raise x s).stagedTable = s.stagedTable := rfl
@[simp] theorem raise_store (x : Cause) (s : State) : (raise x s).store = s.store := rfl
@[simp] theorem raise_shortFields (x : Cause) (s : State) : (raise x s).shortFields = s.shortFields := rfl
@[simp] theorem raise_badFields (x : Cause) (s : State) : (raise x s).badFields = s.badFields := rfl
@[simp] theorem raise_activeCurves (x : Cause) (s : State) : (raise x s).activeCurves = s.activeCurves := rfl
@[simp] theorem raise_stagedCurves (x : Cause) (s : State) : (raise x s).stagedCurves = s.stagedCurves := rfl
@[simp] theorem raise_crushers (x : Cause) (s : State) : (raise x s).crushers = s.crushers := rfl
@[simp] theorem raise_feeders (x : Cause) (s : State) : (raise x s).feeders = s.feeders := rfl
@[simp] theorem raise_lots (x : Cause) (s : State) : (raise x s).lots = s.lots := rfl
@[simp] theorem raise_line (x : Cause) (s : State) : (raise x s).line = s.line := rfl
@[simp] theorem raise_rewriter (x : Cause) (s : State) : (raise x s).rewriter = s.rewriter := rfl
@[simp] theorem raise_handler (x : Cause) (s : State) : (raise x s).handler = s.handler := rfl
@[simp] theorem raise_causes (x : Cause) (s : State) : (raise x s).causes = s.causes.raise s.params.causeMask x := rfl
@[simp] theorem raise_freeCount (x : Cause) (s : State) : (raise x s).freeCount = s.freeCount := rfl
@[simp] theorem raise_pending (x : Cause) (s : State) : (raise x s).pending = s.pending := rfl

/-! ### A telegram at the end of the M-bound queue -/

@[simp] theorem State.withReply_straps (s : State) (t : Telegram) : (s.withReply t).straps = s.straps := rfl
@[simp] theorem State.withReply_pins (s : State) (t : Telegram) : (s.withReply t).pins = s.pins := rfl
@[simp] theorem State.withReply_portM (s : State) (t : Telegram) : (s.withReply t).portM = s.portM := rfl
@[simp] theorem State.withReply_portF (s : State) (t : Telegram) : (s.withReply t).portF = s.portF := rfl
@[simp] theorem State.withReply_breakPending (s : State) (t : Telegram) :
    (s.withReply t).breakPending = s.breakPending := rfl
@[simp] theorem State.withReply_relay (s : State) (t : Telegram) :
    (s.withReply t).relay = { s.relay with mBound := s.relay.mBound ++ [t] } := rfl
@[simp] theorem State.withReply_tracker (s : State) (t : Telegram) : (s.withReply t).tracker = s.tracker := rfl
@[simp] theorem State.withReply_activeTable (s : State) (t : Telegram) :
    (s.withReply t).activeTable = s.activeTable := rfl
@[simp] theorem State.withReply_stagedTable (s : State) (t : Telegram) :
    (s.withReply t).stagedTable = s.stagedTable := rfl
@[simp] theorem State.withReply_store (s : State) (t : Telegram) : (s.withReply t).store = s.store := rfl
@[simp] theorem State.withReply_shortFields (s : State) (t : Telegram) :
    (s.withReply t).shortFields = s.shortFields := rfl
@[simp] theorem State.withReply_badFields (s : State) (t : Telegram) : (s.withReply t).badFields = s.badFields := rfl
@[simp] theorem State.withReply_activeCurves (s : State) (t : Telegram) :
    (s.withReply t).activeCurves = s.activeCurves := rfl
@[simp] theorem State.withReply_stagedCurves (s : State) (t : Telegram) :
    (s.withReply t).stagedCurves = s.stagedCurves := rfl
@[simp] theorem State.withReply_crushers (s : State) (t : Telegram) : (s.withReply t).crushers = s.crushers := rfl
@[simp] theorem State.withReply_feeders (s : State) (t : Telegram) : (s.withReply t).feeders = s.feeders := rfl
@[simp] theorem State.withReply_lots (s : State) (t : Telegram) : (s.withReply t).lots = s.lots := rfl
@[simp] theorem State.withReply_line (s : State) (t : Telegram) : (s.withReply t).line = s.line := rfl
@[simp] theorem State.withReply_rewriter (s : State) (t : Telegram) : (s.withReply t).rewriter = s.rewriter := rfl
@[simp] theorem State.withReply_handler (s : State) (t : Telegram) : (s.withReply t).handler = s.handler := rfl
@[simp] theorem State.withReply_causes (s : State) (t : Telegram) : (s.withReply t).causes = s.causes := rfl
@[simp] theorem State.withReply_freeCount (s : State) (t : Telegram) : (s.withReply t).freeCount = s.freeCount := rfl
@[simp] theorem State.withReply_pending (s : State) (t : Telegram) : (s.withReply t).pending = s.pending := rfl

/-! ### A telegram at the end of the F-bound queue -/

@[simp] theorem State.withForward_straps (s : State) (t : Telegram) : (s.withForward t).straps = s.straps := rfl
@[simp] theorem State.withForward_pins (s : State) (t : Telegram) : (s.withForward t).pins = s.pins := rfl
@[simp] theorem State.withForward_portM (s : State) (t : Telegram) : (s.withForward t).portM = s.portM := rfl
@[simp] theorem State.withForward_portF (s : State) (t : Telegram) : (s.withForward t).portF = s.portF := rfl
@[simp] theorem State.withForward_breakPending (s : State) (t : Telegram) :
    (s.withForward t).breakPending = s.breakPending := rfl
@[simp] theorem State.withForward_relay (s : State) (t : Telegram) :
    (s.withForward t).relay = { s.relay with fBound := s.relay.fBound ++ [t] } := rfl
@[simp] theorem State.withForward_tracker (s : State) (t : Telegram) : (s.withForward t).tracker = s.tracker := rfl
@[simp] theorem State.withForward_activeTable (s : State) (t : Telegram) :
    (s.withForward t).activeTable = s.activeTable := rfl
@[simp] theorem State.withForward_stagedTable (s : State) (t : Telegram) :
    (s.withForward t).stagedTable = s.stagedTable := rfl
@[simp] theorem State.withForward_store (s : State) (t : Telegram) : (s.withForward t).store = s.store := rfl
@[simp] theorem State.withForward_shortFields (s : State) (t : Telegram) :
    (s.withForward t).shortFields = s.shortFields := rfl
@[simp] theorem State.withForward_badFields (s : State) (t : Telegram) :
    (s.withForward t).badFields = s.badFields := rfl
@[simp] theorem State.withForward_activeCurves (s : State) (t : Telegram) :
    (s.withForward t).activeCurves = s.activeCurves := rfl
@[simp] theorem State.withForward_stagedCurves (s : State) (t : Telegram) :
    (s.withForward t).stagedCurves = s.stagedCurves := rfl
@[simp] theorem State.withForward_crushers (s : State) (t : Telegram) : (s.withForward t).crushers = s.crushers := rfl
@[simp] theorem State.withForward_feeders (s : State) (t : Telegram) : (s.withForward t).feeders = s.feeders := rfl
@[simp] theorem State.withForward_lots (s : State) (t : Telegram) : (s.withForward t).lots = s.lots := rfl
@[simp] theorem State.withForward_line (s : State) (t : Telegram) : (s.withForward t).line = s.line := rfl
@[simp] theorem State.withForward_rewriter (s : State) (t : Telegram) : (s.withForward t).rewriter = s.rewriter := rfl
@[simp] theorem State.withForward_handler (s : State) (t : Telegram) : (s.withForward t).handler = s.handler := rfl
@[simp] theorem State.withForward_causes (s : State) (t : Telegram) : (s.withForward t).causes = s.causes := rfl
@[simp] theorem State.withForward_freeCount (s : State) (t : Telegram) :
    (s.withForward t).freeCount = s.freeCount := rfl
@[simp] theorem State.withForward_pending (s : State) (t : Telegram) : (s.withForward t).pending = s.pending := rfl

/-! ### Reading back a part that was replaced -/

@[simp] theorem State.crusher_setCrusher (s : State) (k j : Fin 4) (x : Crusher) :
    (s.setCrusher k x).crusher j = if k = j then x else s.crusher j := by
  simp [State.crusher, State.setCrusher, Vector.getElem_set, Fin.ext_iff]

@[simp] theorem State.feeder_setFeeder (s : State) (k j : Fin 4) (x : Feeder) :
    (s.setFeeder k x).feeder j = if k = j then x else s.feeder j := by
  simp [State.feeder, State.setFeeder, Vector.getElem_set, Fin.ext_iff]

@[simp] theorem State.setCrusher_crusher (s : State) (k : Fin 4) : s.setCrusher k (s.crusher k) = s := by
  simp [State.setCrusher, State.crusher]

@[simp] theorem State.setFeeder_feeder (s : State) (j : Fin 4) : s.setFeeder j (s.feeder j) = s := by
  simp [State.setFeeder, State.feeder]

@[simp] theorem State.crusher_setFeeder (s : State) (k j : Fin 4) (x : Feeder) :
    (s.setFeeder k x).crusher j = s.crusher j := rfl

@[simp] theorem State.feeder_setCrusher (s : State) (k j : Fin 4) (x : Crusher) :
    (s.setCrusher k x).feeder j = s.feeder j := rfl

@[simp] theorem State.port_setPort (s : State) (p q : PortId) (x : Port) :
    (s.setPort p x).port q = if p = q then x else s.port q := by
  cases p <;> cases q <;> rfl

@[simp] theorem State.crusher_raise (s : State) (x : Cause) (k : Fin 4) : (raise x s).crusher k = s.crusher k := rfl

@[simp] theorem State.feeder_raise (s : State) (x : Cause) (j : Fin 4) : (raise x s).feeder j = s.feeder j := rfl

@[simp] theorem State.port_raise (s : State) (x : Cause) (p : PortId) : (raise x s).port p = s.port p := by
  cases p <;> rfl

@[simp] theorem State.params_raise (s : State) (x : Cause) : (raise x s).params = s.params := rfl

@[simp] theorem State.params_setCrusher (s : State) (k : Fin 4) (x : Crusher) :
    (s.setCrusher k x).params = s.params := rfl

@[simp] theorem State.params_setFeeder (s : State) (j : Fin 4) (x : Feeder) :
    (s.setFeeder j x).params = s.params := rfl

@[simp] theorem State.params_setLots (s : State) (l : LotTracker) : (s.setLots l).params = s.params := rfl

@[simp] theorem State.params_setPort (s : State) (p : PortId) (x : Port) : (s.setPort p x).params = s.params := by
  cases p <;> rfl

@[simp] theorem State.ownAddress_setPort (s : State) (p : PortId) (x : Port) :
    (s.setPort p x).ownAddress = s.ownAddress := by
  cases p <;> rfl

end Sys2Proof.Machine
end

