-- ==== Sys2Proof/Laws/Causes.lean ====
section
/-!
SUPPORT. What the operations of the cause unit do (Chapter 11), entry by entry.
-/

namespace Sys2Proof.Machine

theorem Cause.index_inj (x y : Cause) : x.index = y.index ↔ x = y := by
  cases x <;> cases y <;> decide

theorem CauseUnit.entry_set (u : CauseUnit) (x y : Cause) (e : CauseEntry) (q : Byte) (a : Bool) (n : Nat) :
    CauseUnit.entry { entries := u.entries.set x.index e, attention := a, sequence := q, rollMisses := n } y =
      if y = x then e else u.entry y := by
  by_cases h : y = x
  · simp [h, CauseUnit.entry]
  · have hi : ¬(x.index : Nat) = y.index := fun hv => h ((Cause.index_inj x y).1 (Fin.ext hv)).symm
    simp [h, CauseUnit.entry, hi]

/-- A raising touches the entry of its cause alone (R187). -/
theorem CauseUnit.entry_raise (u : CauseUnit) (mask : BitVec 14) (x y : Cause) :
    (u.raise mask x).entry y =
      if y = x then
        { pending := true, count := if (u.entry x).pending then countUp255 (u.entry x).count else 1 }
      else u.entry y := by
  unfold CauseUnit.raise
  split <;> simp_all [CauseUnit.entry_set]

/-- A cause that ceases leaves every other entry (R186). -/
theorem CauseUnit.entry_cease (u : CauseUnit) (x y : Cause) :
    (u.cease x).entry y = if y = x then { pending := false, count := 0 } else u.entry y :=
  CauseUnit.entry_set u x y _ _ _ _

@[simp] theorem CauseUnit.attention_cease (u : CauseUnit) (x : Cause) : (u.cease x).attention = u.attention := rfl

@[simp] theorem CauseUnit.sequence_cease (u : CauseUnit) (x : Cause) : (u.cease x).sequence = u.sequence := rfl

@[simp] theorem CauseUnit.rollMisses_cease (u : CauseUnit) (x : Cause) : (u.cease x).rollMisses = u.rollMisses := rfl

@[simp] theorem CauseUnit.rollMisses_raise (u : CauseUnit) (mask : BitVec 14) (x : Cause) :
    (u.raise mask x).rollMisses = u.rollMisses := by
  unfold CauseUnit.raise; split <;> rfl

theorem CauseUnit.ext_entry {u v : CauseUnit} (he : ∀ x, u.entry x = v.entry x) (ha : u.attention = v.attention)
    (hq : u.sequence = v.sequence) (hr : u.rollMisses = v.rollMisses) : u = v := by
  obtain ⟨ue, ua, uq, ur⟩ := u
  obtain ⟨ve, va, vq, vr⟩ := v
  simp only at ha hq hr
  subst ha hq hr
  congr 1
  refine Vector.ext fun n hn => ?_
  have key : ∀ i : Fin 14, ∃ x ∈ allCauses, x.index = i := by decide
  obtain ⟨x, -, hx⟩ := key ⟨n, hn⟩
  have := he x
  simp only [CauseUnit.entry, hx] at this
  exact this

/-! ### Counts (R186) -/

/-- What R186 says of the counts alone: 0 exactly while not pending, and at most 255. -/
structure CauseUnit.Counted (u : CauseUnit) : Prop where
  zero : ∀ x, (u.entry x).count = 0 ↔ (u.entry x).pending = false
  limit : ∀ x, (u.entry x).count ≤ 255

theorem CauseUnit.Counted.raise {u : CauseUnit} (h : u.Counted) (mask : BitVec 14) (x : Cause) :
    (u.raise mask x).Counted := by
  constructor <;> intro y <;> rw [CauseUnit.entry_raise]
  · split
    · simp only [countUp255]; split <;> simp
    · exact h.zero y
  · split
    · simp only [countUp255]; split <;> omega
    · exact h.limit y

theorem CauseUnit.Counted.cease {u : CauseUnit} (h : u.Counted) (x : Cause) : (u.cease x).Counted := by
  constructor <;> intro y <;> rw [CauseUnit.entry_cease]
  · split
    · simp
    · exact h.zero y
  · split
    · simp
    · exact h.limit y

theorem CauseUnit.Counted.raises {u : CauseUnit} (h : u.Counted) (mask : BitVec 14) (l : List Cause) :
    (l.foldl (fun v c => v.raise mask c) u).Counted := by
  induction l generalizing u with
  | nil => exact h
  | cons c rest ih => exact ih (h.raise mask c)

theorem CauseUnit.entry_raises {x : Cause} {l : List Cause} (h : x ∉ l) (u : CauseUnit) (mask : BitVec 14) :
    (l.foldl (fun v c => v.raise mask c) u).entry x = u.entry x := by
  induction l generalizing u with
  | nil => rfl
  | cons c rest ih =>
    simp only [List.mem_cons, not_or] at h
    rw [List.foldl_cons, ih h.2, CauseUnit.entry_raise, if_neg h.1]

theorem Cause.mem_all (x : Cause) : x ∈ allCauses := by cases x <;> decide

end Sys2Proof.Machine
end

