-- ==== Sys2Proof/Laws/Requests.lean ====
section
/-!
SUPPORT. How a request is served, destination by destination (R153, R172, R173), and the relay queues (R151).
-/

namespace Sys2Proof.Machine

/-! ### The relay queues -/

theorem joinReply_of_room {s : State} (t : Telegram) (h : s.relay.mBound.length < 4) :
    joinReply t s = s.withReply t := by
  simp [joinReply, queueSize, h, State.withReply]

theorem joinM_of_room {s : State} (t : Telegram) (h : s.relay.mBound.length < 4) : joinM t s = s.withReply t := by
  simp [joinM, queueSize, h, State.withReply]

theorem joinF_of_room {s : State} (t : Telegram) (h : s.relay.fBound.length < 4) : joinF t s = s.withForward t := by
  simp [joinF, queueSize, h, State.withForward]

/-! ### The end of a session -/

/-- The end of a session touches the request handler alone (R182). -/
theorem endSession_eq (how : SessionEnd) (s : State) :
    endSession how s = { s with handler := (endSession how s).handler } := by
  unfold endSession; split <;> rfl

theorem endSession_of_none {s : State} (how : SessionEnd) (h : s.handler.session = none) : endSession how s = s := by
  simp [endSession, h]

@[simp] theorem endSession_session (how : SessionEnd) (s : State) : (endSession how s).handler.session = none := by
  unfold endSession; split <;> simp_all

@[simp] theorem endSession_params (how : SessionEnd) (s : State) : (endSession how s).params = s.params := by
  unfold endSession; split <;> rfl

@[simp] theorem endSession_dryRun (how : SessionEnd) (s : State) :
    (endSession how s).handler.dryRun = s.handler.dryRun := by
  unfold endSession; split <;> rfl

@[simp] theorem endSession_pendingStation (how : SessionEnd) (s : State) :
    (endSession how s).handler.pendingStation = s.handler.pendingStation := by
  unfold endSession; split <;> rfl

@[simp] theorem endSession_pendingCurve (how : SessionEnd) (s : State) :
    (endSession how s).handler.pendingCurve = s.handler.pendingCurve := by
  unfold endSession; split <;> rfl

@[simp] theorem endSession_handlerParams (how : SessionEnd) (s : State) :
    (endSession how s).handler.params = s.handler.params := by
  unfold endSession; split <;> rfl

/-! ### The state in which a request is judged -/

/-- What a request at the own address finds changed: its own receiver and the session alone (R147, R182). -/
theorem State.asked_eq (s : State) :
    s.asked = { s with portM := { s.portM with rx := .idle }, handler := (endSession .request s).handler } := by
  unfold State.asked endSession
  cases h : s.handler.session <;> simp [h, setRx, State.setPort, State.port]

@[simp] theorem State.asked_straps (s : State) : s.asked.straps = s.straps := by rw [State.asked_eq]
@[simp] theorem State.asked_pins (s : State) : s.asked.pins = s.pins := by rw [State.asked_eq]
@[simp] theorem State.asked_portM (s : State) : s.asked.portM = { s.portM with rx := .idle } := by rw [State.asked_eq]
@[simp] theorem State.asked_portF (s : State) : s.asked.portF = s.portF := by rw [State.asked_eq]
@[simp] theorem State.asked_breakPending (s : State) : s.asked.breakPending = s.breakPending := by rw [State.asked_eq]
@[simp] theorem State.asked_relay (s : State) : s.asked.relay = s.relay := by rw [State.asked_eq]
@[simp] theorem State.asked_tracker (s : State) : s.asked.tracker = s.tracker := by rw [State.asked_eq]
@[simp] theorem State.asked_activeTable (s : State) : s.asked.activeTable = s.activeTable := by rw [State.asked_eq]
@[simp] theorem State.asked_stagedTable (s : State) : s.asked.stagedTable = s.stagedTable := by rw [State.asked_eq]
@[simp] theorem State.asked_store (s : State) : s.asked.store = s.store := by rw [State.asked_eq]
@[simp] theorem State.asked_shortFields (s : State) : s.asked.shortFields = s.shortFields := by rw [State.asked_eq]
@[simp] theorem State.asked_badFields (s : State) : s.asked.badFields = s.badFields := by rw [State.asked_eq]
@[simp] theorem State.asked_activeCurves (s : State) : s.asked.activeCurves = s.activeCurves := by rw [State.asked_eq]
@[simp] theorem State.asked_stagedCurves (s : State) : s.asked.stagedCurves = s.stagedCurves := by rw [State.asked_eq]
@[simp] theorem State.asked_crushers (s : State) : s.asked.crushers = s.crushers := by rw [State.asked_eq]
@[simp] theorem State.asked_feeders (s : State) : s.asked.feeders = s.feeders := by rw [State.asked_eq]
@[simp] theorem State.asked_lots (s : State) : s.asked.lots = s.lots := by rw [State.asked_eq]
@[simp] theorem State.asked_line (s : State) : s.asked.line = s.line := by rw [State.asked_eq]
@[simp] theorem State.asked_rewriter (s : State) : s.asked.rewriter = s.rewriter := by rw [State.asked_eq]
@[simp] theorem State.asked_causes (s : State) : s.asked.causes = s.causes := by rw [State.asked_eq]
@[simp] theorem State.asked_freeCount (s : State) : s.asked.freeCount = s.freeCount := by rw [State.asked_eq]
@[simp] theorem State.asked_pending (s : State) : s.asked.pending = s.pending := by rw [State.asked_eq]

@[simp] theorem State.asked_crusher (s : State) (k : Fin 4) : s.asked.crusher k = s.crusher k := by
  simp [State.crusher]

@[simp] theorem State.asked_feeder (s : State) (j : Fin 4) : s.asked.feeder j = s.feeder j := by
  simp [State.feeder]

@[simp] theorem State.asked_params (s : State) : s.asked.params = s.params := by
  simp [State.asked, State.params]

@[simp] theorem State.asked_dryRun (s : State) : s.asked.handler.dryRun = s.handler.dryRun := by simp [State.asked]

@[simp] theorem State.asked_session (s : State) : s.asked.handler.session = none := by simp [State.asked]

@[simp] theorem State.asked_pendingStation (s : State) :
    s.asked.handler.pendingStation = s.handler.pendingStation := by
  simp [State.asked]

@[simp] theorem State.asked_pendingCurve (s : State) : s.asked.handler.pendingCurve = s.handler.pendingCurve := by
  simp [State.asked]

@[simp] theorem State.asked_ownAddress (s : State) : s.asked.ownAddress = s.ownAddress := by
  simp [State.ownAddress]

/-! ### A request, by its destination -/

theorem Consumes.ne_zero {s : State} {own : Byte} {payload : List Byte} (h : Consumes s own payload) : own ≠ 0 := by
  have ha := h.address
  unfold State.ownAddress at ha
  split at ha
  · cases ha
  · rename_i hn
    rw [not_or] at hn
    cases ha
    intro h0
    exact hn.1 (by bv_omega)

/-- A request at the own address is judged in `State.asked`, and its reply joins the M-bound queue (R153, R155). -/
theorem serve_own {s : State} {own : Byte} {payload : List Byte} (h : Consumes s own payload) (fn : Byte)
    (handed : Bool) (act : List Byte → State → Served) (src : Byte) :
    receiveAt .m payload (serveRequest fn handed act own src payload) s =
      joinReply (replyTelegram own fn (act payload s.asked).result (act payload s.asked).data)
        (act payload s.asked).state := by
  have ho : (setRx .m .idle s).isOwn own = true := by
    have := h.address
    simp only [State.isOwn, setRx, State.ownAddress_setPort, this, beq_self_eq_true]
  simp only [receiveAt, h.fits, if_true, serveRequest, ho, State.asked]

/-- A request at address 0 is acted on if it is handed over, and forwarded (R173). -/
theorem serve_broadcast {s : State} {payload : List Byte} (hf : payload.length ≤ 40) (ho : s.ownAddress ≠ some 0)
    (fn : Byte) (handed : Bool) (act : List Byte → State → Served) (src : Byte) :
    receiveAt .m payload (serveRequest fn handed act 0 src payload) s =
      joinF (Telegram.make .request 0 src fn payload) (if handed then (act payload s.heard).state else s.heard) := by
  have ho : (setRx .m .idle s).isOwn 0 = false := by
    simpa only [State.isOwn, setRx, State.ownAddress_setPort, beq_eq_false_iff_ne] using ho
  simp only [receiveAt, hf, serveRequest, ho, State.heard, if_true, if_false, Bool.false_eq_true]

/-- A request at the group address is acted on in `State.asked` if it is handed over, and forwarded (R173). -/
theorem serve_group {s : State} {dst : Byte} {payload : List Byte} (hf : payload.length ≤ 40)
    (ho : s.ownAddress ≠ some dst) (h0 : dst ≠ 0) (hg : s.params.groupAddress = some dst) (fn : Byte) (handed : Bool)
    (act : List Byte → State → Served) (src : Byte) :
    receiveAt .m payload (serveRequest fn handed act dst src payload) s =
      joinF (Telegram.make .request dst src fn payload) (if handed then (act payload s.asked).state else s.asked) := by
  have ho : (setRx .m .idle s).isOwn dst = false := by
    simpa only [State.isOwn, setRx, State.ownAddress_setPort, beq_eq_false_iff_ne] using ho
  have hg : (setRx .m .idle s).isGroup dst = true := by
    simp only [State.isGroup, setRx, State.params_setPort, hg, beq_self_eq_true]
  simp only [receiveAt, hf, serveRequest, ho, hg, h0, State.asked, if_true, if_false, Bool.false_eq_true]

/-- A request to another station is forwarded, and nothing else (R153). -/
theorem serve_other {s : State} {dst : Byte} {payload : List Byte} (hf : payload.length ≤ 40)
    (ho : s.ownAddress ≠ some dst) (h0 : dst ≠ 0) (hg : s.params.groupAddress ≠ some dst) (fn : Byte) (handed : Bool)
    (act : List Byte → State → Served) (src : Byte) :
    receiveAt .m payload (serveRequest fn handed act dst src payload) s =
      joinF (Telegram.make .request dst src fn payload) s.heard := by
  have ho : (setRx .m .idle s).isOwn dst = false := by
    simpa only [State.isOwn, setRx, State.ownAddress_setPort, beq_eq_false_iff_ne] using ho
  have hg : (setRx .m .idle s).isGroup dst = false := by
    simpa only [State.isGroup, setRx, State.params_setPort, beq_eq_false_iff_ne] using hg
  simp only [receiveAt, hf, serveRequest, ho, hg, h0, State.heard, if_true, if_false, Bool.false_eq_true]

end Sys2Proof.Machine
end

