-- ==== Sys2Proof/Laws/Crushers.lean ====
section
/-!
SUPPORT. What `changeCrusher` does, said once (R46, R58, R92), and how the level causes follow their conditions (R186).
-/

namespace Sys2Proof.Machine

/-! ### Level causes -/

theorem mem_four (k : Fin 4) : k ∈ four := List.mem_finRange k

theorem levelHolds_crusherFault (s : State) :
    levelHolds .crusherFault s = true ↔ ∃ k, (s.crusher k).state = .fault := by
  simp [levelHolds, mem_four]

theorem levelHolds_linerDue (s : State) : levelHolds .linerDue s = true ↔ ∃ k, (s.crusher k).due = true := by
  simp [levelHolds, mem_four]

/-- The conditions of the level causes read the line mode, the mismatch flag, and the state and wear of each crusher. -/
theorem levelHolds_congr {s t : State} (hl : t.line.lineMode = s.line.lineMode) (hm : t.lots.mismatch = s.lots.mismatch)
    (hs : ∀ k, (t.crusher k).state = (s.crusher k).state) (hd : ∀ k, (t.crusher k).due = (s.crusher k).due)
    (x : Cause) : levelHolds x t = levelHolds x s := by
  cases x <;> simp [levelHolds, hl, hm, hs, hd]

theorem Crusher.due_iff (c : Crusher) : c.due = true ↔ c.params.linerLimit ≤ c.wear ∨ c.closeBlocked = true := by
  simp [Crusher.due]

theorem Crusher.due_congr {x y : Crusher} (hp : x.params = y.params) (hw : x.wear = y.wear)
    (hb : x.closeBlocked = y.closeBlocked) : x.due = y.due := by
  simp only [Crusher.due, hp, hw, hb]

/-- A cause that is not pending has count 0, so that ceasing changes nothing. -/
theorem CauseInv.cease_eq {s : State} (h : CauseInv s) {x : Cause} (hx : (s.causes.entry x).pending = false) :
    s.causes.cease x = s.causes := by
  refine CauseUnit.ext_entry (fun y => ?_) rfl rfl rfl
  rw [CauseUnit.entry_cease]
  split
  · subst_vars
    have hc := (h.counts y).2 hx
    cases he : s.causes.entry y
    simp_all
  · rfl

theorem CauseInv.settleLevel_eq {s : State} (h : CauseInv s) {x : Cause} (hl : x.isLevel = true) :
    settleLevel x s = s := by
  unfold settleLevel
  split
  · rfl
  · rw [h.cease_eq (by rw [h.level x hl]; simp_all)]

theorem CauseInv.of_causes_eq {s t : State} (h : CauseInv s) (hc : t.causes = s.causes)
    (hl : ∀ x : Cause, levelHolds x t = levelHolds x s) : CauseInv t := by
  refine ⟨?_, ?_, ?_⟩
  · rw [hc]; exact h.counts
  · rw [hc]; exact h.limit
  · intro x hx; rw [hc, hl x]; exact h.level x hx

theorem CauseInv.asked {s : State} (h : CauseInv s) : CauseInv s.asked :=
  h.of_causes_eq (by simp) (levelHolds_congr (by simp) (by simp) (by simp) (by simp))

/-! ### A crusher context takes a new value -/

/-- The feeders after a crusher context has changed from one state to another (R92). -/
def feedersAfter (s : State) (k : Fin 4) (new : Crusher) : Vector Feeder 4 :=
  if (s.crusher k).state.isRun && !new.state.isRun then
    s.feeders.set k { s.feeder k with output := 0, driveValue := driveValueOf s.activeTable k 0 }
  else s.feeders

theorem settleLevel_eq (x : Cause) (s : State) :
    settleLevel x s = { s with causes := if levelHolds x s then s.causes else s.causes.cease x } := by
  unfold settleLevel; split <;> simp_all

theorem raiseIf_eq (b : Bool) (x : Cause) (s : State) :
    raiseIf b x s = { s with causes := if b then s.causes.raise s.params.causeMask x else s.causes } := by
  cases b <;> rfl

theorem foldl_raise_eq (l : List Cause) (s : State) :
    l.foldl (fun t c => raise c t) s =
      { s with causes := l.foldl (fun u c => u.raise s.params.causeMask c) s.causes } := by
  induction l generalizing s with
  | nil => rfl
  | cons c rest ih => rw [List.foldl_cons, ih]; rfl

/-- The cause unit after a crusher context has taken a new value: the edge causes of the change, then CRUSHER_FAULT and
LINER_DUE as they come or cease (R46, R58). -/
def causesAfter (s : State) (k : Fin 4) (ch : Change) : CauseUnit :=
  let mask := s.params.causeMask
  let after := s.setCrusher k ch.crusher
  let u1 := ch.raises.foldl (fun u c => u.raise mask c) s.causes
  let u2 := if (s.crusher k).state != .fault && ch.crusher.state == .fault then u1.raise mask .crusherFault else u1
  let u3 := if !(s.crusher k).due && ch.crusher.due then u2.raise mask .linerDue else u2
  let u4 := if levelHolds .crusherFault after then u3 else u3.cease .crusherFault
  if levelHolds .linerDue after then u4 else u4.cease .linerDue

/-- A change of one crusher context touches that context, its feeder and the cause unit. -/
theorem changeCrusher_eq (k : Fin 4) (ch : Change) (s : State) :
    changeCrusher k ch s =
      { s with crushers := s.crushers.set k ch.crusher, feeders := feedersAfter s k ch.crusher
               causes := causesAfter s k ch } := by
  unfold changeCrusher
  simp only [foldl_raise_eq, raiseIf_eq, settleLevel_eq]
  split <;> rename_i hz <;> simp only [feedersAfter, causesAfter, hz, if_true, if_false, Bool.false_eq_true] <;> rfl

/-- A change of one crusher context leaves every cause it does not raise, but for CRUSHER_FAULT and LINER_DUE. -/
theorem causesAfter_other {s : State} {k : Fin 4} {ch : Change} {x : Cause} (hr : x ∉ ch.raises)
    (hf : x ≠ .crusherFault) (hd : x ≠ .linerDue) : (causesAfter s k ch).entry x = s.causes.entry x := by
  unfold causesAfter
  simp only [apply_ite (fun u : CauseUnit => u.entry x), CauseUnit.entry_cease, CauseUnit.entry_raise, if_neg hf,
    if_neg hd, CauseUnit.entry_raises hr, ite_self]

theorem CauseInv.counted {s : State} (h : CauseInv s) : s.causes.Counted := ⟨h.counts, h.limit⟩

theorem causesAfter_counted {s : State} (h : s.causes.Counted) (k : Fin 4) (ch : Change) :
    (causesAfter s k ch).Counted := by
  unfold causesAfter
  have h1 := h.raises s.params.causeMask ch.raises
  have h2 (b : Bool) (x : Cause) {u : CauseUnit} (hu : u.Counted) :
      (if b then u.raise s.params.causeMask x else u).Counted := by
    cases b
    · exact hu
    · exact hu.raise _ _
  have h3 (b : Bool) (x : Cause) {u : CauseUnit} (hu : u.Counted) : (if b then u else u.cease x).Counted := by
    cases b
    · exact hu.cease _
    · exact hu
  exact h3 _ _ (h3 _ _ (h2 _ _ (h2 _ _ h1)))

/-- After a change of one crusher context, CRUSHER_FAULT is pending exactly while some crusher is in FAULT. -/
theorem causesAfter_crusherFault {s : State} {k : Fin 4} {ch : Change}
    (h : (s.causes.entry .crusherFault).pending = levelHolds .crusherFault s) (hr : .crusherFault ∉ ch.raises) :
    ((causesAfter s k ch).entry .crusherFault).pending =
      levelHolds .crusherFault (s.setCrusher k ch.crusher) := by
  unfold causesAfter
  simp only [apply_ite (fun u : CauseUnit => u.entry .crusherFault), CauseUnit.entry_cease, CauseUnit.entry_raise,
    CauseUnit.entry_raises hr, reduceCtorEq, if_false, ite_self, if_true]
  by_cases ha : levelHolds .crusherFault (s.setCrusher k ch.crusher) = true
  · rw [ha]
    simp only [if_true]
    split
    · rfl
    · rename_i hn
      rw [h, levelHolds_crusherFault]
      obtain ⟨j, hj⟩ := (levelHolds_crusherFault _).1 ha
      rw [State.crusher_setCrusher] at hj
      split at hj
      · subst_vars
        refine ⟨j, ?_⟩
        simpa [hj] using hn
      · exact ⟨j, hj⟩
  · simp [ha]

/-- After a change of one crusher context, LINER_DUE is pending exactly while some crusher is due. -/
theorem causesAfter_linerDue {s : State} {k : Fin 4} {ch : Change}
    (h : (s.causes.entry .linerDue).pending = levelHolds .linerDue s) (hr : .linerDue ∉ ch.raises) :
    ((causesAfter s k ch).entry .linerDue).pending = levelHolds .linerDue (s.setCrusher k ch.crusher) := by
  unfold causesAfter
  simp only [apply_ite (fun u : CauseUnit => u.entry .linerDue), CauseUnit.entry_cease, CauseUnit.entry_raise,
    CauseUnit.entry_raises hr, reduceCtorEq, if_false, ite_self, if_true]
  by_cases ha : levelHolds .linerDue (s.setCrusher k ch.crusher) = true
  · rw [ha]
    simp only [if_true]
    split
    · rfl
    · rename_i hn
      rw [h, levelHolds_linerDue]
      obtain ⟨j, hj⟩ := (levelHolds_linerDue _).1 ha
      rw [State.crusher_setCrusher] at hj
      split at hj
      · subst_vars
        refine ⟨j, ?_⟩
        simpa [hj] using hn
      · exact ⟨j, hj⟩
  · simp [ha]

/-- A change of one crusher context keeps the causes as R186 says, if it raises edge causes alone. -/
theorem CauseInv.changeCrusher {s : State} (h : CauseInv s) {k : Fin 4} {ch : Change}
    (hr : ∀ x ∈ ch.raises, x.isLevel = false) : CauseInv (Machine.changeCrusher k ch s) := by
  have ht : (Machine.changeCrusher k ch s).causes = causesAfter s k ch := by rw [changeCrusher_eq]
  have hc := causesAfter_counted h.counted k ch
  have hl (x : Cause) : levelHolds x (Machine.changeCrusher k ch s) = levelHolds x (s.setCrusher k ch.crusher) := by
    rw [changeCrusher_eq]; exact levelHolds_congr rfl rfl (fun _ => rfl) (fun _ => rfl) x
  refine ⟨ht ▸ hc.zero, ht ▸ hc.limit, fun x hx => ?_⟩
  have hn : x ∉ ch.raises := fun hm => by simp [hr x hm] at hx
  rw [ht, hl]
  by_cases hf : x = .crusherFault
  · subst hf; exact causesAfter_crusherFault (h.level _ hx) hn
  by_cases hd : x = .linerDue
  · subst hd; exact causesAfter_linerDue (h.level _ hx) hn
  rw [causesAfter_other hn hf hd, h.level x hx]
  cases x <;> first | rfl | (exact absurd rfl hf) | (exact absurd rfl hd)

/-- A change that raises nothing and keeps the crusher's state and wear replaces the context and does nothing else. -/
theorem changeCrusher_quiet {s : State} (h : CauseInv s) {k : Fin 4} {new : Crusher}
    (hs : new.state = (s.crusher k).state) (hd : new.due = (s.crusher k).due) :
    Machine.changeCrusher k (quiet new) s = s.setCrusher k new := by
  have hi : CauseInv (s.setCrusher k new) := by
    refine h.of_causes_eq rfl (levelHolds_congr rfl rfl (fun j => ?_) fun j => ?_) <;>
      rw [State.crusher_setCrusher] <;> split <;> simp_all
  have hf : ((s.crusher k).state != .fault && (s.crusher k).state == .fault) = false := by
    cases (s.crusher k).state <;> rfl
  simp only [Machine.changeCrusher, quiet, hs, hd, List.foldl_nil, raiseIf, Bool.and_not_self, Bool.not_and_self, hf,
    Bool.false_eq_true, if_false, hi.settleLevel_eq (by decide : Cause.isLevel .crusherFault = true),
    hi.settleLevel_eq (by decide : Cause.isLevel .linerDue = true)]

@[simp] theorem retarget_state (css : Nat) (x : Crusher) : (retarget css x).state = x.state := by
  unfold retarget; split <;> rfl

@[simp] theorem retarget_due (css : Nat) (x : Crusher) : (retarget css x).due = x.due := by
  unfold retarget; split <;> rfl

@[simp] theorem enable_due (x : Crusher) : (enable x).due = x.due := by
  unfold enable; split
  · rfl
  · split <;> rfl

@[simp] theorem standDown_due (governed : Bool) (x : Crusher) : (standDown governed x).due = x.due := by
  unfold standDown
  split
  · refine Crusher.due_congr ?_ ?_ ?_ <;> (dsimp only; split <;> (try split) <;> rfl)
  · rfl

end Sys2Proof.Machine
end

