-- ==== Sys2Proof/Laws/Frames.lean ====
section
/-!
SUPPORT. What each shared operation leaves unchanged, field by field. Each lemma is a rewriting rule for every field it
names; a field it does not name is one the operation may change.
-/

namespace Sys2Proof.Machine

/-! ### Operations over several actors -/

/-- What every actor leaves unchanged, the four of them leave unchanged. -/
theorem forFour_keeps {α : Type} (f : State → α) {act : Fin 4 → State → State} (h : ∀ k s, f (act k s) = f s)
    (s : State) : f (forFour act s) = f s := by
  unfold forFour
  induction four generalizing s with
  | nil => rfl
  | cons k rest ih => rw [List.foldl_cons, ih, h]

/-- What every step of a fold leaves unchanged, the fold leaves unchanged. -/
theorem foldl_keeps {α β : Type} (f : State → β) {act : State → α → State} (h : ∀ s a, f (act s a) = f s) (l : List α)
    (s : State) : f (l.foldl act s) = f s := by
  induction l generalizing s with
  | nil => rfl
  | cons a rest ih => rw [List.foldl_cons, ih, h]

/-- What every actor leaves unchanged, the actors leave unchanged in whatever order they act. -/
theorem inFreeOrder_keeps {α β : Type} (f : State → β) {act : α → State → State} (h : ∀ a s, f (act a s) = f s)
    (h0 : ∀ (s : State) (n : Nat), f { s with freeCount := n } = f s) (actors : List α) (s : State) :
    f (inFreeOrder actors act s) = f s := by
  unfold inFreeOrder
  rw [foldl_keeps f (fun t a => h a t), h0]

/-- What a predicate keeps through every actor of a list, it keeps through the list in whatever order they act. -/
theorem shuffle_perm {α : Type} (code : Nat) (l : List α) : (shuffle code l).Perm l := by
  induction l generalizing code with
  | nil => exact .refl _
  | cons x rest ih =>
    cases rest with
    | nil => exact .refl _
    | cons y more =>
      rw [shuffle]
      refine List.perm_middle.trans (.cons x ?_)
      rw [List.take_append_drop]
      exact ih _

/-- An invariant that every actor keeps, the actors keep in whatever order they act. -/
theorem inFreeOrder_induct {α : Type} (P : State → Prop) {actors : List α} {act : α → State → State} {s : State}
    (h0 : P { s with freeCount := s.freeCount + 1 }) (h : ∀ a ∈ actors, ∀ t, P t → P (act a t)) :
    P (inFreeOrder actors act s) := by
  unfold inFreeOrder
  have hmem : ∀ a ∈ shuffle (Config.freeOrder s.freeCount) actors, a ∈ actors := fun a ha =>
    (shuffle_perm _ _).mem_iff.1 ha
  generalize shuffle (Config.freeOrder s.freeCount) actors = order at hmem
  generalize ({ s with freeCount := s.freeCount + 1 } : State) = t at h0
  induction order generalizing t with
  | nil => exact h0
  | cons a rest ih =>
    exact ih (fun b hb => hmem b (List.mem_cons_of_mem _ hb)) _ (h a (hmem a List.mem_cons_self) t h0)

/-- An invariant that every actor keeps, the four of them keep. -/
theorem forFour_induct (P : State → Prop) {act : Fin 4 → State → State} {s : State} (h0 : P s)
    (h : ∀ k t, P t → P (act k t)) : P (forFour act s) := by
  unfold forFour
  induction four generalizing s with
  | nil => exact h0
  | cons k rest ih => exact ih (h k s h0)

/-! ### Causes -/

@[simp] theorem raiseIf_frame (b : Bool) (x : Cause) (s : State) :
    (raiseIf b x s).straps = s.straps ∧ (raiseIf b x s).pins = s.pins ∧ (raiseIf b x s).portM = s.portM ∧
    (raiseIf b x s).portF = s.portF ∧ (raiseIf b x s).breakPending = s.breakPending ∧
    (raiseIf b x s).relay = s.relay ∧ (raiseIf b x s).tracker = s.tracker ∧
    (raiseIf b x s).activeTable = s.activeTable ∧ (raiseIf b x s).stagedTable = s.stagedTable ∧
    (raiseIf b x s).store = s.store ∧ (raiseIf b x s).shortFields = s.shortFields ∧
    (raiseIf b x s).badFields = s.badFields ∧ (raiseIf b x s).activeCurves = s.activeCurves ∧
    (raiseIf b x s).stagedCurves = s.stagedCurves ∧ (raiseIf b x s).crushers = s.crushers ∧
    (raiseIf b x s).feeders = s.feeders ∧ (raiseIf b x s).lots = s.lots ∧ (raiseIf b x s).line = s.line ∧
    (raiseIf b x s).rewriter = s.rewriter ∧ (raiseIf b x s).handler = s.handler ∧
    (raiseIf b x s).freeCount = s.freeCount ∧ (raiseIf b x s).pending = s.pending := by
  cases b <;> simp [raiseIf]

@[simp] theorem raiseTimes_frame (x : Cause) (n : Nat) (s : State) :
    (raiseTimes x n s).straps = s.straps ∧ (raiseTimes x n s).pins = s.pins ∧ (raiseTimes x n s).portM = s.portM ∧
    (raiseTimes x n s).portF = s.portF ∧ (raiseTimes x n s).breakPending = s.breakPending ∧
    (raiseTimes x n s).relay = s.relay ∧ (raiseTimes x n s).tracker = s.tracker ∧
    (raiseTimes x n s).activeTable = s.activeTable ∧ (raiseTimes x n s).stagedTable = s.stagedTable ∧
    (raiseTimes x n s).store = s.store ∧ (raiseTimes x n s).shortFields = s.shortFields ∧
    (raiseTimes x n s).badFields = s.badFields ∧ (raiseTimes x n s).activeCurves = s.activeCurves ∧
    (raiseTimes x n s).stagedCurves = s.stagedCurves ∧ (raiseTimes x n s).crushers = s.crushers ∧
    (raiseTimes x n s).feeders = s.feeders ∧ (raiseTimes x n s).lots = s.lots ∧ (raiseTimes x n s).line = s.line ∧
    (raiseTimes x n s).rewriter = s.rewriter ∧ (raiseTimes x n s).handler = s.handler ∧
    (raiseTimes x n s).freeCount = s.freeCount ∧ (raiseTimes x n s).pending = s.pending := by
  induction n generalizing s with
  | zero => simp [raiseTimes]
  | succ n ih => simp [raiseTimes, ih]

@[simp] theorem settleLevel_frame (x : Cause) (s : State) :
    (settleLevel x s).straps = s.straps ∧ (settleLevel x s).pins = s.pins ∧ (settleLevel x s).portM = s.portM ∧
    (settleLevel x s).portF = s.portF ∧ (settleLevel x s).breakPending = s.breakPending ∧
    (settleLevel x s).relay = s.relay ∧ (settleLevel x s).tracker = s.tracker ∧
    (settleLevel x s).activeTable = s.activeTable ∧ (settleLevel x s).stagedTable = s.stagedTable ∧
    (settleLevel x s).store = s.store ∧ (settleLevel x s).shortFields = s.shortFields ∧
    (settleLevel x s).badFields = s.badFields ∧ (settleLevel x s).activeCurves = s.activeCurves ∧
    (settleLevel x s).stagedCurves = s.stagedCurves ∧ (settleLevel x s).crushers = s.crushers ∧
    (settleLevel x s).feeders = s.feeders ∧ (settleLevel x s).lots = s.lots ∧ (settleLevel x s).line = s.line ∧
    (settleLevel x s).rewriter = s.rewriter ∧ (settleLevel x s).handler = s.handler ∧
    (settleLevel x s).freeCount = s.freeCount ∧ (settleLevel x s).pending = s.pending := by
  unfold settleLevel
  split <;> simp

@[simp] theorem clearCauses_frame (s : State) :
    (clearCauses s).straps = s.straps ∧ (clearCauses s).pins = s.pins ∧ (clearCauses s).portM = s.portM ∧
    (clearCauses s).portF = s.portF ∧ (clearCauses s).breakPending = s.breakPending ∧
    (clearCauses s).relay = s.relay ∧ (clearCauses s).tracker = s.tracker ∧
    (clearCauses s).activeTable = s.activeTable ∧ (clearCauses s).stagedTable = s.stagedTable ∧
    (clearCauses s).store = s.store ∧ (clearCauses s).shortFields = s.shortFields ∧
    (clearCauses s).badFields = s.badFields ∧ (clearCauses s).activeCurves = s.activeCurves ∧
    (clearCauses s).stagedCurves = s.stagedCurves ∧ (clearCauses s).crushers = s.crushers ∧
    (clearCauses s).feeders = s.feeders ∧ (clearCauses s).lots = s.lots ∧ (clearCauses s).line = s.line ∧
    (clearCauses s).rewriter = s.rewriter ∧ (clearCauses s).handler = s.handler ∧
    (clearCauses s).freeCount = s.freeCount ∧ (clearCauses s).pending = s.pending :=
  ⟨foldl_keeps State.straps (by simp) _ _, foldl_keeps State.pins (by simp) _ _,
    foldl_keeps State.portM (by simp) _ _, foldl_keeps State.portF (by simp) _ _,
    foldl_keeps State.breakPending (by simp) _ _, foldl_keeps State.relay (by simp) _ _,
    foldl_keeps State.tracker (by simp) _ _, foldl_keeps State.activeTable (by simp) _ _,
    foldl_keeps State.stagedTable (by simp) _ _, foldl_keeps State.store (by simp) _ _,
    foldl_keeps State.shortFields (by simp) _ _, foldl_keeps State.badFields (by simp) _ _,
    foldl_keeps State.activeCurves (by simp) _ _, foldl_keeps State.stagedCurves (by simp) _ _,
    foldl_keeps State.crushers (by simp) _ _, foldl_keeps State.feeders (by simp) _ _,
    foldl_keeps State.lots (by simp) _ _, foldl_keeps State.line (by simp) _ _,
    foldl_keeps State.rewriter (by simp) _ _, foldl_keeps State.handler (by simp) _ _,
    foldl_keeps State.freeCount (by simp) _ _, foldl_keeps State.pending (by simp) _ _⟩

/-! ### Feeders -/

@[simp] theorem zeroFeeder_frame (j : Fin 4) (s : State) :
    (zeroFeeder j s).straps = s.straps ∧ (zeroFeeder j s).pins = s.pins ∧ (zeroFeeder j s).portM = s.portM ∧
    (zeroFeeder j s).portF = s.portF ∧ (zeroFeeder j s).breakPending = s.breakPending ∧
    (zeroFeeder j s).relay = s.relay ∧ (zeroFeeder j s).tracker = s.tracker ∧
    (zeroFeeder j s).activeTable = s.activeTable ∧ (zeroFeeder j s).stagedTable = s.stagedTable ∧
    (zeroFeeder j s).store = s.store ∧ (zeroFeeder j s).shortFields = s.shortFields ∧
    (zeroFeeder j s).badFields = s.badFields ∧ (zeroFeeder j s).activeCurves = s.activeCurves ∧
    (zeroFeeder j s).stagedCurves = s.stagedCurves ∧ (zeroFeeder j s).crushers = s.crushers ∧
    (zeroFeeder j s).lots = s.lots ∧ (zeroFeeder j s).line = s.line ∧ (zeroFeeder j s).rewriter = s.rewriter ∧
    (zeroFeeder j s).handler = s.handler ∧ (zeroFeeder j s).causes = s.causes ∧
    (zeroFeeder j s).freeCount = s.freeCount ∧ (zeroFeeder j s).pending = s.pending := by
  simp [zeroFeeder]

@[simp] theorem zeroFeeders_frame (s : State) :
    (zeroFeeders s).straps = s.straps ∧ (zeroFeeders s).pins = s.pins ∧ (zeroFeeders s).portM = s.portM ∧
    (zeroFeeders s).portF = s.portF ∧ (zeroFeeders s).breakPending = s.breakPending ∧
    (zeroFeeders s).relay = s.relay ∧ (zeroFeeders s).tracker = s.tracker ∧
    (zeroFeeders s).activeTable = s.activeTable ∧ (zeroFeeders s).stagedTable = s.stagedTable ∧
    (zeroFeeders s).store = s.store ∧ (zeroFeeders s).shortFields = s.shortFields ∧
    (zeroFeeders s).badFields = s.badFields ∧ (zeroFeeders s).activeCurves = s.activeCurves ∧
    (zeroFeeders s).stagedCurves = s.stagedCurves ∧ (zeroFeeders s).crushers = s.crushers ∧
    (zeroFeeders s).lots = s.lots ∧ (zeroFeeders s).line = s.line ∧ (zeroFeeders s).rewriter = s.rewriter ∧
    (zeroFeeders s).handler = s.handler ∧ (zeroFeeders s).causes = s.causes ∧
    (zeroFeeders s).freeCount = s.freeCount ∧ (zeroFeeders s).pending = s.pending :=
  ⟨forFour_keeps State.straps (by simp) _, forFour_keeps State.pins (by simp) _,
    forFour_keeps State.portM (by simp) _, forFour_keeps State.portF (by simp) _,
    forFour_keeps State.breakPending (by simp) _, forFour_keeps State.relay (by simp) _,
    forFour_keeps State.tracker (by simp) _, forFour_keeps State.activeTable (by simp) _,
    forFour_keeps State.stagedTable (by simp) _, forFour_keeps State.store (by simp) _,
    forFour_keeps State.shortFields (by simp) _, forFour_keeps State.badFields (by simp) _,
    forFour_keeps State.activeCurves (by simp) _, forFour_keeps State.stagedCurves (by simp) _,
    forFour_keeps State.crushers (by simp) _, forFour_keeps State.lots (by simp) _,
    forFour_keeps State.line (by simp) _, forFour_keeps State.rewriter (by simp) _,
    forFour_keeps State.handler (by simp) _, forFour_keeps State.causes (by simp) _,
    forFour_keeps State.freeCount (by simp) _, forFour_keeps State.pending (by simp) _⟩

@[simp] theorem refreshDrive_frame (j : Fin 4) (s : State) :
    (refreshDrive j s).straps = s.straps ∧ (refreshDrive j s).pins = s.pins ∧ (refreshDrive j s).portM = s.portM ∧
    (refreshDrive j s).portF = s.portF ∧ (refreshDrive j s).breakPending = s.breakPending ∧
    (refreshDrive j s).relay = s.relay ∧ (refreshDrive j s).tracker = s.tracker ∧
    (refreshDrive j s).activeTable = s.activeTable ∧ (refreshDrive j s).stagedTable = s.stagedTable ∧
    (refreshDrive j s).store = s.store ∧ (refreshDrive j s).shortFields = s.shortFields ∧
    (refreshDrive j s).badFields = s.badFields ∧ (refreshDrive j s).activeCurves = s.activeCurves ∧
    (refreshDrive j s).stagedCurves = s.stagedCurves ∧ (refreshDrive j s).crushers = s.crushers ∧
    (refreshDrive j s).lots = s.lots ∧ (refreshDrive j s).line = s.line ∧
    (refreshDrive j s).rewriter = s.rewriter ∧ (refreshDrive j s).handler = s.handler ∧
    (refreshDrive j s).causes = s.causes ∧ (refreshDrive j s).freeCount = s.freeCount ∧
    (refreshDrive j s).pending = s.pending := by
  simp [refreshDrive]

@[simp] theorem computeFeeder_frame (j : Fin 4) (s : State) :
    (computeFeeder j s).straps = s.straps ∧ (computeFeeder j s).pins = s.pins ∧
    (computeFeeder j s).portM = s.portM ∧ (computeFeeder j s).portF = s.portF ∧
    (computeFeeder j s).breakPending = s.breakPending ∧ (computeFeeder j s).relay = s.relay ∧
    (computeFeeder j s).tracker = s.tracker ∧ (computeFeeder j s).activeTable = s.activeTable ∧
    (computeFeeder j s).stagedTable = s.stagedTable ∧ (computeFeeder j s).store = s.store ∧
    (computeFeeder j s).shortFields = s.shortFields ∧ (computeFeeder j s).badFields = s.badFields ∧
    (computeFeeder j s).activeCurves = s.activeCurves ∧ (computeFeeder j s).stagedCurves = s.stagedCurves ∧
    (computeFeeder j s).crushers = s.crushers ∧ (computeFeeder j s).lots = s.lots ∧
    (computeFeeder j s).line = s.line ∧ (computeFeeder j s).rewriter = s.rewriter ∧
    (computeFeeder j s).handler = s.handler ∧ (computeFeeder j s).freeCount = s.freeCount ∧
    (computeFeeder j s).pending = s.pending := by
  simp [computeFeeder]

/-! ### Crushers -/

@[simp] theorem changeCrusher_frame (k : Fin 4) (ch : Change) (s : State) :
    (changeCrusher k ch s).straps = s.straps ∧ (changeCrusher k ch s).pins = s.pins ∧
    (changeCrusher k ch s).portM = s.portM ∧ (changeCrusher k ch s).portF = s.portF ∧
    (changeCrusher k ch s).breakPending = s.breakPending ∧ (changeCrusher k ch s).relay = s.relay ∧
    (changeCrusher k ch s).tracker = s.tracker ∧ (changeCrusher k ch s).activeTable = s.activeTable ∧
    (changeCrusher k ch s).stagedTable = s.stagedTable ∧ (changeCrusher k ch s).store = s.store ∧
    (changeCrusher k ch s).shortFields = s.shortFields ∧ (changeCrusher k ch s).badFields = s.badFields ∧
    (changeCrusher k ch s).activeCurves = s.activeCurves ∧ (changeCrusher k ch s).stagedCurves = s.stagedCurves ∧
    (changeCrusher k ch s).lots = s.lots ∧ (changeCrusher k ch s).line = s.line ∧
    (changeCrusher k ch s).rewriter = s.rewriter ∧ (changeCrusher k ch s).handler = s.handler ∧
    (changeCrusher k ch s).freeCount = s.freeCount ∧ (changeCrusher k ch s).pending = s.pending := by
  rw [changeCrusher_eq]
  simp

@[simp] theorem pressureArrival_frame (k : Fin 4) (s : State) :
    (pressureArrival k s).straps = s.straps ∧ (pressureArrival k s).pins = s.pins ∧
    (pressureArrival k s).portM = s.portM ∧ (pressureArrival k s).portF = s.portF ∧
    (pressureArrival k s).breakPending = s.breakPending ∧ (pressureArrival k s).relay = s.relay ∧
    (pressureArrival k s).tracker = s.tracker ∧ (pressureArrival k s).activeTable = s.activeTable ∧
    (pressureArrival k s).stagedTable = s.stagedTable ∧ (pressureArrival k s).store = s.store ∧
    (pressureArrival k s).shortFields = s.shortFields ∧ (pressureArrival k s).badFields = s.badFields ∧
    (pressureArrival k s).activeCurves = s.activeCurves ∧ (pressureArrival k s).stagedCurves = s.stagedCurves ∧
    (pressureArrival k s).lots = s.lots ∧ (pressureArrival k s).line = s.line ∧
    (pressureArrival k s).rewriter = s.rewriter ∧ (pressureArrival k s).handler = s.handler ∧
    (pressureArrival k s).freeCount = s.freeCount ∧ (pressureArrival k s).pending = s.pending := by
  unfold pressureArrival
  split <;> simp

@[simp] theorem actuatorArrival_frame (k : Fin 4) (s : State) :
    (actuatorArrival k s).straps = s.straps ∧ (actuatorArrival k s).pins = s.pins ∧
    (actuatorArrival k s).portM = s.portM ∧ (actuatorArrival k s).portF = s.portF ∧
    (actuatorArrival k s).breakPending = s.breakPending ∧ (actuatorArrival k s).relay = s.relay ∧
    (actuatorArrival k s).tracker = s.tracker ∧ (actuatorArrival k s).activeTable = s.activeTable ∧
    (actuatorArrival k s).stagedTable = s.stagedTable ∧ (actuatorArrival k s).store = s.store ∧
    (actuatorArrival k s).shortFields = s.shortFields ∧ (actuatorArrival k s).badFields = s.badFields ∧
    (actuatorArrival k s).activeCurves = s.activeCurves ∧ (actuatorArrival k s).stagedCurves = s.stagedCurves ∧
    (actuatorArrival k s).lots = s.lots ∧ (actuatorArrival k s).line = s.line ∧
    (actuatorArrival k s).rewriter = s.rewriter ∧ (actuatorArrival k s).handler = s.handler ∧
    (actuatorArrival k s).freeCount = s.freeCount ∧ (actuatorArrival k s).pending = s.pending := by
  unfold actuatorArrival
  split <;> simp

@[simp] theorem gapOf_frame (k : Fin 4) (s : State) :
    (gapOf k s).straps = s.straps ∧ (gapOf k s).pins = s.pins ∧ (gapOf k s).portM = s.portM ∧
    (gapOf k s).portF = s.portF ∧ (gapOf k s).breakPending = s.breakPending ∧ (gapOf k s).relay = s.relay ∧
    (gapOf k s).tracker = s.tracker ∧ (gapOf k s).activeTable = s.activeTable ∧
    (gapOf k s).stagedTable = s.stagedTable ∧ (gapOf k s).store = s.store ∧
    (gapOf k s).shortFields = s.shortFields ∧ (gapOf k s).badFields = s.badFields ∧
    (gapOf k s).activeCurves = s.activeCurves ∧ (gapOf k s).stagedCurves = s.stagedCurves ∧
    (gapOf k s).lots = s.lots ∧ (gapOf k s).line = s.line ∧ (gapOf k s).rewriter = s.rewriter ∧
    (gapOf k s).handler = s.handler ∧ (gapOf k s).freeCount = s.freeCount ∧ (gapOf k s).pending = s.pending := by
  simp [gapOf]

@[simp] theorem powerArrival_frame (k : Fin 4) (s : State) :
    (powerArrival k s).straps = s.straps ∧ (powerArrival k s).pins = s.pins ∧ (powerArrival k s).portM = s.portM ∧
    (powerArrival k s).portF = s.portF ∧ (powerArrival k s).breakPending = s.breakPending ∧
    (powerArrival k s).relay = s.relay ∧ (powerArrival k s).tracker = s.tracker ∧
    (powerArrival k s).activeTable = s.activeTable ∧ (powerArrival k s).stagedTable = s.stagedTable ∧
    (powerArrival k s).store = s.store ∧ (powerArrival k s).shortFields = s.shortFields ∧
    (powerArrival k s).badFields = s.badFields ∧ (powerArrival k s).activeCurves = s.activeCurves ∧
    (powerArrival k s).stagedCurves = s.stagedCurves ∧ (powerArrival k s).lots = s.lots ∧
    (powerArrival k s).line = s.line ∧ (powerArrival k s).rewriter = s.rewriter ∧
    (powerArrival k s).handler = s.handler ∧ (powerArrival k s).freeCount = s.freeCount ∧
    (powerArrival k s).pending = s.pending := by
  simp [powerArrival]

@[simp] theorem cycleCrushers_frame (s : State) :
    (cycleCrushers s).straps = s.straps ∧ (cycleCrushers s).pins = s.pins ∧ (cycleCrushers s).portM = s.portM ∧
    (cycleCrushers s).portF = s.portF ∧ (cycleCrushers s).breakPending = s.breakPending ∧
    (cycleCrushers s).relay = s.relay ∧ (cycleCrushers s).tracker = s.tracker ∧
    (cycleCrushers s).activeTable = s.activeTable ∧ (cycleCrushers s).stagedTable = s.stagedTable ∧
    (cycleCrushers s).store = s.store ∧ (cycleCrushers s).shortFields = s.shortFields ∧
    (cycleCrushers s).badFields = s.badFields ∧ (cycleCrushers s).activeCurves = s.activeCurves ∧
    (cycleCrushers s).stagedCurves = s.stagedCurves ∧ (cycleCrushers s).lots = s.lots ∧
    (cycleCrushers s).line = s.line ∧ (cycleCrushers s).rewriter = s.rewriter ∧
    (cycleCrushers s).handler = s.handler ∧ (cycleCrushers s).freeCount = s.freeCount ∧
    (cycleCrushers s).pending = s.pending :=
  ⟨forFour_keeps State.straps (by simp) _, forFour_keeps State.pins (by simp) _,
    forFour_keeps State.portM (by simp) _, forFour_keeps State.portF (by simp) _,
    forFour_keeps State.breakPending (by simp) _, forFour_keeps State.relay (by simp) _,
    forFour_keeps State.tracker (by simp) _, forFour_keeps State.activeTable (by simp) _,
    forFour_keeps State.stagedTable (by simp) _, forFour_keeps State.store (by simp) _,
    forFour_keeps State.shortFields (by simp) _, forFour_keeps State.badFields (by simp) _,
    forFour_keeps State.activeCurves (by simp) _, forFour_keeps State.stagedCurves (by simp) _,
    forFour_keeps State.lots (by simp) _, forFour_keeps State.line (by simp) _,
    forFour_keeps State.rewriter (by simp) _, forFour_keeps State.handler (by simp) _,
    forFour_keeps State.freeCount (by simp) _, forFour_keeps State.pending (by simp) _⟩

@[simp] theorem signalCrushers_frame (s : State) :
    (signalCrushers s).straps = s.straps ∧ (signalCrushers s).pins = s.pins ∧ (signalCrushers s).portM = s.portM ∧
    (signalCrushers s).portF = s.portF ∧ (signalCrushers s).breakPending = s.breakPending ∧
    (signalCrushers s).relay = s.relay ∧ (signalCrushers s).tracker = s.tracker ∧
    (signalCrushers s).activeTable = s.activeTable ∧ (signalCrushers s).stagedTable = s.stagedTable ∧
    (signalCrushers s).store = s.store ∧ (signalCrushers s).shortFields = s.shortFields ∧
    (signalCrushers s).badFields = s.badFields ∧ (signalCrushers s).activeCurves = s.activeCurves ∧
    (signalCrushers s).stagedCurves = s.stagedCurves ∧ (signalCrushers s).lots = s.lots ∧
    (signalCrushers s).line = s.line ∧ (signalCrushers s).rewriter = s.rewriter ∧
    (signalCrushers s).handler = s.handler ∧ (signalCrushers s).freeCount = s.freeCount ∧
    (signalCrushers s).pending = s.pending :=
  ⟨forFour_keeps State.straps (by simp) _, forFour_keeps State.pins (by simp) _,
    forFour_keeps State.portM (by simp) _, forFour_keeps State.portF (by simp) _,
    forFour_keeps State.breakPending (by simp) _, forFour_keeps State.relay (by simp) _,
    forFour_keeps State.tracker (by simp) _, forFour_keeps State.activeTable (by simp) _,
    forFour_keeps State.stagedTable (by simp) _, forFour_keeps State.store (by simp) _,
    forFour_keeps State.shortFields (by simp) _, forFour_keeps State.badFields (by simp) _,
    forFour_keeps State.activeCurves (by simp) _, forFour_keeps State.stagedCurves (by simp) _,
    forFour_keeps State.lots (by simp) _, forFour_keeps State.line (by simp) _,
    forFour_keeps State.rewriter (by simp) _, forFour_keeps State.handler (by simp) _,
    forFour_keeps State.freeCount (by simp) _, forFour_keeps State.pending (by simp) _⟩

@[simp] theorem restartCrushers_frame (s : State) :
    (restartCrushers s).straps = s.straps ∧ (restartCrushers s).pins = s.pins ∧
    (restartCrushers s).portM = s.portM ∧ (restartCrushers s).portF = s.portF ∧
    (restartCrushers s).breakPending = s.breakPending ∧ (restartCrushers s).relay = s.relay ∧
    (restartCrushers s).tracker = s.tracker ∧ (restartCrushers s).activeTable = s.activeTable ∧
    (restartCrushers s).stagedTable = s.stagedTable ∧ (restartCrushers s).store = s.store ∧
    (restartCrushers s).shortFields = s.shortFields ∧ (restartCrushers s).badFields = s.badFields ∧
    (restartCrushers s).activeCurves = s.activeCurves ∧ (restartCrushers s).stagedCurves = s.stagedCurves ∧
    (restartCrushers s).lots = s.lots ∧ (restartCrushers s).line = s.line ∧
    (restartCrushers s).rewriter = s.rewriter ∧ (restartCrushers s).handler = s.handler ∧
    (restartCrushers s).freeCount = s.freeCount ∧ (restartCrushers s).pending = s.pending :=
  ⟨forFour_keeps State.straps (by simp) _, forFour_keeps State.pins (by simp) _,
    forFour_keeps State.portM (by simp) _, forFour_keeps State.portF (by simp) _,
    forFour_keeps State.breakPending (by simp) _, forFour_keeps State.relay (by simp) _,
    forFour_keeps State.tracker (by simp) _, forFour_keeps State.activeTable (by simp) _,
    forFour_keeps State.stagedTable (by simp) _, forFour_keeps State.store (by simp) _,
    forFour_keeps State.shortFields (by simp) _, forFour_keeps State.badFields (by simp) _,
    forFour_keeps State.activeCurves (by simp) _, forFour_keeps State.stagedCurves (by simp) _,
    forFour_keeps State.lots (by simp) _, forFour_keeps State.line (by simp) _,
    forFour_keeps State.rewriter (by simp) _, forFour_keeps State.handler (by simp) _,
    forFour_keeps State.freeCount (by simp) _, forFour_keeps State.pending (by simp) _⟩

/-! ### Line mode -/

@[simp] theorem changeMode_frame (mode : LineMode) (s : State) :
    (changeMode mode s).straps = s.straps ∧ (changeMode mode s).portM = s.portM ∧
    (changeMode mode s).portF = s.portF ∧ (changeMode mode s).breakPending = s.breakPending ∧
    (changeMode mode s).relay = s.relay ∧ (changeMode mode s).tracker = s.tracker ∧
    (changeMode mode s).activeTable = s.activeTable ∧ (changeMode mode s).stagedTable = s.stagedTable ∧
    (changeMode mode s).store = s.store ∧ (changeMode mode s).shortFields = s.shortFields ∧
    (changeMode mode s).badFields = s.badFields ∧ (changeMode mode s).activeCurves = s.activeCurves ∧
    (changeMode mode s).stagedCurves = s.stagedCurves ∧ (changeMode mode s).lots = s.lots ∧
    (changeMode mode s).rewriter = s.rewriter ∧ (changeMode mode s).handler = s.handler ∧
    (changeMode mode s).freeCount = s.freeCount ∧ (changeMode mode s).pending = s.pending := by
  unfold changeMode
  dsimp only
  split <;> split <;> simp

@[simp] theorem discardStop_frame (how : StopEnd) (s : State) :
    (discardStop how s).straps = s.straps ∧ (discardStop how s).pins = s.pins ∧
    (discardStop how s).portM = s.portM ∧ (discardStop how s).portF = s.portF ∧
    (discardStop how s).breakPending = s.breakPending ∧ (discardStop how s).relay = s.relay ∧
    (discardStop how s).tracker = s.tracker ∧ (discardStop how s).activeTable = s.activeTable ∧
    (discardStop how s).stagedTable = s.stagedTable ∧ (discardStop how s).store = s.store ∧
    (discardStop how s).shortFields = s.shortFields ∧ (discardStop how s).badFields = s.badFields ∧
    (discardStop how s).activeCurves = s.activeCurves ∧ (discardStop how s).stagedCurves = s.stagedCurves ∧
    (discardStop how s).crushers = s.crushers ∧ (discardStop how s).feeders = s.feeders ∧
    (discardStop how s).lots = s.lots ∧ (discardStop how s).rewriter = s.rewriter ∧
    (discardStop how s).handler = s.handler ∧ (discardStop how s).causes = s.causes ∧
    (discardStop how s).freeCount = s.freeCount ∧ (discardStop how s).pending = s.pending := by
  unfold discardStop
  split <;> simp

@[simp] theorem enterTripped_frame (a : TripInputs) (s : State) :
    (enterTripped a s).straps = s.straps ∧ (enterTripped a s).portM = s.portM ∧
    (enterTripped a s).portF = s.portF ∧ (enterTripped a s).breakPending = s.breakPending ∧
    (enterTripped a s).relay = s.relay ∧ (enterTripped a s).tracker = s.tracker ∧
    (enterTripped a s).activeTable = s.activeTable ∧ (enterTripped a s).stagedTable = s.stagedTable ∧
    (enterTripped a s).store = s.store ∧ (enterTripped a s).shortFields = s.shortFields ∧
    (enterTripped a s).badFields = s.badFields ∧ (enterTripped a s).activeCurves = s.activeCurves ∧
    (enterTripped a s).stagedCurves = s.stagedCurves ∧ (enterTripped a s).lots = s.lots ∧
    (enterTripped a s).rewriter = s.rewriter ∧ (enterTripped a s).handler = s.handler ∧
    (enterTripped a s).freeCount = s.freeCount ∧ (enterTripped a s).pending = s.pending := by
  simp [enterTripped]

@[simp] theorem addTripInputs_frame (a : TripInputs) (s : State) :
    (addTripInputs a s).straps = s.straps ∧ (addTripInputs a s).pins = s.pins ∧
    (addTripInputs a s).portM = s.portM ∧ (addTripInputs a s).portF = s.portF ∧
    (addTripInputs a s).breakPending = s.breakPending ∧ (addTripInputs a s).relay = s.relay ∧
    (addTripInputs a s).tracker = s.tracker ∧ (addTripInputs a s).activeTable = s.activeTable ∧
    (addTripInputs a s).stagedTable = s.stagedTable ∧ (addTripInputs a s).store = s.store ∧
    (addTripInputs a s).shortFields = s.shortFields ∧ (addTripInputs a s).badFields = s.badFields ∧
    (addTripInputs a s).activeCurves = s.activeCurves ∧ (addTripInputs a s).stagedCurves = s.stagedCurves ∧
    (addTripInputs a s).crushers = s.crushers ∧ (addTripInputs a s).feeders = s.feeders ∧
    (addTripInputs a s).lots = s.lots ∧ (addTripInputs a s).rewriter = s.rewriter ∧
    (addTripInputs a s).handler = s.handler ∧ (addTripInputs a s).causes = s.causes ∧
    (addTripInputs a s).freeCount = s.freeCount ∧ (addTripInputs a s).pending = s.pending := by
  simp [addTripInputs]

@[simp] theorem takeTripInputs_frame (a : TripInputs) (s : State) :
    (takeTripInputs a s).straps = s.straps ∧ (takeTripInputs a s).portM = s.portM ∧
    (takeTripInputs a s).portF = s.portF ∧ (takeTripInputs a s).breakPending = s.breakPending ∧
    (takeTripInputs a s).relay = s.relay ∧ (takeTripInputs a s).tracker = s.tracker ∧
    (takeTripInputs a s).activeTable = s.activeTable ∧ (takeTripInputs a s).stagedTable = s.stagedTable ∧
    (takeTripInputs a s).store = s.store ∧ (takeTripInputs a s).shortFields = s.shortFields ∧
    (takeTripInputs a s).badFields = s.badFields ∧ (takeTripInputs a s).activeCurves = s.activeCurves ∧
    (takeTripInputs a s).stagedCurves = s.stagedCurves ∧ (takeTripInputs a s).lots = s.lots ∧
    (takeTripInputs a s).rewriter = s.rewriter ∧ (takeTripInputs a s).handler = s.handler ∧
    (takeTripInputs a s).freeCount = s.freeCount ∧ (takeTripInputs a s).pending = s.pending := by
  unfold takeTripInputs
  repeat' split
  all_goals simp

@[simp] theorem evaluateTrip_frame (s : State) :
    (evaluateTrip s).straps = s.straps ∧ (evaluateTrip s).portM = s.portM ∧ (evaluateTrip s).portF = s.portF ∧
    (evaluateTrip s).breakPending = s.breakPending ∧ (evaluateTrip s).relay = s.relay ∧
    (evaluateTrip s).tracker = s.tracker ∧ (evaluateTrip s).activeTable = s.activeTable ∧
    (evaluateTrip s).stagedTable = s.stagedTable ∧ (evaluateTrip s).store = s.store ∧
    (evaluateTrip s).shortFields = s.shortFields ∧ (evaluateTrip s).badFields = s.badFields ∧
    (evaluateTrip s).activeCurves = s.activeCurves ∧ (evaluateTrip s).stagedCurves = s.stagedCurves ∧
    (evaluateTrip s).lots = s.lots ∧ (evaluateTrip s).rewriter = s.rewriter ∧
    (evaluateTrip s).handler = s.handler ∧ (evaluateTrip s).freeCount = s.freeCount ∧
    (evaluateTrip s).pending = s.pending := by
  simp [evaluateTrip]

@[simp] theorem endStop_frame (how : StopEnd) (s : State) :
    (endStop how s).straps = s.straps ∧ (endStop how s).portM = s.portM ∧ (endStop how s).portF = s.portF ∧
    (endStop how s).breakPending = s.breakPending ∧ (endStop how s).relay = s.relay ∧
    (endStop how s).tracker = s.tracker ∧ (endStop how s).activeTable = s.activeTable ∧
    (endStop how s).stagedTable = s.stagedTable ∧ (endStop how s).store = s.store ∧
    (endStop how s).shortFields = s.shortFields ∧ (endStop how s).badFields = s.badFields ∧
    (endStop how s).activeCurves = s.activeCurves ∧ (endStop how s).stagedCurves = s.stagedCurves ∧
    (endStop how s).lots = s.lots ∧ (endStop how s).rewriter = s.rewriter ∧ (endStop how s).handler = s.handler ∧
    (endStop how s).freeCount = s.freeCount ∧ (endStop how s).pending = s.pending := by
  simp [endStop]

@[simp] theorem retirementTest_frame (s : State) :
    (retirementTest s).straps = s.straps ∧ (retirementTest s).portM = s.portM ∧
    (retirementTest s).portF = s.portF ∧ (retirementTest s).breakPending = s.breakPending ∧
    (retirementTest s).relay = s.relay ∧ (retirementTest s).tracker = s.tracker ∧
    (retirementTest s).activeTable = s.activeTable ∧ (retirementTest s).stagedTable = s.stagedTable ∧
    (retirementTest s).store = s.store ∧ (retirementTest s).shortFields = s.shortFields ∧
    (retirementTest s).badFields = s.badFields ∧ (retirementTest s).activeCurves = s.activeCurves ∧
    (retirementTest s).stagedCurves = s.stagedCurves ∧ (retirementTest s).lots = s.lots ∧
    (retirementTest s).rewriter = s.rewriter ∧ (retirementTest s).handler = s.handler ∧
    (retirementTest s).freeCount = s.freeCount ∧ (retirementTest s).pending = s.pending := by
  unfold retirementTest
  split <;> simp

@[simp] theorem cycleLine_frame (s : State) :
    (cycleLine s).straps = s.straps ∧ (cycleLine s).portM = s.portM ∧ (cycleLine s).portF = s.portF ∧
    (cycleLine s).breakPending = s.breakPending ∧ (cycleLine s).relay = s.relay ∧
    (cycleLine s).tracker = s.tracker ∧ (cycleLine s).activeTable = s.activeTable ∧
    (cycleLine s).stagedTable = s.stagedTable ∧ (cycleLine s).store = s.store ∧
    (cycleLine s).shortFields = s.shortFields ∧ (cycleLine s).badFields = s.badFields ∧
    (cycleLine s).activeCurves = s.activeCurves ∧ (cycleLine s).stagedCurves = s.stagedCurves ∧
    (cycleLine s).lots = s.lots ∧ (cycleLine s).rewriter = s.rewriter ∧ (cycleLine s).handler = s.handler ∧
    (cycleLine s).freeCount = s.freeCount ∧ (cycleLine s).pending = s.pending := by
  unfold cycleLine
  repeat' split
  all_goals simp

@[simp] theorem lineAcquired_frame (s : State) :
    (lineAcquired s).straps = s.straps ∧ (lineAcquired s).portM = s.portM ∧ (lineAcquired s).portF = s.portF ∧
    (lineAcquired s).breakPending = s.breakPending ∧ (lineAcquired s).relay = s.relay ∧
    (lineAcquired s).tracker = s.tracker ∧ (lineAcquired s).activeTable = s.activeTable ∧
    (lineAcquired s).stagedTable = s.stagedTable ∧ (lineAcquired s).store = s.store ∧
    (lineAcquired s).shortFields = s.shortFields ∧ (lineAcquired s).badFields = s.badFields ∧
    (lineAcquired s).activeCurves = s.activeCurves ∧ (lineAcquired s).stagedCurves = s.stagedCurves ∧
    (lineAcquired s).lots = s.lots ∧ (lineAcquired s).rewriter = s.rewriter ∧
    (lineAcquired s).handler = s.handler ∧ (lineAcquired s).freeCount = s.freeCount ∧
    (lineAcquired s).pending = s.pending := by
  unfold lineAcquired
  split <;> simp

@[simp] theorem lineLockLost_frame (s : State) :
    (lineLockLost s).straps = s.straps ∧ (lineLockLost s).portM = s.portM ∧ (lineLockLost s).portF = s.portF ∧
    (lineLockLost s).breakPending = s.breakPending ∧ (lineLockLost s).relay = s.relay ∧
    (lineLockLost s).tracker = s.tracker ∧ (lineLockLost s).activeTable = s.activeTable ∧
    (lineLockLost s).stagedTable = s.stagedTable ∧ (lineLockLost s).store = s.store ∧
    (lineLockLost s).shortFields = s.shortFields ∧ (lineLockLost s).badFields = s.badFields ∧
    (lineLockLost s).activeCurves = s.activeCurves ∧ (lineLockLost s).stagedCurves = s.stagedCurves ∧
    (lineLockLost s).lots = s.lots ∧ (lineLockLost s).rewriter = s.rewriter ∧
    (lineLockLost s).handler = s.handler ∧ (lineLockLost s).freeCount = s.freeCount ∧
    (lineLockLost s).pending = s.pending := by
  unfold lineLockLost
  split <;> simp

@[simp] theorem lineRestart_frame (s : State) :
    (lineRestart s).straps = s.straps ∧ (lineRestart s).portM = s.portM ∧ (lineRestart s).portF = s.portF ∧
    (lineRestart s).breakPending = s.breakPending ∧ (lineRestart s).relay = s.relay ∧
    (lineRestart s).tracker = s.tracker ∧ (lineRestart s).activeTable = s.activeTable ∧
    (lineRestart s).stagedTable = s.stagedTable ∧ (lineRestart s).store = s.store ∧
    (lineRestart s).shortFields = s.shortFields ∧ (lineRestart s).badFields = s.badFields ∧
    (lineRestart s).activeCurves = s.activeCurves ∧ (lineRestart s).stagedCurves = s.stagedCurves ∧
    (lineRestart s).lots = s.lots ∧ (lineRestart s).rewriter = s.rewriter ∧ (lineRestart s).handler = s.handler ∧
    (lineRestart s).freeCount = s.freeCount ∧ (lineRestart s).pending = s.pending := by
  unfold lineRestart
  dsimp only
  split <;> simp

/-! ### Lots -/

@[simp] theorem lotEvents_frame (s : State) :
    (lotEvents s).straps = s.straps ∧ (lotEvents s).portM = s.portM ∧ (lotEvents s).portF = s.portF ∧
    (lotEvents s).breakPending = s.breakPending ∧ (lotEvents s).relay = s.relay ∧
    (lotEvents s).tracker = s.tracker ∧ (lotEvents s).activeTable = s.activeTable ∧
    (lotEvents s).stagedTable = s.stagedTable ∧ (lotEvents s).store = s.store ∧
    (lotEvents s).shortFields = s.shortFields ∧ (lotEvents s).badFields = s.badFields ∧
    (lotEvents s).activeCurves = s.activeCurves ∧ (lotEvents s).stagedCurves = s.stagedCurves ∧
    (lotEvents s).rewriter = s.rewriter ∧ (lotEvents s).handler = s.handler ∧
    (lotEvents s).freeCount = s.freeCount ∧ (lotEvents s).pending = s.pending := by
  unfold lotEvents
  dsimp only
  split <;> simp

@[simp] theorem travelArrival_frame (d : Nat) (s : State) :
    (travelArrival d s).straps = s.straps ∧ (travelArrival d s).portM = s.portM ∧
    (travelArrival d s).portF = s.portF ∧ (travelArrival d s).breakPending = s.breakPending ∧
    (travelArrival d s).relay = s.relay ∧ (travelArrival d s).tracker = s.tracker ∧
    (travelArrival d s).activeTable = s.activeTable ∧ (travelArrival d s).stagedTable = s.stagedTable ∧
    (travelArrival d s).store = s.store ∧ (travelArrival d s).shortFields = s.shortFields ∧
    (travelArrival d s).badFields = s.badFields ∧ (travelArrival d s).activeCurves = s.activeCurves ∧
    (travelArrival d s).stagedCurves = s.stagedCurves ∧ (travelArrival d s).rewriter = s.rewriter ∧
    (travelArrival d s).handler = s.handler ∧ (travelArrival d s).freeCount = s.freeCount ∧
    (travelArrival d s).pending = s.pending := by
  unfold travelArrival
  repeat' split
  all_goals simp

@[simp] theorem placeWeigh_frame (w : Long) (s : State) :
    (placeWeigh w s).straps = s.straps ∧ (placeWeigh w s).pins = s.pins ∧ (placeWeigh w s).portM = s.portM ∧
    (placeWeigh w s).portF = s.portF ∧ (placeWeigh w s).breakPending = s.breakPending ∧
    (placeWeigh w s).relay = s.relay ∧ (placeWeigh w s).tracker = s.tracker ∧
    (placeWeigh w s).activeTable = s.activeTable ∧ (placeWeigh w s).stagedTable = s.stagedTable ∧
    (placeWeigh w s).store = s.store ∧ (placeWeigh w s).shortFields = s.shortFields ∧
    (placeWeigh w s).badFields = s.badFields ∧ (placeWeigh w s).activeCurves = s.activeCurves ∧
    (placeWeigh w s).stagedCurves = s.stagedCurves ∧ (placeWeigh w s).crushers = s.crushers ∧
    (placeWeigh w s).feeders = s.feeders ∧ (placeWeigh w s).line = s.line ∧
    (placeWeigh w s).rewriter = s.rewriter ∧ (placeWeigh w s).handler = s.handler ∧
    (placeWeigh w s).freeCount = s.freeCount ∧ (placeWeigh w s).pending = s.pending := by
  unfold placeWeigh
  dsimp only
  repeat' split
  all_goals simp

@[simp] theorem weighArrival_frame (w : Nat) (s : State) :
    (weighArrival w s).straps = s.straps ∧ (weighArrival w s).pins = s.pins ∧ (weighArrival w s).portM = s.portM ∧
    (weighArrival w s).portF = s.portF ∧ (weighArrival w s).breakPending = s.breakPending ∧
    (weighArrival w s).relay = s.relay ∧ (weighArrival w s).tracker = s.tracker ∧
    (weighArrival w s).activeTable = s.activeTable ∧ (weighArrival w s).stagedTable = s.stagedTable ∧
    (weighArrival w s).store = s.store ∧ (weighArrival w s).shortFields = s.shortFields ∧
    (weighArrival w s).badFields = s.badFields ∧ (weighArrival w s).activeCurves = s.activeCurves ∧
    (weighArrival w s).stagedCurves = s.stagedCurves ∧ (weighArrival w s).crushers = s.crushers ∧
    (weighArrival w s).feeders = s.feeders ∧ (weighArrival w s).line = s.line ∧
    (weighArrival w s).rewriter = s.rewriter ∧ (weighArrival w s).handler = s.handler ∧
    (weighArrival w s).freeCount = s.freeCount ∧ (weighArrival w s).pending = s.pending := by
  unfold weighArrival
  dsimp only
  repeat' split
  all_goals simp

@[simp] theorem metalArrival_frame (h : Nat) (s : State) :
    (metalArrival h s).straps = s.straps ∧ (metalArrival h s).pins = s.pins ∧ (metalArrival h s).portM = s.portM ∧
    (metalArrival h s).portF = s.portF ∧ (metalArrival h s).breakPending = s.breakPending ∧
    (metalArrival h s).relay = s.relay ∧ (metalArrival h s).tracker = s.tracker ∧
    (metalArrival h s).activeTable = s.activeTable ∧ (metalArrival h s).stagedTable = s.stagedTable ∧
    (metalArrival h s).store = s.store ∧ (metalArrival h s).shortFields = s.shortFields ∧
    (metalArrival h s).badFields = s.badFields ∧ (metalArrival h s).activeCurves = s.activeCurves ∧
    (metalArrival h s).stagedCurves = s.stagedCurves ∧ (metalArrival h s).crushers = s.crushers ∧
    (metalArrival h s).feeders = s.feeders ∧ (metalArrival h s).line = s.line ∧
    (metalArrival h s).rewriter = s.rewriter ∧ (metalArrival h s).handler = s.handler ∧
    (metalArrival h s).freeCount = s.freeCount ∧ (metalArrival h s).pending = s.pending := by
  unfold metalArrival
  dsimp only
  repeat' split
  all_goals simp

@[simp] theorem totalArrival_frame (n : Nat) (s : State) :
    (totalArrival n s).straps = s.straps ∧ (totalArrival n s).pins = s.pins ∧ (totalArrival n s).portM = s.portM ∧
    (totalArrival n s).portF = s.portF ∧ (totalArrival n s).breakPending = s.breakPending ∧
    (totalArrival n s).relay = s.relay ∧ (totalArrival n s).tracker = s.tracker ∧
    (totalArrival n s).activeTable = s.activeTable ∧ (totalArrival n s).stagedTable = s.stagedTable ∧
    (totalArrival n s).store = s.store ∧ (totalArrival n s).shortFields = s.shortFields ∧
    (totalArrival n s).badFields = s.badFields ∧ (totalArrival n s).activeCurves = s.activeCurves ∧
    (totalArrival n s).stagedCurves = s.stagedCurves ∧ (totalArrival n s).crushers = s.crushers ∧
    (totalArrival n s).feeders = s.feeders ∧ (totalArrival n s).line = s.line ∧
    (totalArrival n s).rewriter = s.rewriter ∧ (totalArrival n s).handler = s.handler ∧
    (totalArrival n s).causes = s.causes ∧ (totalArrival n s).freeCount = s.freeCount ∧
    (totalArrival n s).pending = s.pending := by
  unfold totalArrival
  dsimp only
  split <;> simp

@[simp] theorem levelArrival_frame (s : State) :
    (levelArrival s).straps = s.straps ∧ (levelArrival s).pins = s.pins ∧ (levelArrival s).portM = s.portM ∧
    (levelArrival s).portF = s.portF ∧ (levelArrival s).breakPending = s.breakPending ∧
    (levelArrival s).relay = s.relay ∧ (levelArrival s).tracker = s.tracker ∧
    (levelArrival s).activeTable = s.activeTable ∧ (levelArrival s).stagedTable = s.stagedTable ∧
    (levelArrival s).store = s.store ∧ (levelArrival s).shortFields = s.shortFields ∧
    (levelArrival s).badFields = s.badFields ∧ (levelArrival s).activeCurves = s.activeCurves ∧
    (levelArrival s).stagedCurves = s.stagedCurves ∧ (levelArrival s).crushers = s.crushers ∧
    (levelArrival s).feeders = s.feeders ∧ (levelArrival s).line = s.line ∧
    (levelArrival s).rewriter = s.rewriter ∧ (levelArrival s).handler = s.handler ∧
    (levelArrival s).causes = s.causes ∧ (levelArrival s).freeCount = s.freeCount ∧
    (levelArrival s).pending = s.pending := by
  unfold levelArrival
  split <;> simp

@[simp] theorem cycleConfirm_frame (s : State) :
    (cycleConfirm s).straps = s.straps ∧ (cycleConfirm s).pins = s.pins ∧ (cycleConfirm s).portM = s.portM ∧
    (cycleConfirm s).portF = s.portF ∧ (cycleConfirm s).breakPending = s.breakPending ∧
    (cycleConfirm s).relay = s.relay ∧ (cycleConfirm s).tracker = s.tracker ∧
    (cycleConfirm s).activeTable = s.activeTable ∧ (cycleConfirm s).stagedTable = s.stagedTable ∧
    (cycleConfirm s).store = s.store ∧ (cycleConfirm s).shortFields = s.shortFields ∧
    (cycleConfirm s).badFields = s.badFields ∧ (cycleConfirm s).activeCurves = s.activeCurves ∧
    (cycleConfirm s).stagedCurves = s.stagedCurves ∧ (cycleConfirm s).crushers = s.crushers ∧
    (cycleConfirm s).feeders = s.feeders ∧ (cycleConfirm s).line = s.line ∧
    (cycleConfirm s).rewriter = s.rewriter ∧ (cycleConfirm s).handler = s.handler ∧
    (cycleConfirm s).freeCount = s.freeCount ∧ (cycleConfirm s).pending = s.pending := by
  unfold cycleConfirm
  dsimp only
  split <;> simp

/-! ### The store -/

@[simp] theorem deliverArrival_frame (a : Arrival) (s : State) :
    (deliverArrival a s).straps = s.straps ∧ (deliverArrival a s).portM = s.portM ∧
    (deliverArrival a s).portF = s.portF ∧ (deliverArrival a s).breakPending = s.breakPending ∧
    (deliverArrival a s).relay = s.relay ∧ (deliverArrival a s).tracker = s.tracker ∧
    (deliverArrival a s).activeTable = s.activeTable ∧ (deliverArrival a s).stagedTable = s.stagedTable ∧
    (deliverArrival a s).store = s.store ∧ (deliverArrival a s).shortFields = s.shortFields ∧
    (deliverArrival a s).badFields = s.badFields ∧ (deliverArrival a s).activeCurves = s.activeCurves ∧
    (deliverArrival a s).stagedCurves = s.stagedCurves ∧ (deliverArrival a s).rewriter = s.rewriter ∧
    (deliverArrival a s).handler = s.handler ∧ (deliverArrival a s).freeCount = s.freeCount ∧
    (deliverArrival a s).pending = s.pending := by
  unfold deliverArrival
  split <;> simp

@[simp] theorem storeReply_frame (t : Telegram) (s : State) :
    (storeReply t s).straps = s.straps ∧ (storeReply t s).pins = s.pins ∧ (storeReply t s).portM = s.portM ∧
    (storeReply t s).portF = s.portF ∧ (storeReply t s).breakPending = s.breakPending ∧
    (storeReply t s).relay = s.relay ∧ (storeReply t s).tracker = s.tracker ∧
    (storeReply t s).activeTable = s.activeTable ∧ (storeReply t s).stagedTable = s.stagedTable ∧
    (storeReply t s).activeCurves = s.activeCurves ∧ (storeReply t s).stagedCurves = s.stagedCurves ∧
    (storeReply t s).crushers = s.crushers ∧ (storeReply t s).feeders = s.feeders ∧
    (storeReply t s).lots = s.lots ∧ (storeReply t s).line = s.line ∧ (storeReply t s).rewriter = s.rewriter ∧
    (storeReply t s).handler = s.handler ∧ (storeReply t s).causes = s.causes ∧
    (storeReply t s).freeCount = s.freeCount ∧ (storeReply t s).pending = s.pending := by
  simp [storeReply]

@[simp] theorem deliverAll_frame (l : List Arrival) (s : State) :
    (l.foldl (fun u a => deliverArrival a u) s).straps = s.straps ∧
    (l.foldl (fun u a => deliverArrival a u) s).portM = s.portM ∧
    (l.foldl (fun u a => deliverArrival a u) s).portF = s.portF ∧
    (l.foldl (fun u a => deliverArrival a u) s).breakPending = s.breakPending ∧
    (l.foldl (fun u a => deliverArrival a u) s).relay = s.relay ∧
    (l.foldl (fun u a => deliverArrival a u) s).tracker = s.tracker ∧
    (l.foldl (fun u a => deliverArrival a u) s).activeTable = s.activeTable ∧
    (l.foldl (fun u a => deliverArrival a u) s).stagedTable = s.stagedTable ∧
    (l.foldl (fun u a => deliverArrival a u) s).store = s.store ∧
    (l.foldl (fun u a => deliverArrival a u) s).shortFields = s.shortFields ∧
    (l.foldl (fun u a => deliverArrival a u) s).badFields = s.badFields ∧
    (l.foldl (fun u a => deliverArrival a u) s).activeCurves = s.activeCurves ∧
    (l.foldl (fun u a => deliverArrival a u) s).stagedCurves = s.stagedCurves ∧
    (l.foldl (fun u a => deliverArrival a u) s).rewriter = s.rewriter ∧
    (l.foldl (fun u a => deliverArrival a u) s).handler = s.handler ∧
    (l.foldl (fun u a => deliverArrival a u) s).freeCount = s.freeCount ∧
    (l.foldl (fun u a => deliverArrival a u) s).pending = s.pending :=
  ⟨foldl_keeps State.straps (by simp) _ _, foldl_keeps State.portM (by simp) _ _,
    foldl_keeps State.portF (by simp) _ _, foldl_keeps State.breakPending (by simp) _ _,
    foldl_keeps State.relay (by simp) _ _, foldl_keeps State.tracker (by simp) _ _,
    foldl_keeps State.activeTable (by simp) _ _, foldl_keeps State.stagedTable (by simp) _ _,
    foldl_keeps State.store (by simp) _ _, foldl_keeps State.shortFields (by simp) _ _,
    foldl_keeps State.badFields (by simp) _ _, foldl_keeps State.activeCurves (by simp) _ _,
    foldl_keeps State.stagedCurves (by simp) _ _, foldl_keeps State.rewriter (by simp) _ _,
    foldl_keeps State.handler (by simp) _ _, foldl_keeps State.freeCount (by simp) _ _,
    foldl_keeps State.pending (by simp) _ _⟩

@[simp] theorem observe_frame (t : Telegram) (s : State) :
    (observe t s).straps = s.straps ∧ (observe t s).portM = s.portM ∧ (observe t s).portF = s.portF ∧
    (observe t s).breakPending = s.breakPending ∧ (observe t s).relay = s.relay ∧
    (observe t s).tracker = s.tracker ∧ (observe t s).activeTable = s.activeTable ∧
    (observe t s).stagedTable = s.stagedTable ∧ (observe t s).activeCurves = s.activeCurves ∧
    (observe t s).stagedCurves = s.stagedCurves ∧ (observe t s).rewriter = s.rewriter ∧
    (observe t s).handler = s.handler ∧ (observe t s).freeCount = s.freeCount ∧ (observe t s).pending = s.pending := by
  unfold observe
  split <;> simp

@[simp] theorem noticeStale_frame (i : Fin 32) (s : State) :
    (noticeStale i s).straps = s.straps ∧ (noticeStale i s).portM = s.portM ∧ (noticeStale i s).portF = s.portF ∧
    (noticeStale i s).breakPending = s.breakPending ∧ (noticeStale i s).relay = s.relay ∧
    (noticeStale i s).tracker = s.tracker ∧ (noticeStale i s).activeTable = s.activeTable ∧
    (noticeStale i s).stagedTable = s.stagedTable ∧ (noticeStale i s).store = s.store ∧
    (noticeStale i s).shortFields = s.shortFields ∧ (noticeStale i s).badFields = s.badFields ∧
    (noticeStale i s).activeCurves = s.activeCurves ∧ (noticeStale i s).stagedCurves = s.stagedCurves ∧
    (noticeStale i s).lots = s.lots ∧ (noticeStale i s).rewriter = s.rewriter ∧
    (noticeStale i s).handler = s.handler ∧ (noticeStale i s).freeCount = s.freeCount ∧
    (noticeStale i s).pending = s.pending := by
  unfold noticeStale
  repeat' split
  all_goals simp

@[simp] theorem noticeStales_frame (l : List (Fin 32)) (s : State) :
    (inFreeOrder l noticeStale s).straps = s.straps ∧ (inFreeOrder l noticeStale s).portM = s.portM ∧
    (inFreeOrder l noticeStale s).portF = s.portF ∧ (inFreeOrder l noticeStale s).breakPending = s.breakPending ∧
    (inFreeOrder l noticeStale s).relay = s.relay ∧ (inFreeOrder l noticeStale s).tracker = s.tracker ∧
    (inFreeOrder l noticeStale s).activeTable = s.activeTable ∧
    (inFreeOrder l noticeStale s).stagedTable = s.stagedTable ∧ (inFreeOrder l noticeStale s).store = s.store ∧
    (inFreeOrder l noticeStale s).shortFields = s.shortFields ∧
    (inFreeOrder l noticeStale s).badFields = s.badFields ∧
    (inFreeOrder l noticeStale s).activeCurves = s.activeCurves ∧
    (inFreeOrder l noticeStale s).stagedCurves = s.stagedCurves ∧ (inFreeOrder l noticeStale s).lots = s.lots ∧
    (inFreeOrder l noticeStale s).rewriter = s.rewriter ∧ (inFreeOrder l noticeStale s).handler = s.handler ∧
    (inFreeOrder l noticeStale s).pending = s.pending :=
  ⟨inFreeOrder_keeps State.straps (by simp) (by simp) _ _, inFreeOrder_keeps State.portM (by simp) (by simp) _ _,
    inFreeOrder_keeps State.portF (by simp) (by simp) _ _,
    inFreeOrder_keeps State.breakPending (by simp) (by simp) _ _,
    inFreeOrder_keeps State.relay (by simp) (by simp) _ _, inFreeOrder_keeps State.tracker (by simp) (by simp) _ _,
    inFreeOrder_keeps State.activeTable (by simp) (by simp) _ _,
    inFreeOrder_keeps State.stagedTable (by simp) (by simp) _ _,
    inFreeOrder_keeps State.store (by simp) (by simp) _ _,
    inFreeOrder_keeps State.shortFields (by simp) (by simp) _ _,
    inFreeOrder_keeps State.badFields (by simp) (by simp) _ _,
    inFreeOrder_keeps State.activeCurves (by simp) (by simp) _ _,
    inFreeOrder_keeps State.stagedCurves (by simp) (by simp) _ _,
    inFreeOrder_keeps State.lots (by simp) (by simp) _ _, inFreeOrder_keeps State.rewriter (by simp) (by simp) _ _,
    inFreeOrder_keeps State.handler (by simp) (by simp) _ _,
    inFreeOrder_keeps State.pending (by simp) (by simp) _ _⟩

@[simp] theorem cycleStore_frame (s : State) :
    (cycleStore s).straps = s.straps ∧ (cycleStore s).portM = s.portM ∧ (cycleStore s).portF = s.portF ∧
    (cycleStore s).breakPending = s.breakPending ∧ (cycleStore s).relay = s.relay ∧
    (cycleStore s).tracker = s.tracker ∧ (cycleStore s).activeTable = s.activeTable ∧
    (cycleStore s).stagedTable = s.stagedTable ∧ (cycleStore s).shortFields = s.shortFields ∧
    (cycleStore s).badFields = s.badFields ∧ (cycleStore s).activeCurves = s.activeCurves ∧
    (cycleStore s).stagedCurves = s.stagedCurves ∧ (cycleStore s).lots = s.lots ∧
    (cycleStore s).rewriter = s.rewriter ∧ (cycleStore s).handler = s.handler ∧ (cycleStore s).pending = s.pending := by
  simp [cycleStore]

@[simp] theorem staleAll_frame (s : State) :
    (staleAll s).straps = s.straps ∧ (staleAll s).pins = s.pins ∧ (staleAll s).portM = s.portM ∧
    (staleAll s).portF = s.portF ∧ (staleAll s).breakPending = s.breakPending ∧ (staleAll s).relay = s.relay ∧
    (staleAll s).tracker = s.tracker ∧ (staleAll s).activeTable = s.activeTable ∧
    (staleAll s).stagedTable = s.stagedTable ∧ (staleAll s).shortFields = s.shortFields ∧
    (staleAll s).badFields = s.badFields ∧ (staleAll s).activeCurves = s.activeCurves ∧
    (staleAll s).stagedCurves = s.stagedCurves ∧ (staleAll s).crushers = s.crushers ∧
    (staleAll s).feeders = s.feeders ∧ (staleAll s).lots = s.lots ∧ (staleAll s).line = s.line ∧
    (staleAll s).rewriter = s.rewriter ∧ (staleAll s).handler = s.handler ∧ (staleAll s).causes = s.causes ∧
    (staleAll s).freeCount = s.freeCount ∧ (staleAll s).pending = s.pending := by
  simp [staleAll]

@[simp] theorem noticeAll_frame (s : State) :
    (noticeAll s).straps = s.straps ∧ (noticeAll s).portM = s.portM ∧ (noticeAll s).portF = s.portF ∧
    (noticeAll s).breakPending = s.breakPending ∧ (noticeAll s).relay = s.relay ∧
    (noticeAll s).tracker = s.tracker ∧ (noticeAll s).activeTable = s.activeTable ∧
    (noticeAll s).stagedTable = s.stagedTable ∧ (noticeAll s).store = s.store ∧
    (noticeAll s).shortFields = s.shortFields ∧ (noticeAll s).badFields = s.badFields ∧
    (noticeAll s).activeCurves = s.activeCurves ∧ (noticeAll s).stagedCurves = s.stagedCurves ∧
    (noticeAll s).lots = s.lots ∧ (noticeAll s).rewriter = s.rewriter ∧ (noticeAll s).handler = s.handler ∧
    (noticeAll s).pending = s.pending := by
  simp [noticeAll]

@[simp] theorem informCommit_frame (old new : Vector Entry 32) (x : Informed) (s : State) :
    (informCommit old new x s).straps = s.straps ∧ (informCommit old new x s).portM = s.portM ∧
    (informCommit old new x s).portF = s.portF ∧ (informCommit old new x s).breakPending = s.breakPending ∧
    (informCommit old new x s).relay = s.relay ∧ (informCommit old new x s).tracker = s.tracker ∧
    (informCommit old new x s).activeTable = s.activeTable ∧
    (informCommit old new x s).stagedTable = s.stagedTable ∧ (informCommit old new x s).store = s.store ∧
    (informCommit old new x s).shortFields = s.shortFields ∧ (informCommit old new x s).badFields = s.badFields ∧
    (informCommit old new x s).activeCurves = s.activeCurves ∧
    (informCommit old new x s).stagedCurves = s.stagedCurves ∧ (informCommit old new x s).lots = s.lots ∧
    (informCommit old new x s).rewriter = s.rewriter ∧ (informCommit old new x s).handler = s.handler ∧
    (informCommit old new x s).freeCount = s.freeCount ∧ (informCommit old new x s).pending = s.pending := by
  unfold informCommit
  split <;> simp

@[simp] theorem informAll_frame (old new : Vector Entry 32) (l : List Informed) (s : State) :
    (inFreeOrder l (informCommit old new) s).straps = s.straps ∧
    (inFreeOrder l (informCommit old new) s).portM = s.portM ∧
    (inFreeOrder l (informCommit old new) s).portF = s.portF ∧
    (inFreeOrder l (informCommit old new) s).breakPending = s.breakPending ∧
    (inFreeOrder l (informCommit old new) s).relay = s.relay ∧
    (inFreeOrder l (informCommit old new) s).tracker = s.tracker ∧
    (inFreeOrder l (informCommit old new) s).activeTable = s.activeTable ∧
    (inFreeOrder l (informCommit old new) s).stagedTable = s.stagedTable ∧
    (inFreeOrder l (informCommit old new) s).store = s.store ∧
    (inFreeOrder l (informCommit old new) s).shortFields = s.shortFields ∧
    (inFreeOrder l (informCommit old new) s).badFields = s.badFields ∧
    (inFreeOrder l (informCommit old new) s).activeCurves = s.activeCurves ∧
    (inFreeOrder l (informCommit old new) s).stagedCurves = s.stagedCurves ∧
    (inFreeOrder l (informCommit old new) s).lots = s.lots ∧
    (inFreeOrder l (informCommit old new) s).rewriter = s.rewriter ∧
    (inFreeOrder l (informCommit old new) s).handler = s.handler ∧
    (inFreeOrder l (informCommit old new) s).pending = s.pending :=
  ⟨inFreeOrder_keeps State.straps (by simp) (by simp) _ _, inFreeOrder_keeps State.portM (by simp) (by simp) _ _,
    inFreeOrder_keeps State.portF (by simp) (by simp) _ _,
    inFreeOrder_keeps State.breakPending (by simp) (by simp) _ _,
    inFreeOrder_keeps State.relay (by simp) (by simp) _ _, inFreeOrder_keeps State.tracker (by simp) (by simp) _ _,
    inFreeOrder_keeps State.activeTable (by simp) (by simp) _ _,
    inFreeOrder_keeps State.stagedTable (by simp) (by simp) _ _,
    inFreeOrder_keeps State.store (by simp) (by simp) _ _,
    inFreeOrder_keeps State.shortFields (by simp) (by simp) _ _,
    inFreeOrder_keeps State.badFields (by simp) (by simp) _ _,
    inFreeOrder_keeps State.activeCurves (by simp) (by simp) _ _,
    inFreeOrder_keeps State.stagedCurves (by simp) (by simp) _ _,
    inFreeOrder_keeps State.lots (by simp) (by simp) _ _, inFreeOrder_keeps State.rewriter (by simp) (by simp) _ _,
    inFreeOrder_keeps State.handler (by simp) (by simp) _ _,
    inFreeOrder_keeps State.pending (by simp) (by simp) _ _⟩

@[simp] theorem refreshAll_frame (s : State) :
    (forFour refreshDrive s).straps = s.straps ∧ (forFour refreshDrive s).pins = s.pins ∧
    (forFour refreshDrive s).portM = s.portM ∧ (forFour refreshDrive s).portF = s.portF ∧
    (forFour refreshDrive s).breakPending = s.breakPending ∧ (forFour refreshDrive s).relay = s.relay ∧
    (forFour refreshDrive s).tracker = s.tracker ∧ (forFour refreshDrive s).activeTable = s.activeTable ∧
    (forFour refreshDrive s).stagedTable = s.stagedTable ∧ (forFour refreshDrive s).store = s.store ∧
    (forFour refreshDrive s).shortFields = s.shortFields ∧ (forFour refreshDrive s).badFields = s.badFields ∧
    (forFour refreshDrive s).activeCurves = s.activeCurves ∧
    (forFour refreshDrive s).stagedCurves = s.stagedCurves ∧ (forFour refreshDrive s).crushers = s.crushers ∧
    (forFour refreshDrive s).lots = s.lots ∧ (forFour refreshDrive s).line = s.line ∧
    (forFour refreshDrive s).rewriter = s.rewriter ∧ (forFour refreshDrive s).handler = s.handler ∧
    (forFour refreshDrive s).causes = s.causes ∧ (forFour refreshDrive s).freeCount = s.freeCount ∧
    (forFour refreshDrive s).pending = s.pending :=
  ⟨forFour_keeps State.straps (by simp) _, forFour_keeps State.pins (by simp) _,
    forFour_keeps State.portM (by simp) _, forFour_keeps State.portF (by simp) _,
    forFour_keeps State.breakPending (by simp) _, forFour_keeps State.relay (by simp) _,
    forFour_keeps State.tracker (by simp) _, forFour_keeps State.activeTable (by simp) _,
    forFour_keeps State.stagedTable (by simp) _, forFour_keeps State.store (by simp) _,
    forFour_keeps State.shortFields (by simp) _, forFour_keeps State.badFields (by simp) _,
    forFour_keeps State.activeCurves (by simp) _, forFour_keeps State.stagedCurves (by simp) _,
    forFour_keeps State.crushers (by simp) _, forFour_keeps State.lots (by simp) _,
    forFour_keeps State.line (by simp) _, forFour_keeps State.rewriter (by simp) _,
    forFour_keeps State.handler (by simp) _, forFour_keeps State.causes (by simp) _,
    forFour_keeps State.freeCount (by simp) _, forFour_keeps State.pending (by simp) _⟩

@[simp] theorem applyStation_frame (s : State) :
    (applyStation s).straps = s.straps ∧ (applyStation s).portM = s.portM ∧ (applyStation s).portF = s.portF ∧
    (applyStation s).breakPending = s.breakPending ∧ (applyStation s).relay = s.relay ∧
    (applyStation s).tracker = s.tracker ∧ (applyStation s).stagedTable = s.stagedTable ∧
    (applyStation s).shortFields = s.shortFields ∧ (applyStation s).badFields = s.badFields ∧
    (applyStation s).activeCurves = s.activeCurves ∧ (applyStation s).stagedCurves = s.stagedCurves ∧
    (applyStation s).lots = s.lots ∧ (applyStation s).rewriter = s.rewriter ∧ (applyStation s).pending = s.pending := by
  simp [applyStation]

@[simp] theorem applyCurve_frame (s : State) :
    (applyCurve s).straps = s.straps ∧ (applyCurve s).pins = s.pins ∧ (applyCurve s).portM = s.portM ∧
    (applyCurve s).portF = s.portF ∧ (applyCurve s).breakPending = s.breakPending ∧
    (applyCurve s).relay = s.relay ∧ (applyCurve s).tracker = s.tracker ∧
    (applyCurve s).activeTable = s.activeTable ∧ (applyCurve s).stagedTable = s.stagedTable ∧
    (applyCurve s).store = s.store ∧ (applyCurve s).shortFields = s.shortFields ∧
    (applyCurve s).badFields = s.badFields ∧ (applyCurve s).stagedCurves = s.stagedCurves ∧
    (applyCurve s).crushers = s.crushers ∧ (applyCurve s).feeders = s.feeders ∧ (applyCurve s).lots = s.lots ∧
    (applyCurve s).line = s.line ∧ (applyCurve s).rewriter = s.rewriter ∧ (applyCurve s).freeCount = s.freeCount ∧
    (applyCurve s).pending = s.pending := by
  simp [applyCurve]

@[simp] theorem applyPending_frame (b : Bank) (s : State) :
    (applyPending b s).straps = s.straps ∧ (applyPending b s).portM = s.portM ∧
    (applyPending b s).portF = s.portF ∧ (applyPending b s).breakPending = s.breakPending ∧
    (applyPending b s).relay = s.relay ∧ (applyPending b s).tracker = s.tracker ∧
    (applyPending b s).stagedTable = s.stagedTable ∧ (applyPending b s).shortFields = s.shortFields ∧
    (applyPending b s).badFields = s.badFields ∧ (applyPending b s).stagedCurves = s.stagedCurves ∧
    (applyPending b s).lots = s.lots ∧ (applyPending b s).rewriter = s.rewriter ∧
    (applyPending b s).pending = s.pending := by
  unfold applyPending
  repeat' split
  all_goals simp

@[simp] theorem applyCommits_frame (s : State) :
    (applyCommits s).straps = s.straps ∧ (applyCommits s).portM = s.portM ∧ (applyCommits s).portF = s.portF ∧
    (applyCommits s).breakPending = s.breakPending ∧ (applyCommits s).relay = s.relay ∧
    (applyCommits s).tracker = s.tracker ∧ (applyCommits s).stagedTable = s.stagedTable ∧
    (applyCommits s).shortFields = s.shortFields ∧ (applyCommits s).badFields = s.badFields ∧
    (applyCommits s).stagedCurves = s.stagedCurves ∧ (applyCommits s).lots = s.lots ∧
    (applyCommits s).rewriter = s.rewriter ∧ (applyCommits s).pending = s.pending :=
  ⟨inFreeOrder_keeps State.straps (by simp) (by simp) _ _, inFreeOrder_keeps State.portM (by simp) (by simp) _ _,
    inFreeOrder_keeps State.portF (by simp) (by simp) _ _,
    inFreeOrder_keeps State.breakPending (by simp) (by simp) _ _,
    inFreeOrder_keeps State.relay (by simp) (by simp) _ _, inFreeOrder_keeps State.tracker (by simp) (by simp) _ _,
    inFreeOrder_keeps State.stagedTable (by simp) (by simp) _ _,
    inFreeOrder_keeps State.shortFields (by simp) (by simp) _ _,
    inFreeOrder_keeps State.badFields (by simp) (by simp) _ _,
    inFreeOrder_keeps State.stagedCurves (by simp) (by simp) _ _,
    inFreeOrder_keeps State.lots (by simp) (by simp) _ _, inFreeOrder_keeps State.rewriter (by simp) (by simp) _ _,
    inFreeOrder_keeps State.pending (by simp) (by simp) _ _⟩

/-! ### Line time -/

@[simp] theorem cycleWork_frame (u : CycleUser) (s : State) :
    (cycleWork u s).straps = s.straps ∧ (cycleWork u s).portM = s.portM ∧ (cycleWork u s).portF = s.portF ∧
    (cycleWork u s).breakPending = s.breakPending ∧ (cycleWork u s).relay = s.relay ∧
    (cycleWork u s).tracker = s.tracker ∧ (cycleWork u s).stagedTable = s.stagedTable ∧
    (cycleWork u s).shortFields = s.shortFields ∧ (cycleWork u s).badFields = s.badFields ∧
    (cycleWork u s).stagedCurves = s.stagedCurves ∧ (cycleWork u s).rewriter = s.rewriter ∧
    (cycleWork u s).pending = s.pending := by
  cases u <;> simp [cycleWork]

@[simp] theorem countedCycle_frame (s : State) :
    (countedCycle s).straps = s.straps ∧ (countedCycle s).portM = s.portM ∧ (countedCycle s).portF = s.portF ∧
    (countedCycle s).breakPending = s.breakPending ∧ (countedCycle s).relay = s.relay ∧
    (countedCycle s).tracker = s.tracker ∧ (countedCycle s).stagedTable = s.stagedTable ∧
    (countedCycle s).shortFields = s.shortFields ∧ (countedCycle s).badFields = s.badFields ∧
    (countedCycle s).stagedCurves = s.stagedCurves ∧ (countedCycle s).rewriter = s.rewriter ∧
    (countedCycle s).pending = s.pending :=
  ⟨inFreeOrder_keeps State.straps (by simp) (by simp) _ _, inFreeOrder_keeps State.portM (by simp) (by simp) _ _,
    inFreeOrder_keeps State.portF (by simp) (by simp) _ _,
    inFreeOrder_keeps State.breakPending (by simp) (by simp) _ _,
    inFreeOrder_keeps State.relay (by simp) (by simp) _ _, inFreeOrder_keeps State.tracker (by simp) (by simp) _ _,
    inFreeOrder_keeps State.stagedTable (by simp) (by simp) _ _,
    inFreeOrder_keeps State.shortFields (by simp) (by simp) _ _,
    inFreeOrder_keeps State.badFields (by simp) (by simp) _ _,
    inFreeOrder_keeps State.stagedCurves (by simp) (by simp) _ _,
    inFreeOrder_keeps State.rewriter (by simp) (by simp) _ _,
    inFreeOrder_keeps State.pending (by simp) (by simp) _ _⟩

@[simp] theorem acquireWork_frame (u : AcquireUser) (s : State) :
    (acquireWork u s).straps = s.straps ∧ (acquireWork u s).portM = s.portM ∧ (acquireWork u s).portF = s.portF ∧
    (acquireWork u s).breakPending = s.breakPending ∧ (acquireWork u s).relay = s.relay ∧
    (acquireWork u s).tracker = s.tracker ∧ (acquireWork u s).stagedTable = s.stagedTable ∧
    (acquireWork u s).shortFields = s.shortFields ∧ (acquireWork u s).badFields = s.badFields ∧
    (acquireWork u s).stagedCurves = s.stagedCurves ∧ (acquireWork u s).lots = s.lots ∧
    (acquireWork u s).rewriter = s.rewriter ∧ (acquireWork u s).pending = s.pending := by
  cases u <;> simp [acquireWork]

@[simp] theorem acquireAll_frame (l : List AcquireUser) (s : State) :
    (inFreeOrder l acquireWork s).straps = s.straps ∧ (inFreeOrder l acquireWork s).portM = s.portM ∧
    (inFreeOrder l acquireWork s).portF = s.portF ∧ (inFreeOrder l acquireWork s).breakPending = s.breakPending ∧
    (inFreeOrder l acquireWork s).relay = s.relay ∧ (inFreeOrder l acquireWork s).tracker = s.tracker ∧
    (inFreeOrder l acquireWork s).stagedTable = s.stagedTable ∧
    (inFreeOrder l acquireWork s).shortFields = s.shortFields ∧
    (inFreeOrder l acquireWork s).badFields = s.badFields ∧
    (inFreeOrder l acquireWork s).stagedCurves = s.stagedCurves ∧ (inFreeOrder l acquireWork s).lots = s.lots ∧
    (inFreeOrder l acquireWork s).rewriter = s.rewriter ∧ (inFreeOrder l acquireWork s).pending = s.pending :=
  ⟨inFreeOrder_keeps State.straps (by simp) (by simp) _ _, inFreeOrder_keeps State.portM (by simp) (by simp) _ _,
    inFreeOrder_keeps State.portF (by simp) (by simp) _ _,
    inFreeOrder_keeps State.breakPending (by simp) (by simp) _ _,
    inFreeOrder_keeps State.relay (by simp) (by simp) _ _, inFreeOrder_keeps State.tracker (by simp) (by simp) _ _,
    inFreeOrder_keeps State.stagedTable (by simp) (by simp) _ _,
    inFreeOrder_keeps State.shortFields (by simp) (by simp) _ _,
    inFreeOrder_keeps State.badFields (by simp) (by simp) _ _,
    inFreeOrder_keeps State.stagedCurves (by simp) (by simp) _ _,
    inFreeOrder_keeps State.lots (by simp) (by simp) _ _, inFreeOrder_keeps State.rewriter (by simp) (by simp) _ _,
    inFreeOrder_keeps State.pending (by simp) (by simp) _ _⟩

@[simp] theorem acquireLock_frame (s : State) :
    (acquireLock s).straps = s.straps ∧ (acquireLock s).portM = s.portM ∧ (acquireLock s).portF = s.portF ∧
    (acquireLock s).breakPending = s.breakPending ∧ (acquireLock s).relay = s.relay ∧
    (acquireLock s).stagedTable = s.stagedTable ∧ (acquireLock s).shortFields = s.shortFields ∧
    (acquireLock s).badFields = s.badFields ∧ (acquireLock s).stagedCurves = s.stagedCurves ∧
    (acquireLock s).lots = s.lots ∧ (acquireLock s).rewriter = s.rewriter ∧ (acquireLock s).pending = s.pending := by
  simp [acquireLock]

@[simp] theorem loseLock_frame (s : State) :
    (loseLock s).straps = s.straps ∧ (loseLock s).portM = s.portM ∧ (loseLock s).portF = s.portF ∧
    (loseLock s).breakPending = s.breakPending ∧ (loseLock s).relay = s.relay ∧
    (loseLock s).activeTable = s.activeTable ∧ (loseLock s).stagedTable = s.stagedTable ∧
    (loseLock s).store = s.store ∧ (loseLock s).shortFields = s.shortFields ∧
    (loseLock s).badFields = s.badFields ∧ (loseLock s).activeCurves = s.activeCurves ∧
    (loseLock s).stagedCurves = s.stagedCurves ∧ (loseLock s).lots = s.lots ∧ (loseLock s).rewriter = s.rewriter ∧
    (loseLock s).handler = s.handler ∧ (loseLock s).freeCount = s.freeCount ∧ (loseLock s).pending = s.pending := by
  simp [loseLock]

@[simp] theorem takeOnset_frame (k : Fin 4) (s : State) :
    (takeOnset k s).straps = s.straps ∧ (takeOnset k s).pins = s.pins ∧ (takeOnset k s).portM = s.portM ∧
    (takeOnset k s).portF = s.portF ∧ (takeOnset k s).breakPending = s.breakPending ∧
    (takeOnset k s).relay = s.relay ∧ (takeOnset k s).tracker = s.tracker ∧
    (takeOnset k s).activeTable = s.activeTable ∧ (takeOnset k s).stagedTable = s.stagedTable ∧
    (takeOnset k s).store = s.store ∧ (takeOnset k s).shortFields = s.shortFields ∧
    (takeOnset k s).badFields = s.badFields ∧ (takeOnset k s).activeCurves = s.activeCurves ∧
    (takeOnset k s).stagedCurves = s.stagedCurves ∧ (takeOnset k s).lots = s.lots ∧
    (takeOnset k s).line = s.line ∧ (takeOnset k s).rewriter = s.rewriter ∧ (takeOnset k s).handler = s.handler ∧
    (takeOnset k s).freeCount = s.freeCount ∧ (takeOnset k s).pending = s.pending := by
  simp [takeOnset]

/-- Lock ends as it is lost, or as it is lost and onset samples are then taken, which change crushers and causes alone;
with no onset sample waiting it is lost and nothing more. -/
theorem endLock_cases (s : State) :
    (waitingOnsets s = [] ∧ endLock s = loseLock s) ∨
    (waitingOnsets s ≠ [] ∧
      let s1 := loseLock { s with freeCount := s.freeCount + 1 }
      (Config.freeMeeting s.freeCount = false ∧ endLock s = s1) ∨
      (Config.freeMeeting s.freeCount = true ∧ endLock s = (waitingOnsets s).foldl (fun u k => takeOnset k u) s1)) := by
  unfold endLock
  split
  · next h => exact .inl ⟨h, rfl⟩
  · next h => exact .inr ⟨h, by cases Config.freeMeeting s.freeCount <;> simp⟩

@[simp] theorem takeOnsets_frame (ks : List (Fin 4)) (s : State) :
    (ks.foldl (fun u k => takeOnset k u) s).straps = s.straps ∧
    (ks.foldl (fun u k => takeOnset k u) s).pins = s.pins ∧
    (ks.foldl (fun u k => takeOnset k u) s).portM = s.portM ∧
    (ks.foldl (fun u k => takeOnset k u) s).portF = s.portF ∧
    (ks.foldl (fun u k => takeOnset k u) s).breakPending = s.breakPending ∧
    (ks.foldl (fun u k => takeOnset k u) s).relay = s.relay ∧
    (ks.foldl (fun u k => takeOnset k u) s).tracker = s.tracker ∧
    (ks.foldl (fun u k => takeOnset k u) s).activeTable = s.activeTable ∧
    (ks.foldl (fun u k => takeOnset k u) s).stagedTable = s.stagedTable ∧
    (ks.foldl (fun u k => takeOnset k u) s).store = s.store ∧
    (ks.foldl (fun u k => takeOnset k u) s).shortFields = s.shortFields ∧
    (ks.foldl (fun u k => takeOnset k u) s).badFields = s.badFields ∧
    (ks.foldl (fun u k => takeOnset k u) s).activeCurves = s.activeCurves ∧
    (ks.foldl (fun u k => takeOnset k u) s).stagedCurves = s.stagedCurves ∧
    (ks.foldl (fun u k => takeOnset k u) s).lots = s.lots ∧
    (ks.foldl (fun u k => takeOnset k u) s).line = s.line ∧
    (ks.foldl (fun u k => takeOnset k u) s).rewriter = s.rewriter ∧
    (ks.foldl (fun u k => takeOnset k u) s).handler = s.handler ∧
    (ks.foldl (fun u k => takeOnset k u) s).freeCount = s.freeCount ∧
    (ks.foldl (fun u k => takeOnset k u) s).pending = s.pending :=
  ⟨foldl_keeps State.straps (by simp) _ _, foldl_keeps State.pins (by simp) _ _,
    foldl_keeps State.portM (by simp) _ _, foldl_keeps State.portF (by simp) _ _,
    foldl_keeps State.breakPending (by simp) _ _, foldl_keeps State.relay (by simp) _ _,
    foldl_keeps State.tracker (by simp) _ _, foldl_keeps State.activeTable (by simp) _ _,
    foldl_keeps State.stagedTable (by simp) _ _, foldl_keeps State.store (by simp) _ _,
    foldl_keeps State.shortFields (by simp) _ _, foldl_keeps State.badFields (by simp) _ _,
    foldl_keeps State.activeCurves (by simp) _ _, foldl_keeps State.stagedCurves (by simp) _ _,
    foldl_keeps State.lots (by simp) _ _, foldl_keeps State.line (by simp) _ _,
    foldl_keeps State.rewriter (by simp) _ _, foldl_keeps State.handler (by simp) _ _,
    foldl_keeps State.freeCount (by simp) _ _, foldl_keeps State.pending (by simp) _ _⟩

@[simp] theorem endLock_frame (s : State) :
    (endLock s).straps = s.straps ∧ (endLock s).portM = s.portM ∧ (endLock s).portF = s.portF ∧
    (endLock s).breakPending = s.breakPending ∧ (endLock s).relay = s.relay ∧
    (endLock s).activeTable = s.activeTable ∧ (endLock s).stagedTable = s.stagedTable ∧
    (endLock s).store = s.store ∧ (endLock s).shortFields = s.shortFields ∧
    (endLock s).badFields = s.badFields ∧ (endLock s).activeCurves = s.activeCurves ∧
    (endLock s).stagedCurves = s.stagedCurves ∧ (endLock s).lots = s.lots ∧ (endLock s).rewriter = s.rewriter ∧
    (endLock s).handler = s.handler ∧ (endLock s).pending = s.pending := by
  rcases endLock_cases s with ⟨-, h⟩ | ⟨-, ⟨-, h⟩ | ⟨-, h⟩⟩ <;> rw [h] <;> simp

@[simp] theorem takeMarker_frame (payload : List Byte) (s : State) :
    (takeMarker payload s).straps = s.straps ∧ (takeMarker payload s).portM = s.portM ∧
    (takeMarker payload s).portF = s.portF ∧ (takeMarker payload s).breakPending = s.breakPending ∧
    (takeMarker payload s).relay = s.relay ∧ (takeMarker payload s).stagedTable = s.stagedTable ∧
    (takeMarker payload s).shortFields = s.shortFields ∧ (takeMarker payload s).badFields = s.badFields ∧
    (takeMarker payload s).stagedCurves = s.stagedCurves ∧ (takeMarker payload s).rewriter = s.rewriter ∧
    (takeMarker payload s).pending = s.pending := by
  unfold takeMarker markerInSearch markerInLock
  dsimp only
  repeat' split
  all_goals simp

@[simp] theorem expireSupervision_frame (s : State) :
    (expireSupervision s).straps = s.straps ∧ (expireSupervision s).portM = s.portM ∧
    (expireSupervision s).portF = s.portF ∧ (expireSupervision s).breakPending = s.breakPending ∧
    (expireSupervision s).relay = s.relay ∧ (expireSupervision s).activeTable = s.activeTable ∧
    (expireSupervision s).stagedTable = s.stagedTable ∧ (expireSupervision s).store = s.store ∧
    (expireSupervision s).shortFields = s.shortFields ∧ (expireSupervision s).badFields = s.badFields ∧
    (expireSupervision s).activeCurves = s.activeCurves ∧ (expireSupervision s).stagedCurves = s.stagedCurves ∧
    (expireSupervision s).lots = s.lots ∧ (expireSupervision s).rewriter = s.rewriter ∧
    (expireSupervision s).handler = s.handler ∧ (expireSupervision s).pending = s.pending := by
  unfold expireSupervision
  dsimp only
  split <;> simp

/-! ### Ports and requests -/

@[simp] theorem joinF_frame (t : Telegram) (s : State) :
    (joinF t s).straps = s.straps ∧ (joinF t s).pins = s.pins ∧ (joinF t s).portM = s.portM ∧
    (joinF t s).portF = s.portF ∧ (joinF t s).breakPending = s.breakPending ∧ (joinF t s).tracker = s.tracker ∧
    (joinF t s).activeTable = s.activeTable ∧ (joinF t s).stagedTable = s.stagedTable ∧
    (joinF t s).store = s.store ∧ (joinF t s).shortFields = s.shortFields ∧ (joinF t s).badFields = s.badFields ∧
    (joinF t s).activeCurves = s.activeCurves ∧ (joinF t s).stagedCurves = s.stagedCurves ∧
    (joinF t s).crushers = s.crushers ∧ (joinF t s).feeders = s.feeders ∧ (joinF t s).lots = s.lots ∧
    (joinF t s).line = s.line ∧ (joinF t s).rewriter = s.rewriter ∧ (joinF t s).handler = s.handler ∧
    (joinF t s).freeCount = s.freeCount ∧ (joinF t s).pending = s.pending := by
  unfold joinF
  split <;> simp

@[simp] theorem joinM_frame (t : Telegram) (s : State) :
    (joinM t s).straps = s.straps ∧ (joinM t s).pins = s.pins ∧ (joinM t s).portM = s.portM ∧
    (joinM t s).portF = s.portF ∧ (joinM t s).breakPending = s.breakPending ∧ (joinM t s).tracker = s.tracker ∧
    (joinM t s).activeTable = s.activeTable ∧ (joinM t s).stagedTable = s.stagedTable ∧
    (joinM t s).store = s.store ∧ (joinM t s).shortFields = s.shortFields ∧ (joinM t s).badFields = s.badFields ∧
    (joinM t s).activeCurves = s.activeCurves ∧ (joinM t s).stagedCurves = s.stagedCurves ∧
    (joinM t s).crushers = s.crushers ∧ (joinM t s).feeders = s.feeders ∧ (joinM t s).lots = s.lots ∧
    (joinM t s).line = s.line ∧ (joinM t s).rewriter = s.rewriter ∧ (joinM t s).handler = s.handler ∧
    (joinM t s).freeCount = s.freeCount ∧ (joinM t s).pending = s.pending := by
  unfold joinM
  split <;> simp

@[simp] theorem joinReply_frame (t : Telegram) (s : State) :
    (joinReply t s).straps = s.straps ∧ (joinReply t s).pins = s.pins ∧ (joinReply t s).portM = s.portM ∧
    (joinReply t s).portF = s.portF ∧ (joinReply t s).breakPending = s.breakPending ∧
    (joinReply t s).tracker = s.tracker ∧ (joinReply t s).activeTable = s.activeTable ∧
    (joinReply t s).stagedTable = s.stagedTable ∧ (joinReply t s).store = s.store ∧
    (joinReply t s).shortFields = s.shortFields ∧ (joinReply t s).badFields = s.badFields ∧
    (joinReply t s).activeCurves = s.activeCurves ∧ (joinReply t s).stagedCurves = s.stagedCurves ∧
    (joinReply t s).crushers = s.crushers ∧ (joinReply t s).feeders = s.feeders ∧ (joinReply t s).lots = s.lots ∧
    (joinReply t s).line = s.line ∧ (joinReply t s).rewriter = s.rewriter ∧ (joinReply t s).handler = s.handler ∧
    (joinReply t s).freeCount = s.freeCount ∧ (joinReply t s).pending = s.pending := by
  unfold joinReply
  split <;> simp

@[simp] theorem endSession_frame (how : SessionEnd) (s : State) :
    (endSession how s).straps = s.straps ∧ (endSession how s).pins = s.pins ∧ (endSession how s).portM = s.portM ∧
    (endSession how s).portF = s.portF ∧ (endSession how s).breakPending = s.breakPending ∧
    (endSession how s).relay = s.relay ∧ (endSession how s).tracker = s.tracker ∧
    (endSession how s).activeTable = s.activeTable ∧ (endSession how s).stagedTable = s.stagedTable ∧
    (endSession how s).store = s.store ∧ (endSession how s).shortFields = s.shortFields ∧
    (endSession how s).badFields = s.badFields ∧ (endSession how s).activeCurves = s.activeCurves ∧
    (endSession how s).stagedCurves = s.stagedCurves ∧ (endSession how s).crushers = s.crushers ∧
    (endSession how s).feeders = s.feeders ∧ (endSession how s).lots = s.lots ∧ (endSession how s).line = s.line ∧
    (endSession how s).rewriter = s.rewriter ∧ (endSession how s).causes = s.causes ∧
    (endSession how s).freeCount = s.freeCount ∧ (endSession how s).pending = s.pending := by
  rw [endSession_eq]
  simp

@[simp] theorem rewriteGoverned_frame (e : Entry) (r : Role) (clamped : Bool) (t : Telegram) (s : State) :
    ((rewriteGoverned e r clamped t s).2).straps = s.straps ∧ ((rewriteGoverned e r clamped t s).2).pins = s.pins ∧
    ((rewriteGoverned e r clamped t s).2).portM = s.portM ∧ ((rewriteGoverned e r clamped t s).2).portF = s.portF ∧
    ((rewriteGoverned e r clamped t s).2).breakPending = s.breakPending ∧
    ((rewriteGoverned e r clamped t s).2).relay = s.relay ∧
    ((rewriteGoverned e r clamped t s).2).tracker = s.tracker ∧
    ((rewriteGoverned e r clamped t s).2).activeTable = s.activeTable ∧
    ((rewriteGoverned e r clamped t s).2).stagedTable = s.stagedTable ∧
    ((rewriteGoverned e r clamped t s).2).store = s.store ∧
    ((rewriteGoverned e r clamped t s).2).shortFields = s.shortFields ∧
    ((rewriteGoverned e r clamped t s).2).badFields = s.badFields ∧
    ((rewriteGoverned e r clamped t s).2).activeCurves = s.activeCurves ∧
    ((rewriteGoverned e r clamped t s).2).stagedCurves = s.stagedCurves ∧
    ((rewriteGoverned e r clamped t s).2).crushers = s.crushers ∧
    ((rewriteGoverned e r clamped t s).2).feeders = s.feeders ∧
    ((rewriteGoverned e r clamped t s).2).lots = s.lots ∧ ((rewriteGoverned e r clamped t s).2).line = s.line ∧
    ((rewriteGoverned e r clamped t s).2).handler = s.handler ∧
    ((rewriteGoverned e r clamped t s).2).freeCount = s.freeCount ∧
    ((rewriteGoverned e r clamped t s).2).pending = s.pending := by
  unfold rewriteGoverned
  dsimp only
  repeat' split
  all_goals simp

@[simp] theorem rewrite_frame (t : Telegram) (s : State) :
    ((rewrite t s).2).straps = s.straps ∧ ((rewrite t s).2).pins = s.pins ∧ ((rewrite t s).2).portM = s.portM ∧
    ((rewrite t s).2).portF = s.portF ∧ ((rewrite t s).2).breakPending = s.breakPending ∧
    ((rewrite t s).2).relay = s.relay ∧ ((rewrite t s).2).tracker = s.tracker ∧
    ((rewrite t s).2).activeTable = s.activeTable ∧ ((rewrite t s).2).stagedTable = s.stagedTable ∧
    ((rewrite t s).2).store = s.store ∧ ((rewrite t s).2).shortFields = s.shortFields ∧
    ((rewrite t s).2).badFields = s.badFields ∧ ((rewrite t s).2).activeCurves = s.activeCurves ∧
    ((rewrite t s).2).stagedCurves = s.stagedCurves ∧ ((rewrite t s).2).crushers = s.crushers ∧
    ((rewrite t s).2).feeders = s.feeders ∧ ((rewrite t s).2).lots = s.lots ∧ ((rewrite t s).2).line = s.line ∧
    ((rewrite t s).2).handler = s.handler ∧ ((rewrite t s).2).freeCount = s.freeCount ∧
    ((rewrite t s).2).pending = s.pending := by
  unfold rewrite
  repeat' split
  all_goals simp

@[simp] theorem takeWord_frame (w : Word) (s : State) :
    (takeWord s w).straps = s.straps ∧ (takeWord s w).pins = s.pins ∧ (takeWord s w).portM = s.portM ∧
    (takeWord s w).portF = s.portF ∧ (takeWord s w).breakPending = s.breakPending ∧
    (takeWord s w).relay = s.relay ∧ (takeWord s w).tracker = s.tracker ∧
    (takeWord s w).activeTable = s.activeTable ∧ (takeWord s w).store = s.store ∧
    (takeWord s w).shortFields = s.shortFields ∧ (takeWord s w).badFields = s.badFields ∧
    (takeWord s w).activeCurves = s.activeCurves ∧ (takeWord s w).crushers = s.crushers ∧
    (takeWord s w).feeders = s.feeders ∧ (takeWord s w).lots = s.lots ∧ (takeWord s w).line = s.line ∧
    (takeWord s w).rewriter = s.rewriter ∧ (takeWord s w).freeCount = s.freeCount ∧
    (takeWord s w).pending = s.pending := by
  unfold takeWord
  repeat' split
  · simp
  · unfold writeStaged
    split <;> simp [setSession]
  · simp [setSession]

@[simp] theorem takeWords_frame (l : List Word) (s : State) :
    (l.foldl takeWord s).straps = s.straps ∧ (l.foldl takeWord s).pins = s.pins ∧
    (l.foldl takeWord s).portM = s.portM ∧ (l.foldl takeWord s).portF = s.portF ∧
    (l.foldl takeWord s).breakPending = s.breakPending ∧ (l.foldl takeWord s).relay = s.relay ∧
    (l.foldl takeWord s).tracker = s.tracker ∧ (l.foldl takeWord s).activeTable = s.activeTable ∧
    (l.foldl takeWord s).store = s.store ∧ (l.foldl takeWord s).shortFields = s.shortFields ∧
    (l.foldl takeWord s).badFields = s.badFields ∧ (l.foldl takeWord s).activeCurves = s.activeCurves ∧
    (l.foldl takeWord s).crushers = s.crushers ∧ (l.foldl takeWord s).feeders = s.feeders ∧
    (l.foldl takeWord s).lots = s.lots ∧ (l.foldl takeWord s).line = s.line ∧
    (l.foldl takeWord s).rewriter = s.rewriter ∧ (l.foldl takeWord s).freeCount = s.freeCount ∧
    (l.foldl takeWord s).pending = s.pending :=
  ⟨foldl_keeps State.straps (by simp) _ _, foldl_keeps State.pins (by simp) _ _,
    foldl_keeps State.portM (by simp) _ _, foldl_keeps State.portF (by simp) _ _,
    foldl_keeps State.breakPending (by simp) _ _, foldl_keeps State.relay (by simp) _ _,
    foldl_keeps State.tracker (by simp) _ _, foldl_keeps State.activeTable (by simp) _ _,
    foldl_keeps State.store (by simp) _ _, foldl_keeps State.shortFields (by simp) _ _,
    foldl_keeps State.badFields (by simp) _ _, foldl_keeps State.activeCurves (by simp) _ _,
    foldl_keeps State.crushers (by simp) _ _, foldl_keeps State.feeders (by simp) _ _,
    foldl_keeps State.lots (by simp) _ _, foldl_keeps State.line (by simp) _ _,
    foldl_keeps State.rewriter (by simp) _ _, foldl_keeps State.freeCount (by simp) _ _,
    foldl_keeps State.pending (by simp) _ _⟩

@[simp] theorem takeStream_frame (fn : Byte) (payload : List Byte) (s : State) :
    (takeStream fn payload s).straps = s.straps ∧ (takeStream fn payload s).pins = s.pins ∧
    (takeStream fn payload s).portM = s.portM ∧ (takeStream fn payload s).portF = s.portF ∧
    (takeStream fn payload s).breakPending = s.breakPending ∧ (takeStream fn payload s).relay = s.relay ∧
    (takeStream fn payload s).tracker = s.tracker ∧ (takeStream fn payload s).activeTable = s.activeTable ∧
    (takeStream fn payload s).store = s.store ∧ (takeStream fn payload s).shortFields = s.shortFields ∧
    (takeStream fn payload s).badFields = s.badFields ∧ (takeStream fn payload s).activeCurves = s.activeCurves ∧
    (takeStream fn payload s).crushers = s.crushers ∧ (takeStream fn payload s).feeders = s.feeders ∧
    (takeStream fn payload s).lots = s.lots ∧ (takeStream fn payload s).line = s.line ∧
    (takeStream fn payload s).rewriter = s.rewriter ∧ (takeStream fn payload s).freeCount = s.freeCount ∧
    (takeStream fn payload s).pending = s.pending := by
  unfold takeStream
  dsimp only
  repeat' split
  all_goals simp

@[simp] theorem changeDryRun_frame (on : Bool) (s : State) :
    (changeDryRun on s).straps = s.straps ∧ (changeDryRun on s).pins = s.pins ∧
    (changeDryRun on s).portM = s.portM ∧ (changeDryRun on s).portF = s.portF ∧
    (changeDryRun on s).breakPending = s.breakPending ∧ (changeDryRun on s).relay = s.relay ∧
    (changeDryRun on s).tracker = s.tracker ∧ (changeDryRun on s).activeTable = s.activeTable ∧
    (changeDryRun on s).stagedTable = s.stagedTable ∧ (changeDryRun on s).store = s.store ∧
    (changeDryRun on s).shortFields = s.shortFields ∧ (changeDryRun on s).badFields = s.badFields ∧
    (changeDryRun on s).activeCurves = s.activeCurves ∧ (changeDryRun on s).stagedCurves = s.stagedCurves ∧
    (changeDryRun on s).lots = s.lots ∧ (changeDryRun on s).line = s.line ∧
    (changeDryRun on s).rewriter = s.rewriter ∧ (changeDryRun on s).freeCount = s.freeCount ∧
    (changeDryRun on s).pending = s.pending :=
  ⟨forFour_keeps State.straps (by simp) _, forFour_keeps State.pins (by simp) _,
    forFour_keeps State.portM (by simp) _, forFour_keeps State.portF (by simp) _,
    forFour_keeps State.breakPending (by simp) _, forFour_keeps State.relay (by simp) _,
    forFour_keeps State.tracker (by simp) _, forFour_keeps State.activeTable (by simp) _,
    forFour_keeps State.stagedTable (by simp) _, forFour_keeps State.store (by simp) _,
    forFour_keeps State.shortFields (by simp) _, forFour_keeps State.badFields (by simp) _,
    forFour_keeps State.activeCurves (by simp) _, forFour_keeps State.stagedCurves (by simp) _,
    forFour_keeps State.lots (by simp) _, forFour_keeps State.line (by simp) _,
    forFour_keeps State.rewriter (by simp) _, forFour_keeps State.freeCount (by simp) _,
    forFour_keeps State.pending (by simp) _⟩

@[simp] theorem warmRestart_frame (s : State) :
    (warmRestart s).straps = s.straps ∧ (warmRestart s).portM = s.portM ∧ (warmRestart s).portF = s.portF ∧
    (warmRestart s).breakPending = s.breakPending ∧ (warmRestart s).relay = s.relay ∧
    (warmRestart s).activeTable = s.activeTable ∧ (warmRestart s).stagedTable = s.stagedTable ∧
    (warmRestart s).shortFields = s.shortFields ∧ (warmRestart s).badFields = s.badFields ∧
    (warmRestart s).activeCurves = s.activeCurves ∧ (warmRestart s).stagedCurves = s.stagedCurves ∧
    (warmRestart s).rewriter = s.rewriter ∧ (warmRestart s).freeCount = s.freeCount ∧
    (warmRestart s).pending = s.pending := by
  simp [warmRestart, restartLots, restartTracker]

end Sys2Proof.Machine
end

