-- ==== Sys2Proof/Laws/Operands.lean ====
section
/-!
SUPPORT. The codings of Machine/Operands.lean: numbers and bytes, the arguments of a request, and the check of a
telegram.
-/

namespace Sys2Proof.Machine

/-! ### Numbers and bytes -/

@[simp] theorem beBytes_length (n v : Nat) : (beBytes n v).length = n := by
  induction n generalizing v with
  | zero => rfl
  | succ n ih => simp [beBytes, ih]

theorem beNat_foldl (bytes : List Byte) (acc : Nat) :
    bytes.foldl (fun a b => a * 256 + b.toNat) acc = acc * 256 ^ bytes.length + beNat bytes := by
  unfold beNat
  induction bytes generalizing acc with
  | nil => simp
  | cons b rest ih =>
    simp only [List.foldl_cons, List.length_cons]
    rw [ih, ih (0 * 256 + b.toNat)]
    ring

theorem beNat_cons (b : Byte) (rest : List Byte) : beNat (b :: rest) = b.toNat * 256 ^ rest.length + beNat rest := by
  have := beNat_foldl rest (0 * 256 + b.toNat)
  simpa [beNat] using this

/-- Reading back the bytes of a number gives the number, modulo the range of the bytes. -/
theorem beNat_beBytes (n v : Nat) : beNat (beBytes n v) = v % 256 ^ n := by
  induction n generalizing v with
  | zero => simp [beBytes, beNat, Nat.mod_one]
  | succ n ih =>
    have split : v % 256 ^ (n + 1) = v % 256 ^ n + 256 ^ n * (v / 256 ^ n % 256) := by rw [pow_succ, Nat.mod_mul]
    rw [beBytes, beNat_cons, beBytes_length, ih, BitVec.toNat_ofNat, split, Nat.add_comm, Nat.mul_comm]

theorem beNat_beBytes_of_lt {n v : Nat} (h : v < 256 ^ n) : beNat (beBytes n v) = v := by
  rw [beNat_beBytes, Nat.mod_eq_of_lt h]

@[simp] theorem beNat_one (a : Byte) : beNat [a] = a.toNat := by simp [beNat]

@[simp] theorem beNat_two (a b : Byte) : beNat [a, b] = a.toNat * 256 + b.toNat := by simp [beNat]

/-! ### The arguments of a request (R172) -/

/-- An argument given as the bytes of a number is read as that number. -/
theorem arguments_beBytes {w v : Nat} (h : v < 256 ^ w) (ws : List Nat) (rest : List Byte) :
    arguments (w :: ws) (beBytes w v ++ rest) = (arguments ws rest).map (v :: ·) := by
  simp [arguments, beNat_beBytes_of_lt h]

@[simp] theorem arguments_nil (payload : List Byte) : arguments [] payload = some [] := by simp [arguments]

/-- An argument of one byte. -/
theorem arguments_byte (b : Byte) (ws : List Nat) (rest : List Byte) :
    arguments (1 :: ws) (b :: rest) = (arguments ws rest).map (b.toNat :: ·) := by
  simp [arguments]

/-- An argument of two bytes. -/
theorem arguments_word (a b : Byte) (ws : List Nat) (rest : List Byte) :
    arguments (2 :: ws) (a :: b :: rest) = (arguments ws rest).map ((a.toNat * 256 + b.toNat) :: ·) := by
  simp [arguments]

theorem arguments_sum_le {ws : List Nat} {payload : List Byte} {args : List Nat} (h : arguments ws payload = some args) :
    ws.sum ≤ payload.length ∧ args.length = ws.length := by
  induction ws generalizing payload args with
  | nil => simp_all [arguments]
  | cons w ws ih =>
    rw [arguments] at h
    split at h
    · obtain ⟨more, hm, rfl⟩ := Option.map_eq_some_iff.1 h
      have := ih hm
      simp at *
      omega
    · cases h

@[simp] theorem index4_val (k : Fin 4) : index4 k.val = some k := by simp [index4, k.isLt]

theorem index4_eq_some {n : Nat} {k : Fin 4} : index4 n = some k ↔ n = k.val := by
  unfold index4
  split
  · simp [Fin.ext_iff]
  · simp; omega

theorem index4_eq_none {n : Nat} : index4 n = none ↔ 3 < n := by
  unfold index4
  split <;> simp <;> omega

theorem toNat_ofNat_fin4 (k : Fin 4) : (BitVec.ofNat 8 k.val).toNat = k.val := by
  have := k.isLt
  simp; omega

/-- The first check that fails: none exactly when every check passes. -/
theorem firstFailing_eq_none {base : Nat} {checks : List Bool} :
    firstFailing base checks = none ↔ ∀ ok ∈ checks, ok = true := by
  induction checks generalizing base with
  | nil => simp [firstFailing]
  | cons ok rest ih => cases ok <;> simp [firstFailing, ih]

/-! ### The check (R147, R158) -/

@[simp] theorem Telegram.make_checkHolds (kind : Kind) (dst src fn : Byte) (payload : List Byte) :
    (Telegram.make kind dst src fn payload).checkHolds = true := by
  simp [Telegram.make, Telegram.checkHolds]

end Sys2Proof.Machine
end

