-- ==== Sys2Proof/WellFormed.lean ====
section
/-!
DEFINITION. Well-formed commands: those a line can bring. The length byte of a telegram is at most 40 (R146), and each
row of the table that is a kind of telegram stands for telegrams of that kind (R153, R154, R158). The machine gives
every command a meaning, well-formed or not (assumption logs 5 and 6).
-/

namespace Sys2Proof

/-- The payload fits a telegram (R146). -/
def payloadFits (payload : List Byte) : Bool := decide (payload.length ≤ 40)

/-- The function byte names no request of Table 8-20 (R172). -/
def namesNoRequest (fn : Byte) : Bool := fn == 0 || decide (0x15 < fn.toNat)

/-- Whether a command is one the line or a pin can bring. -/
def Instr.wellFormed : Instr → Bool
  | .powerOnReset _ _ _ => true
  | .tripInChange _ => true
  | .cycleMarker _ _ _ payload => payloadFits payload
  | .supervisionExpiry => true
  | .fieldReply _ _ _ payload => payloadFits payload
  | .mTelegramForward _ _ _ _ payload => payloadFits payload
  | .fTelegramForward kind _ _ _ payload => payloadFits payload && kind != .reply
  | .streamTelegram _ _ _ payload => payloadFits payload
  | .parityError _ => true
  | .framingError _ => true
  | .kindError _ => true
  | .lengthError _ => true
  | .checkError _ => true
  | .fragment _ => true
  | .huntIdle _ => true
  | .lineBreak _ => true
  | .breakEnd _ => true
  | .breakRepeat => true
  | .breakRepeatEnd => true
  | .transmitStart _ => true
  | .transmitComplete _ => true
  | .statusPoll _ _ payload => payloadFits payload
  | .readCauses _ _ payload => payloadFits payload
  | .readRecord _ _ payload => payloadFits payload
  | .writeCrusher _ _ payload => payloadFits payload
  | .writeFeeder _ _ payload => payloadFits payload
  | .writeLine _ _ payload => payloadFits payload
  | .setTarget _ _ payload => payloadFits payload
  | .crusherEnable _ _ payload => payloadFits payload
  | .crusherDisable _ _ payload => payloadFits payload
  | .faultClear _ _ payload => payloadFits payload
  | .wearReset _ _ payload => payloadFits payload
  | .lineStart _ _ payload => payloadFits payload
  | .lineStop _ _ payload => payloadFits payload
  | .tripRelease _ _ payload => payloadFits payload
  | .rejectLot _ _ payload => payloadFits payload
  | .loadOpen _ _ payload => payloadFits payload
  | .commit _ _ payload => payloadFits payload
  | .dryRun _ _ payload => payloadFits payload
  | .deviceClear _ _ payload => payloadFits payload
  | .warmRestart _ _ payload => payloadFits payload
  | .rollCall _ _ payload => payloadFits payload
  | .unknownFunction _ _ fn payload => payloadFits payload && namesNoRequest fn
  | .goodCharacter _ _ => true

end Sys2Proof
end

