-- ==== Sys2Proof/Tests/Slice0.lean ====
section
/-!
SUPPORT. Tests. Expected values come from the worked examples and the tables of the spec, named beside each test, or from
hand calculation by a rule. A `witness_` theorem shows a concrete state and operands that meet the hypotheses of the
statement it is named after.
-/

namespace Sys2Proof.Tests
open Sys2Proof.Machine

set_option Elab.async false

/-! ### Ill-formed commands are refused (R146, R154, R172) -/

theorem test_wellFormed_payload_40 : (Instr.cycleMarker 0 0 0 (List.replicate 40 0)).wellFormed = true := by decide
theorem test_wellFormed_payload_41 : (Instr.cycleMarker 0 0 0 (List.replicate 41 0)).wellFormed = false := by decide
theorem test_wellFormed_request_payload : (Instr.writeLine 1 0 (List.replicate 41 0)).wellFormed = false := by decide
theorem test_wellFormed_reply_forward : (Instr.fTelegramForward .reply 127 1 0 []).wellFormed = false := by decide
theorem test_wellFormed_known_function : (Instr.unknownFunction 1 0 0x15 []).wellFormed = false := by decide
theorem test_wellFormed_unknown_function : (Instr.unknownFunction 1 0 0x16 []).wellFormed = true := by decide

/-! ### Arithmetic, codes and the check -/

/-- The check value of this CRC over the ASCII digits 1 to 9, from the published parameters R158 names. -/
theorem test_crc : crc16 [0x31, 0x32, 0x33, 0x34, 0x35, 0x36, 0x37, 0x38, 0x39] = 0x29B1 := by decide +kernel

/-- Table 1-3, and the pressure of section 1.11. -/
theorem test_scaling :
    [scaleScalar 12000 400 4000, scaleScalar 4000 400 4000, scaleScalar 3000 400 4000, scaleScalar 65535 400 4000,
      scaleScalar 2960 640 0, scaleScalar 2944 640 0] = [3125, 0, 0, 24037, 1850, 1840] := by decide

/-- Curve 2 of Table 5-7. -/
def curve2 : Curve := [⟨0, 1000⟩, ⟨600, 1000⟩, ⟨800, 700⟩, ⟨1000, 300⟩, ⟨1200, 0⟩]

/-- Section 5.9: the lookup at 780, and the flat ends. -/
theorem test_lookup :
    [lookupCurve curve2 780, lookupCurve curve2 0, lookupCurve curve2 2000, lookupCurve [] 5] =
      [some 730, some 1000, some 0, none] := by decide

/-- Section 5.9: the load and the level correction. -/
theorem test_front_stage :
    loadOf 2457 3150 = 780 ∧
      levelCorrection { CrusherParams.defaults with levelTarget := 650, levelGain := 96 } (some 590) = 90 := by decide

/-- Section 5.9: the slew stage and the minimum-run stage; section 5.10: the first row of Table 5-9. -/
theorem test_slew :
    slewStage { Feeder.reset with output := 760, slewUp := 20, slewDown := 50 } 2 false 820 = 800 ∧
      minRunStage 100 800 820 = 800 ∧
      slewStage { Feeder.reset with output := 800, slewUp := 20, slewDown := 40 } 1 false 400 = 760 := by decide

/-- Section 9.9: ADJUST 47 +6 and STOP 47; and a step of −1 with its sign bit in byte 0 (R159). -/
theorem test_command_field :
    [encodeCommand ⟨.adjust, 47, 6⟩, encodeCommand ⟨.stop, 47, 0⟩, encodeCommand ⟨.adjust, 0, -1⟩] =
      [[0x20, 0x2F, 0x06], [0x30, 0x2F, 0x00], [0x21, 0x00, 0xFF]] := by decide

/-- Section 9.8: under CLAMP the lower of the part's 13107 and the master's 16384. -/
theorem test_clamp_speed : (writeSpeed true 13107 [0x40, 0x00]).bytes = some [0x33, 0x33] := by decide

/-- Table 8-14 and R159: bit 0 of byte 2 is reliefOpen, and a result byte of 5 is bad. -/
theorem test_status :
    decodeStatus [37, 2, 0xFE] = some ⟨37, .done, false⟩ ∧ decodeStatus [37, 4, 0x01] = some ⟨37, .fault, true⟩ ∧
      decodeStatus [37, 5, 0] = none := by decide

/-- Table 8-19 at its edges: F0 has no FEEDER_TOTAL (Table 1-2), and a line role has instance 0. -/
theorem test_roles :
    [roleOfCode 1 3, roleOfCode 1 4, roleOfCode 7 0, roleOfCode 7 1, roleOfCode 13 0, roleOfCode 14 0] =
      [some (.power 3), none, none, some (.feederTotal 1), some .tripUnit, none] := by decide

/-- The words of Table 8-17: role kind in the high byte, instance in the low byte; an address takes the low byte. -/
theorem test_station_word :
    ((Entry.zero.setWord 1 0x0502).role?, (Entry.zero.setWord 0 0xFF15).address) = (some (.actuator 2), 0x15) := by decide

/-- No row of the opcode table gives bits. -/
theorem test_no_word : decodeTableWord 8 0 = none ∧ State.reset.withFetchWord 8 0 = State.reset := ⟨rfl, rfl⟩

/-! ### States for the tests -/

/-- A used entry with offset 0. -/
def entryAt (address kind inst mode readOffset writeOffset : Byte) (gain : Word) (freshLimit : Byte) : Entry :=
  { address := address, roleKind := kind, roleInst := inst, mode := mode, readOffset := readOffset
    writeOffset := writeOffset, gain := gain, offset := 0, freshLimit := freshLimit }

/-- POWER and FEEDER_DRIVE of C1, the belt, and the three entries of Table 1-8 at their indices. -/
def plantTable : Vector Entry 32 :=
  Vector.replicate 32 Entry.zero
    |>.set 0 (entryAt 20 1 1 1 0 0xFF 1024 5)
    |>.set 1 (entryAt 22 6 1 3 0xFF 0 16384 0)
    |>.set 2 (entryAt 23 8 0 1 0 0xFF 0 5)
    |>.set 3 (entryAt 23 9 0 1 2 0xFF 0 5)
    |>.set 4 (entryAt 21 2 1 1 0 0xFF 1024 5)
    |>.set 5 (entryAt 21 4 1 1 2 0xFF 640 5)
    |>.set 6 (entryAt 21 5 1 3 4 1 0 10)

/-- A crusher in RUN with no move and no relief. -/
def runningCrusher : Crusher := { Crusher.reset with state := .run }

/-- The two lots of a belt: the older one marked and riding, the younger one still open. -/
def twoLots : List Lot :=
  [ { tag := 4, state := .riding, tonnage := 120, startPos := 100, endPos := some 160, reject := true
      rejectSource := some .detector, extended := false }
  , { tag := 5, state := .opened, tonnage := 30, startPos := 160, endPos := none, reject := false
      rejectSource := none, extended := false } ]

/-- A telegram that waits in the F-bound queue: a speed for the drive of C1. -/
def speedRequest : Telegram := Telegram.make .request 22 127 0 [0x40, 0x00]

/-- A part at work: LOCKED at cycle 8200 with C1 in RUN on the station table above, two lots on the belt, a speed request
waiting for port F, and a session open on the curve bank. -/
def plant : State :=
  { State.reset with
    pins := { tripInLow := false, tripOut := false, lock := true }
    portM := { Port.reset with rx := .receiving [0x5C] }
    portF := { Port.reset with rx := .idle }
    relay := { Relay.reset with fBound := [speedRequest] }
    tracker :=
      { Tracker.reset with
        lockState := .locked, runCount := 8, expected := some 5, period := some 100, supervision := some 300
        cycleCount := 8200 }
    activeTable := plantTable
    store := rebuiltStore (Vector.replicate 32 Entry.zero) plantTable (Vector.replicate 32 none)
    crushers := Vector.replicate 4 Crusher.reset |>.set 1 runningCrusher
    feeders :=
      Vector.replicate 4 Feeder.reset |>.set 1 { Feeder.reset with output := 800, driveValue := some 13107 }
    lots :=
      { LotTracker.reset with
        table := twoLots, position := 200, tagCounter := 6, weighedTotal := 350, creditedTotal := 200
        inventory := 1000 }
    line := { LineControl.reset with lineMode := .run }
    handler :=
      { Handler.reset with
        session := some { bank := .curve, portal := 262, startIndex := 260, wordsTaken := 2, overflowed := false } } }

/-- A part that is acquiring lock: seven markers of a run of eight, the last with number 4. -/
def acquiring : State :=
  { State.reset with
    tracker := { Tracker.reset with runCount := 7, expected := some 5, period := some 100, supervision := some 300 } }

/-- The part at work with the values of section 1.11 in the records of C1's hydraulic unit, and a load of 780. -/
def measured : State :=
  { plant with
    store :=
      plant.store.set 0 (some ⟨true, some 8195, .scalar (some 2457)⟩)
        |>.set 4 (some ⟨true, some 8200, .scalar (some 1012)⟩)
        |>.set 5 (some ⟨true, some 8200, .scalar (some 1850)⟩)
        |>.set 6 (some ⟨true, some 8200, .actuator (some ⟨37, .done, false⟩)⟩) }

/-- The same with a move of C1 in flight, the 37th of this crusher. -/
def moving : State :=
  { measured with
    crushers :=
      Vector.replicate 4 Crusher.reset |>.set 1
        { runningCrusher with
          state := .move, moveSeq := 37, command := ⟨.adjust, 37, 12⟩
          moveRec := some ⟨some 37, some 12, .target, .issued, 999⟩ } }

/-- The same with a trip unit and a governed diverter, whose records were taken 6 cycles ago. -/
def equipped : State :=
  { measured with
    activeTable := plantTable |>.set 7 (entryAt 24 13 0 1 0 0xFF 0 5) |>.set 8 (entryAt 25 12 0 3 0 0 0 6)
    store :=
      measured.store.set 7 (some ⟨true, some 8194, .tripWord (some 0)⟩)
        |>.set 8 (some ⟨true, some 8194, .confirm (some .reject)⟩) }

/-- The equipped part with a word of its trip unit, whose record is FRESH or STALE. -/
def unitState (fresh : Bool) (word : Byte) : State :=
  { equipped with store := equipped.store.set 7 (some ⟨fresh, some 8194, .tripWord (some word)⟩) }

/-- The part at work in another line mode, with C1 in a state and its feeder at 0. -/
def plantIn (mode : LineMode) (x : CrusherState) : State :=
  { plant with
    line := { LineControl.reset with lineMode := mode }
    crushers := Vector.replicate 4 Crusher.reset |>.set 1 { runningCrusher with state := x }
    feeders := Vector.replicate 4 Feeder.reset |>.set 1 { Feeder.reset with driveValue := some 0 } }

/-- The part at work in READY with valid staged banks and both commits pending. The staged station table has a trip unit
in addition. -/
def committing : State :=
  { plantIn .ready .standby with
    stagedTable := plantTable |>.set 7 (entryAt 24 13 0 1 0 0xFF 0 5)
    handler := { Handler.reset with pendingStation := true, pendingCurve := true } }

/-- A part whose line is TRIPPED by its pin, which is high again. -/
def tripped : State :=
  { State.reset with
    pins := { tripInLow := false, tripOut := true, lock := false }
    line :=
      { LineControl.reset with
        lineMode := .tripped
        tripRec := some { fromMode := .idle, entryCycle := 0, inputs := { TripInputs.none with pin := true } }
        tripEntries := 1 }
    causes := CauseUnit.reset.raise 0x3FFF .trip }

/-- What a command leaves; the state itself where it ends otherwise. -/
def after (i : Instr) (s : State) : State :=
  match exec i s with
  | .next t => t
  | _ => s

/-- The payload of the reply at the tail of the M-bound queue: the result code and the data. -/
def replied (s : State) : Option (List Byte) := s.relay.mBound.getLast?.map fun t => t.payload

/-! ### Invariants of the test states -/

/-- The cause unit agrees with the conditions of a state, judged cause by cause. -/
def causesAgree (s : State) : Bool :=
  allCauses.all fun x =>
    decide ((s.causes.entry x).count = 0 ↔ (s.causes.entry x).pending = false) &&
      decide ((s.causes.entry x).count ≤ 255) &&
      (!x.isLevel || (s.causes.entry x).pending == levelHolds x s)

theorem causeInv_of_agree {s : State} (h : causesAgree s = true) : CauseInv s := by
  have hx (x : Cause) := List.all_eq_true.1 h x (Cause.mem_all x)
  simp only [Bool.and_eq_true, Bool.or_eq_true, beq_iff_eq, decide_eq_true_eq, Bool.not_eq_true'] at hx
  refine ⟨fun x => (hx x).1.1, fun x => (hx x).1.2, fun x hl => ?_⟩
  · rcases (hx x).2 with hf | he
    · simp [hl] at hf
    · exact he

/-- A context with neither a move nor a relief record, in a state that needs none. -/
theorem contextInv_of_quiet {x : Crusher} (hm : x.moveRec = none) (hr : x.reliefRec = none) (hp : x.proposedStep = none)
    (hs : x.state = .absent ∨ x.state = .standby ∨ x.state = .run ∨ x.state = .fault) (hc : x.settleCount = 0)
    (hw : x.wear ≤ 65535) (ht : x.params.cssMin ≤ x.cssTarget ∧ x.cssTarget ≤ x.params.cssMax)
    (hk : (x.params.checks true).all id = true) : ContextInv x := by
  refine ⟨fun ok ho => List.all_eq_true.1 hk ok ho, ht, by simp [hm], ?_, fun _ => hr, ?_, ?_, by simp [hr],
    fun _ => hc, ⟨by omega, hw⟩, by simp [hp]⟩
  all_goals intro h; rw [h] at hs; simp at hs

/-! ### One command each -/

theorem test_power_on_trip_low :
    let t := after (.powerOnReset 5 2 true) plant
    t.line.lineMode = .tripped ∧ t.pins.tripOut = true ∧ topCause t.causes = 1 ∧ t.straps = ⟨5, 2⟩ := by decide +kernel

theorem test_trip_in_low :
    let t := after (.tripInChange true) plant
    t.line.lineMode = .tripped ∧ (t.feeder 1).output = 0 ∧ (t.crusher 1).state = .standby ∧
      t.line.tripRec.map TripRec.fromMode = some .run := by decide +kernel

theorem test_marker_starts_run :
    (after (.cycleMarker 0 127 0 [255, 100]) State.reset).tracker =
      { Tracker.reset with runCount := 1, expected := some 0, period := some 100, supervision := some 300 } := by
  decide +kernel

theorem test_marker_invalid :
    let t := after (.cycleMarker 0 127 0 [5, 1]) acquiring
    t.tracker = { acquiring.tracker with invalidMarkers := 1 } ∧ t.relay.fBound.length = 1 := by decide +kernel

theorem test_expiry_ends_lock :
    let t := after .supervisionExpiry plant
    t.tracker.lockState = .search ∧ t.tracker.lockLosses = 1 ∧ t.pins.lock = false ∧ t.line.lineMode = .idle ∧
      (t.crusher 1).state = .standby := by decide +kernel

/-- The reply of section 1.11 at cycle 8200: Table 1-8's three records; and the gap of 1012 against a target of 1000 is a
move of 12 (R50, R53). -/
theorem test_reply_of_hydraulic_unit :
    let t := after (.fieldReply 127 21 0 [0x03, 0xF4, 0x0B, 0x90, 37, 2, 0]) plant
    t.store[4] = some ⟨true, some 8200, .scalar (some 1012)⟩ ∧ t.store[5] = some ⟨true, some 8200, .scalar (some 1850)⟩ ∧
      t.store[6] = some ⟨true, some 8200, .actuator (some ⟨37, .done, false⟩)⟩ ∧ (t.crusher 1).state = .move ∧
      (t.crusher 1).command = ⟨.adjust, 1, 12⟩ := by decide +kernel

/-- The reply of section 1.11 at cycle 8203: five bytes leave the status short. -/
theorem test_reply_short :
    let t := after (.fieldReply 127 21 0 [0x03, 0xF2, 0x0B, 0x80, 37]) plant
    t.store[5] = some ⟨true, some 8200, .scalar (some 1840)⟩ ∧ t.store[6] = plant.store[6] ∧ t.shortFields = 1 := by
  decide +kernel

theorem test_forward_to_field :
    (after (.mTelegramForward .stream 9 127 0 [1, 2]) plant).relay.fBound =
      [speedRequest, Telegram.make .stream 9 127 0 [1, 2]] := by decide +kernel

theorem test_misdirected :
    let t := after (.fTelegramForward .request 1 9 0 []) plant
    t.relay.misdirected = 1 ∧ t.relay.mBound = [] ∧ (t.causes.entry .lineError).pending = true := by decide +kernel

/-- R181: two words reach the end of the curve bank, the third is discarded. -/
theorem test_stream_overflow :
    let t := after (.streamTelegram 1 127 0 [1, 2, 3, 4, 5, 6]) plant
    t.curveWord 262 = some 0x0102 ∧ t.curveWord 263 = some 0x0304 ∧
      t.handler.session = some ⟨.curve, 264, 260, 5, true⟩ ∧ (t.causes.entry .streamAborted).pending = true := by
  decide +kernel

theorem test_stream_end_flag :
    let t := after (.streamTelegram 1 127 1 [1, 2]) plant
    t.handler.session = none ∧ t.handler.lastSessionEnd = .endFlag ∧
      t.handler.lastSession = some ⟨.curve, 263, 260, 3, false⟩ := by decide +kernel

theorem test_parity_error :
    let t := after (.parityError .m) plant
    t.portM.rx = .hunt ∧ t.portM.parityErrors = 1 ∧ t.portM.framingErrors = 0 := by decide +kernel

theorem test_framing_error :
    let t := after (.framingError .f) plant
    t.portF.rx = .hunt ∧ t.portF.framingErrors = 1 ∧ t.portM = plant.portM := by decide +kernel

theorem test_kind_error :
    let t := after (.kindError .f) plant
    t.portF.rx = .hunt ∧ t.portF.kindErrors = 1 := by decide +kernel

theorem test_length_error :
    let t := after (.lengthError .m) plant
    t.portM.rx = .hunt ∧ t.portM.lengthErrors = 1 := by decide +kernel

theorem test_check_error :
    let t := after (.checkError .m) plant
    t.portM.rx = .idle ∧ t.portM.checkErrors = 1 := by decide +kernel

theorem test_fragment :
    let t := after (.fragment .m) plant
    t.portM.rx = .idle ∧ t.portM.fragments = 1 := by decide +kernel

theorem test_hunt_idle : (after (.huntIdle .m) State.reset).portM.rx = .idle := by decide +kernel

/-- Section 10.9: a break on port M cuts a curve load. -/
theorem test_break_cuts_load :
    let t := after (.lineBreak .m) plant
    t.handler.session = none ∧ t.handler.lastSessionEnd = .lineBreak ∧ t.breakPending = true ∧ t.portM.breaks = 1 ∧
      (t.causes.entry .streamAborted).pending = true := by decide +kernel

theorem test_break_end : (after (.breakEnd .m) (after (.lineBreak .m) plant)).portM.rx = .idle := by decide +kernel

theorem test_break_repeat :
    let t := after .breakRepeat (after (.lineBreak .m) plant)
    t.portF.tx = .breaking ∧ t.portF.de = true ∧ t.portF.txLine = .space ∧ t.breakPending = false := by decide +kernel

theorem test_break_repeat_end :
    let t := after .breakRepeatEnd (after .breakRepeat (after (.lineBreak .m) plant))
    t.portF.tx = .idle ∧ t.portF.de = false ∧ t.portF.txLine = .mark := by decide +kernel

/-- R165 in GOVERN: the drive value 13107 takes the place of the master's 16384. -/
theorem test_transmit_rewrites :
    let t := after (.transmitStart .f) plant
    t.portF.tx = .sending (Telegram.make .request 22 127 0 [0x33, 0x33]) ∧ t.portF.de = true ∧
      t.rewriter.rewrites = 1 := by decide +kernel

theorem test_transmit_complete :
    let t := after (.transmitComplete .f) (after (.transmitStart .f) plant)
    t.portF.tx = .idle ∧ t.portF.de = false ∧ t.relay.fBound = [] := by decide +kernel

theorem test_status_poll :
    let t := after (.statusPoll 1 127 []) tripped
    replied t = some [0, 1, 1, 5, 0, 0, 0, 0, 0, 0, 1] ∧ t.causes.attention = false := by decide +kernel

theorem test_read_causes :
    let t := after (.readCauses 1 127 []) tripped
    replied t = some [0, 1, 1, 1, 1] ∧ (t.causes.entry .trip).pending = true := by decide +kernel

theorem test_read_lot_row :
    replied (after (.readRecord 1 127 [2, 0, 0, 0]) plant) =
      some ([0, 2, 0, 0, 1] ++ [0, 0, 0x20, 0x08] ++
        [1, 4, 1, 0, 0, 0, 120, 0, 0, 0, 100, 1, 0, 0, 0, 160, 1, 1, 0, 0]) := by decide +kernel

theorem test_read_record_refused :
    [replied (after (.readRecord 1 127 [2, 64, 0, 0]) plant), replied (after (.readRecord 1 127 [2, 0, 0, 1]) plant),
      replied (after (.readRecord 1 127 [2, 0, 0]) plant)] = [some [4], some [4], some [4]] := by decide +kernel

theorem test_write_crusher_clamps :
    let t := after (.writeCrusher 1 127 (1 :: codeCrusherParams { CrusherParams.defaults with cssMin := 1100 })) plant
    replied t = some [1] ∧ (t.crusher 1).cssTarget = 1100 := by decide +kernel

theorem test_write_crusher_refused :
    let t := after (.writeCrusher 1 127 (1 :: codeCrusherParams { CrusherParams.defaults with deadband := 0 })) plant
    replied t = some [4, 3] ∧ t.crushers = plant.crushers := by decide +kernel

theorem test_write_feeder_zeroes :
    let t := after (.writeFeeder 1 127 [1, 0, 10, 0, 50, 1, 0xF4, 0, 0]) { plant with feeders := plant.feeders.set 1 { plant.feeder 1 with output := 499 } }
    replied t = some [0] ∧ (t.feeder 1).output = 0 ∧ (t.feeder 1).minRun = 500 ∧ (t.feeder 1).driveValue = some 0 := by
  decide +kernel

theorem test_write_feeder_refused :
    replied (after (.writeFeeder 1 127 [1, 0, 10, 0x03, 0xE9, 0, 100, 0, 0]) plant) = some [4, 2] := by decide +kernel

theorem test_write_line_lowers_inventory :
    let t := after (.writeLine 1 127 (codeLineParams { LineParams.defaults with capacity := 900 })) plant
    replied t = some [0] ∧ t.params.capacity = 900 ∧ t.lots.inventory = 900 := by decide +kernel

theorem test_write_line_refused :
    replied (after (.writeLine 1 127 (codeLineParams { LineParams.defaults with transportDistance := 70 })) plant) =
      some [4, 0] := by decide +kernel

theorem test_set_target_clamps :
    let t := after (.setTarget 1 127 [1, 0x0B, 0xB8]) plant
    replied t = some [1, 0x09, 0xC4] ∧ (t.crusher 1).cssTarget = 2500 := by decide +kernel

theorem test_set_target_absent : replied (after (.setTarget 1 127 [0, 3, 0]) plant) = some [3] := by decide +kernel

theorem test_crusher_enable :
    let t := after (.crusherEnable 1 127 [1]) (plantIn .run .standby)
    replied t = some [0] ∧ (t.crusher 1).state = .run := by decide +kernel

theorem test_crusher_enable_refused :
    replied (after (.crusherEnable 1 127 [1]) (plantIn .ready .standby)) = some [3] := by decide +kernel

theorem test_crusher_disable :
    let t := after (.crusherDisable 1 127 [1]) plant
    (t.crusher 1).state = .standby ∧ (t.crusher 1).command.kind = .stop ∧ (t.feeder 1).output = 0 := by decide +kernel

/-- R46: an injected FAULT with its cause pending. -/
theorem test_fault_clear :
    let s := { plantIn .ready .fault with causes := CauseUnit.reset.raise 0x3FFF .crusherFault }
    let t := after (.faultClear 1 127 [1]) s
    (t.crusher 1).state = .standby ∧ (t.causes.entry .crusherFault).pending = false ∧ t.causes.attention = true := by
  decide +kernel

theorem test_wear_reset :
    let s := { plant with crushers := plant.crushers.set 1 { runningCrusher with wear := 65535 }
                          causes := CauseUnit.reset.raise 0x3FFF .linerDue }
    let t := after (.wearReset 1 127 [1]) s
    (t.crusher 1).wear = 0 ∧ (t.causes.entry .linerDue).pending = false := by decide +kernel

theorem test_line_start :
    let t := after (.lineStart 1 127 []) (plantIn .ready .standby)
    replied t = some [0, 2] ∧ t.line.lineMode = .run := by decide +kernel

theorem test_line_stop :
    let t := after (.lineStop 1 127 []) plant
    replied t = some [0, 3] ∧ t.line.stopRec = some ⟨8200, 30000⟩ ∧ (t.feeder 1).output = 800 := by decide +kernel

theorem test_trip_release :
    let t := after (.tripRelease 1 127 []) tripped
    replied t = some [0, 0, 0, 0] ∧ t.line.lineMode = .idle ∧ t.pins.tripOut = false := by decide +kernel

theorem test_trip_release_refused :
    replied (after (.tripRelease 1 127 []) { tripped with pins := { tripped.pins with tripInLow := true } }) =
      some [3, 5, 1, 0] := by decide +kernel

theorem test_reject_lot :
    let t := after (.rejectLot 1 127 [5]) plant
    replied t = some [0, 0, 1, 1] ∧ t.lots.table.map Lot.reject = [true, true] := by decide +kernel

theorem test_reject_lot_unknown : replied (after (.rejectLot 1 127 [6]) plant) = some [4] := by decide +kernel

theorem test_load_open :
    let t := after (.loadOpen 1 127 [0, 0, 255]) plant
    replied t = some [0, 0, 0, 255] ∧ t.handler.session = some ⟨.station, 255, 255, 0, false⟩ ∧
      t.handler.lastSessionEnd = .request := by decide +kernel

theorem test_load_open_refused :
    [replied (after (.loadOpen 1 127 [0, 1, 0]) plant), replied (after (.loadOpen 1 127 [1, 1, 8]) plant)] =
      [some [4], some [4]] := by decide +kernel

theorem test_commit_curve :
    let t := after (.commit 1 127 [1]) plant
    replied t = some [0] ∧ t.handler.pendingCurve = true ∧ t.handler.pendingStation = false := by decide +kernel

/-- R97: a count of 1 in the staged curve 3 fails COUNT, check 0. -/
theorem test_commit_invalid :
    replied (after (.commit 1 127 [1]) { plant with stagedCurves := writeCurveWord plant.stagedCurves 99 1 }) =
      some [6, 3, 0] := by decide +kernel

theorem test_dry_run :
    let t := after (.dryRun 1 127 [1]) plant
    replied t = some [0, 1] ∧ t.handler.dryRun = true := by decide +kernel

theorem test_device_clear :
    let t := after (.deviceClear 1 127 []) { tripped with shortFields := 7, causes := tripped.causes.raise 0x3FFF .lineError }
    t.shortFields = 0 ∧ t.line.tripEntries = 0 ∧ t.causes = { CauseUnit.reset.raise 0x3FFF .trip with sequence := 1 } := by
  decide +kernel

theorem test_warm_restart :
    let t := after (.warmRestart 1 127 []) plant
    t.tracker.lockState = .search ∧ t.tracker.cycleCount = 8200 ∧ t.line.lineMode = .idle ∧
      (t.crusher 1).state = .standby ∧ t.lots = plant.lots := by decide +kernel

/-- Section 11.6, step 3, at the part with lineEnd set: its field is 0 while its attention is clear. -/
theorem test_roll_call :
    let s := { tripped with handler := { tripped.handler with params := { LineParams.defaults with lineEnd := true, rollBit := some 2 } } }
    replied (after (.rollCall 0 127 []) s) = some [0, 0, 4] ∧
      replied (after (.rollCall 0 127 []) { s with causes := CauseUnit.reset }) = some [0, 0, 0] := by decide +kernel

theorem test_unknown_function : replied (after (.unknownFunction 1 127 0x16 [9]) plant) = some [7] := by decide +kernel

theorem test_good_character :
    (after (.goodCharacter .m 22) plant).portM.rx = .receiving [0x5C, 22] ∧
      (after (.goodCharacter .f 0x5D) plant).portF.kindErrors = 1 := by decide +kernel

/-! ### The test states hold the invariants -/

/-- The store of a state agrees with its table, entry by entry. -/
def storeAgrees (s : State) : Bool :=
  indices.all fun i =>
    match s.store[i] with
    | none => !(s.activeTable[i]).used
    | some rec =>
      (s.activeTable[i]).used && (!rec.fresh || rec.arrival.isSome) &&
        match (s.activeTable[i]).role? with
        | some r => rec.value.fits r rec.fresh
        | none => false

theorem storeInv_of_agree {s : State} (h : storeAgrees s = true) : StoreInv s := by
  have hi (i : Fin 32) := List.all_eq_true.1 h i (List.mem_finRange i)
  refine ⟨fun i => ?_, fun i rec hr => ?_, fun i rec hr hf => ?_⟩ <;> have := hi i
  · cases hs : s.store[i] <;> simp_all
  · rw [hr] at this
    cases hq : (s.activeTable[i]).role? <;> simp_all
  · rw [hr] at this
    simp_all

theorem causeInv_reset : CauseInv State.reset := causeInv_of_agree (by decide +kernel)
theorem causeInv_plant : CauseInv plant := causeInv_of_agree (by decide +kernel)
theorem causeInv_tripped : CauseInv tripped := causeInv_of_agree (by decide +kernel)
theorem storeInv_plant : StoreInv plant := storeInv_of_agree (by decide +kernel)
theorem causeInv_measured : CauseInv measured := causeInv_of_agree (by decide +kernel)
theorem causeInv_moving : CauseInv moving := causeInv_of_agree (by decide +kernel)
theorem causeInv_equipped : CauseInv equipped := causeInv_of_agree (by decide +kernel)
theorem causeInv_committing : CauseInv committing := causeInv_of_agree (by decide +kernel)
theorem lineInv_reset : LineInv State.reset := ⟨rfl, rfl, rfl, rfl, by decide +kernel, by decide +kernel⟩
theorem lineInv_plant : LineInv plant := ⟨rfl, rfl, rfl, rfl, by decide +kernel, by decide +kernel⟩
theorem lineInv_tripped : LineInv tripped := ⟨rfl, rfl, rfl, rfl, by decide +kernel, by decide +kernel⟩

theorem feederInv_plant : FeederInv plant :=
  ⟨by decide +kernel, by decide +kernel, by decide +kernel, by decide +kernel, by decide +kernel⟩

theorem crusherInv_plant : CrusherInv plant := by
  refine ⟨fun k => ?_, by decide +kernel⟩
  have hk : plant.crusher k = if k = 1 then runningCrusher else Crusher.reset := by revert k; decide +kernel
  rw [hk]
  split <;> exact contextInv_of_quiet rfl rfl rfl (by decide) rfl (by decide) (by decide) (by decide)

/-- C1 with its move in flight. -/
theorem contextInv_moving : ContextInv (moving.crusher 1) := by
  refine ⟨by decide +kernel, by decide +kernel, fun m hm => ?_, fun _ => rfl, fun _ => rfl, by decide +kernel,
    by decide +kernel, fun r hr => ?_, by decide +kernel, by decide +kernel, fun step hs => ?_⟩
  · cases hm
    exact ⟨⟨by decide, fun _ => ⟨12, by decide +kernel⟩, by decide⟩, by decide +kernel⟩
  · cases hr
  · cases hs

theorem paramsInv_plant : ParamsInv plant := by
  refine ⟨?_, ?_, ?_, ?_, ?_, ?_, ?_, ?_, fun g hg => by cases hg⟩ <;> decide +kernel

theorem trackerInv_plant : TrackerInv plant := by
  refine ⟨by decide +kernel, by decide +kernel, by decide +kernel, fun p hp => ?_, fun n hn => ?_, by decide +kernel⟩
  · cases hp; decide
  · cases hn; decide

theorem lotsInv_plant : LotsInv plant := by
  refine ⟨by decide +kernel, ?_, ?_, ?_, by decide +kernel, by decide +kernel, by decide +kernel, by decide +kernel⟩
  · refine List.pairwise_pair.2 ⟨by decide +kernel, fun e f he hf => (by cases hf), by decide, by decide⟩
  · intro l hl
    rcases List.mem_pair.1 hl with rfl | rfl
    · exact ⟨by decide, fun _ => ⟨160, rfl, by decide +kernel⟩, by decide⟩
    · exact ⟨fun _ => by decide +kernel, by decide, by decide⟩
  · intro i l hl
    match i with
    | 0 => cases hl; rfl
    | 1 => cases hl; rfl
    | n + 2 => cases hl

theorem relayInv_plant : RelayInv plant := by
  refine ⟨by decide +kernel, by decide +kernel, by decide +kernel, by decide +kernel, ?_, ?_, ?_, by decide +kernel⟩
  · intro p t h; cases p <;> cases h
  · intro p; cases p <;> rfl
  · intro p; cases p <;> decide +kernel

theorem receiverInv_plant : ReceiverInv plant := by
  intro p part h
  cases p
  · cases h; exact ⟨⟨0x5C, [], rfl, rfl⟩, fun n hn => by cases hn⟩
  · cases h

/-- The tables of a state with no active curve, and a session that lies within its bank or none. -/
theorem tableInv_of_noCurve {s : State} (ha : stationFailure s.ownAddress s.activeTable = none)
    (hs : s.handler.pendingStation = true →
      stationFailure s.ownAddress s.stagedTable = none ∧ sessionOn s.handler .station = false)
    (hc : s.handler.pendingCurve = true → curveFailure s.stagedCurves = none ∧ sessionOn s.handler .curve = false)
    (he : s.activeCurves = Vector.replicate 8 [])
    (hx : ∀ x, s.handler.session = some x → x.portal ≤ x.bank.size ∧ x.startIndex ≤ x.portal ∧ x.wordsTaken ≤ 65535) :
    TableInv s := by
  refine ⟨ha, hs, hc, fun i => ?_, hx⟩
  rw [he, show (Vector.replicate 8 ([] : Curve))[i] = [] by simp]
  exact ⟨.inl rfl, by simp, by simp⟩

theorem tableInv_plant : TableInv plant :=
  tableInv_of_noCurve (by decide +kernel) (by decide +kernel) (by decide +kernel) rfl fun x hx => by cases hx; decide

theorem tableInv_equipped : TableInv equipped :=
  tableInv_of_noCurve (by decide +kernel) (by decide +kernel) (by decide +kernel) rfl fun x hx => by cases hx; decide

theorem tableInv_committing : TableInv committing :=
  tableInv_of_noCurve (by decide +kernel) (by decide +kernel) (by decide +kernel) rfl fun x hx => by cases hx

theorem contextInv_plant (k : Fin 4) : ContextInv (plant.crusher k) := crusherInv_plant.context k

/-! ### Witnesses: the queue and the invariants -/

/-- A supervision of 2 ticks down, 1 and 0 expire, none stands. -/
theorem witness_StepTakesFront :
    ({ plant with pending := [Instr.breakRepeat, .breakRepeatEnd] }).pending = .breakRepeat :: [.breakRepeatEnd] ∧
      (1 < 2 ∧ ({ plant with tracker := { plant.tracker with supervision := some 2 } }).pending = []) ∧
      (∀ n ∈ [0, 1], n ≤ 1 ∧ ({ plant with tracker := { plant.tracker with supervision := some n } }).pending = []) ∧
      State.reset.tracker.supervision = none ∧ State.reset.pending = [] := by decide +kernel

/-- A command waits at the part at work, and a step takes it. -/
theorem witness_step_of_plant :
    ∃ t, step { plant with pending := [.lineStop 1 127 []] } = .next t ∧ t.line.lineMode = .stopping :=
  ⟨_, rfl, by decide +kernel⟩

theorem witness_invariants_of_plant :
    LineInv plant ∧ CauseInv plant ∧ CrusherInv plant ∧ FeederInv plant ∧ (LotsInv plant ∧ ParamsInv plant) ∧
      TrackerInv plant ∧ (RelayInv plant ∧ ReceiverInv plant) ∧ TableInv plant ∧ StoreInv plant ∧
      ∃ t, step plant = .next t :=
  ⟨lineInv_plant, causeInv_plant, crusherInv_plant, feederInv_plant, ⟨lotsInv_plant, paramsInv_plant⟩, trackerInv_plant,
    ⟨relayInv_plant, receiverInv_plant⟩, tableInv_plant, storeInv_plant, ⟨_, rfl⟩⟩

/-! ### Witnesses: pins, markers and supervision -/

/-- A part with no trip unit; one whose trip unit sets two lines, FRESH and STALE; no input active, one active in RUN, and
one active in TRIPPED; a level of the pin that it has and one that it has not. -/
theorem witness_TripInputsEvaluated :
    (∀ i : Fin 32, plant.activeTable[i].used = true → plant.activeTable[i].role? ≠ some .tripUnit) ∧
      (∀ fresh : Bool, TableInv (unitState fresh 0x81) ∧ (unitState fresh 0x81).activeTable[7].used = true ∧
        (unitState fresh 0x81).activeTable[7].role? = some .tripUnit ∧
        (unitState fresh 0x81).store[7] = some ⟨fresh, some 8194, .tripWord (some 0x81)⟩) ∧
      (false = plant.pins.tripInLow ∧ true ≠ plant.pins.tripInLow) ∧ ¬(tripInputs plant).active ∧
      ((tripInputs (unitState true 0x81)).active ∧ (unitState true 0x81).line.lineMode ≠ .tripped ∧
        CauseInv (unitState true 0x81)) ∧
      (tripInputs { tripped with pins := { tripped.pins with tripInLow := true } }).active ∧
      tripped.line.lineMode = .tripped :=
  ⟨by decide +kernel,
    fun fresh =>
      ⟨tableInv_of_noCurve (by cases fresh <;> decide +kernel) (by cases fresh <;> decide +kernel)
        (by cases fresh <;> decide +kernel) rfl fun x hx => by cases hx; decide,
      by cases fresh <;> decide +kernel, by cases fresh <;> decide +kernel, by cases fresh <;> decide +kernel⟩,
    by decide +kernel, by decide +kernel, ⟨by decide +kernel, by decide +kernel, causeInv_of_agree (by decide +kernel)⟩,
    by decide +kernel, by decide +kernel⟩

/-- R132 and R135: an arrival with lines 0 and 7 set, of which tripMask enables line 7, trips the line; a second one in
TRIPPED, by then stale, is added. -/
theorem test_trip_unit_arrival :
    let masked (s : State) : State :=
      { s with handler := { s.handler with params := { LineParams.defaults with tripMask := 0xFE } } }
    let t := deliverArrival { role := .tripUnit, increment := 0 } (masked (unitState true 0x81))
    let v := deliverArrival { role := .tripUnit, increment := 0 } { t with store := (unitState false 0x81).store }
    t.line.tripRec = some ⟨.run, 8200, ⟨false, true, false, 0x80⟩⟩ ∧
      v.line.tripRec = some ⟨.run, 8200, ⟨false, true, true, 0x80⟩⟩ := by decide +kernel

/-- Payloads of 0, 1 and 3 bytes, and the periods 1 and 251. -/
theorem witness_MarkersShortOfLock_invalid :
    plant.relay.fBound.length < 4 ∧
      ∀ payload ∈ ([[], [5], [5, 1], [5, 251], [5, 2, 0]] : List (List Byte)), payload.length ≤ 40 ∧
        (payload.length ≠ 2 ∨ ∃ n p, payload = [n, p] ∧ (p.toNat < 2 ∨ 250 < p.toNat)) := by
  refine ⟨by decide, ?_⟩
  simp only [List.forall_mem_cons, List.not_mem_nil, false_imp_iff, implies_true, and_true]
  exact ⟨⟨by decide, .inl (by decide)⟩, ⟨by decide, .inl (by decide)⟩, ⟨by decide, .inr ⟨5, 1, rfl, .inl (by decide)⟩⟩,
    ⟨by decide, .inr ⟨5, 251, rfl, .inr (by decide)⟩⟩, ⟨by decide, .inl (by decide)⟩⟩

/-- The periods 2 and 250, and runs of 1 (another number) and of 7 (the expected one) under a threshold of 8. -/
theorem witness_MarkersShortOfLock_search :
    State.reset.tracker.lockState = .search ∧ State.reset.relay.fBound.length < 4 ∧
      (2 ≤ (2 : Byte).toNat ∧ (250 : Byte).toNat ≤ 250) ∧
      (∀ run ∈ [6], ∀ n ∈ [(5 : Byte), 6],
        (if ({ acquiring.tracker with runCount := run }).expected = some n then run + 1 else 1) <
          acquiring.params.lockThreshold) := by decide +kernel

/-- The eighth marker of a run of eight. -/
theorem witness_MarkerAcquiresLock :
    acquiring.tracker.lockState = .search ∧ acquiring.line.lineMode = .idle ∧
      acquiring.handler.pendingStation = false ∧ acquiring.handler.pendingCurve = false ∧ 2 ≤ (100 : Byte).toNat ∧
      (100 : Byte).toNat ≤ 250 ∧
      acquiring.params.lockThreshold ≤
        (if acquiring.tracker.expected = some 5 then acquiring.tracker.runCount + 1 else 1) := by decide +kernel

/-- A marker in sequence, a third slip and a fourth; an F-bound queue with room and a full one. -/
theorem witness_MarkerInLock :
    plant.tracker.lockState = .locked ∧ (2 ≤ (2 : Byte).toNat ∧ (250 : Byte).toNat ≤ 250) ∧
      plant.tracker.expected = some 5 ∧ (plant.tracker.expected ≠ some 6 ∧ plant.tracker.slipRun < 3) ∧
      3 ≤ ({ plant.tracker with slipRun := 3 }).slipRun ∧ plant.relay.fBound.length < 4 ∧
      4 ≤ ({ plant.relay with fBound := List.replicate 4 speedRequest }).fBound.length := by decide +kernel

/-- No record of the part at work is FRESH; of the equipped part the record of the trip unit is past its freshLimit of 5
at an age of 6, and the one of the diverter, at its freshLimit of 6, is not. -/
theorem witness_CountedCycleWork_store :
    CauseInv plant ∧ TableInv plant ∧ (∀ rec ∈ plant.store.toList, rec.all (fun x => !x.fresh) = true) ∧
      CauseInv equipped ∧ TableInv equipped ∧ (equipped.activeTable[7]).holds .tripUnit = true ∧
      equipped.store[7] = some ⟨true, some 8194, .tripWord (some 0)⟩ ∧ equipped.tracker.cycleCount = 8200 ∧
      (equipped.activeTable[7]).freshLimit = 5 ∧ (equipped.activeTable[8]).freshLimit = 6 :=
  ⟨causeInv_plant, tableInv_plant, by decide +kernel, causeInv_equipped, tableInv_equipped, by decide +kernel,
    by decide +kernel, rfl, by decide +kernel, by decide +kernel⟩

/-- A part with no diverter, and a governed diverter that confirms REJECT while PASS is commanded. -/
theorem witness_CountedCycleWork_confirm :
    (∀ i : Fin 32, plant.activeTable[i].used = true → plant.activeTable[i].role? ≠ some .diverter) ∧
      (equipped.activeTable[8]).used = true ∧ (equipped.activeTable[8]).role? = some .diverter ∧
      (equipped.activeTable[8]).mode? = some .govern ∧ equipped.handler.dryRun = false ∧
      equipped.store[8] = some ⟨true, some 8194, .confirm (some .reject)⟩ ∧ equipped.lots.divertCommand = .pass := by
  decide +kernel

/-- R19 and R57 at one cycle: the trip unit goes STALE and trips; a move issued 999 cycles ago under the default timeout
counts on. -/
theorem test_counted_cycle :
    (cycleWork .store equipped).line.lineMode = .tripped ∧
      ((cycleWork .crushers moving).crusher 1).moveRec.map Move.elapsed = some 1000 := by decide +kernel

/-- Both commits pending, neither, and each alone. -/
theorem witness_CommitApplied :
    (TableInv committing ∧ CauseInv committing ∧ committing.handler.pendingStation = true ∧
        committing.handler.pendingCurve = true) ∧
      TableInv plant ∧ CauseInv plant ∧ plant.handler.pendingStation = false ∧ plant.handler.pendingCurve = false :=
  ⟨⟨tableInv_committing, causeInv_committing, rfl, rfl⟩, tableInv_plant, causeInv_plant, rfl, rfl⟩

/-- R98: of the staged curve 2 of Table 5-7 the first two points come into force by a count of 2. -/
theorem test_commit_applied :
    let s := { committing with
      handler := { Handler.reset with pendingCurve := true }
      stagedCurves :=
        [(66, 2), (68, 1000), (69, 600), (70, 1000), (71, 800)].foldl (fun c x => writeCurveWord c x.1 x.2)
          committing.stagedCurves }
    let t := applyPending .curve s
    t.activeCurves[2] = [⟨0, 1000⟩, ⟨600, 1000⟩] ∧ t.handler.pendingCurve = false ∧
      (t.causes.entry .tableCommitted).count = 1 := by decide +kernel

/-- A reply of C1's hydraulic unit with a gap of 1012, a pressure of 40959, and a status with its relief valve open. -/
def reliefPayload : List Byte := [0x03, 0xF4, 0xFF, 0xFF, 37, 2, 1]

/-- The part at work, with that reply waiting. -/
def meeting : State := { plant with pending := [.fieldReply 127 21 0 reliefPayload] }

/-- No reply waits at the part at work; at the other one a reply waits, with an onset sample of C1. -/
theorem witness_SupervisionExpires :
    (State.reset.tracker.lockState = .search ∧ acquiring.tracker.supervision.isSome = true) ∧
      (plant.tracker.lockState = .locked ∧ plant.tracker.supervision.isSome = true ∧ LineInv plant ∧ CauseInv plant ∧
        (∀ src payload, ¬plant.replyWaits src payload) ∧ StoreInv plant ∧ TableInv plant) ∧
      (meeting.tracker.lockState = .locked ∧ meeting.tracker.supervision.isSome = true ∧ LineInv meeting ∧
        CauseInv meeting ∧ StoreInv meeting ∧ TableInv meeting ∧ meeting.replyWaits 21 reliefPayload ∧
        meeting.onsetWaits 1) := by
  have hw : meeting.replyWaits 21 reliefPayload := ⟨by decide, 127, 0, [], .inl rfl⟩
  refine ⟨by decide +kernel, ⟨rfl, rfl, lineInv_plant, causeInv_plant, ?_, storeInv_plant, tableInv_plant⟩, rfl, rfl,
    ⟨rfl, rfl, rfl, rfl, by decide +kernel, by decide +kernel⟩, causeInv_of_agree (by decide +kernel),
    storeInv_of_agree (by decide +kernel),
    tableInv_of_noCurve (by decide +kernel) (by decide +kernel) (by decide +kernel) rfl fun x hx => by cases hx; decide,
    hw, 21, reliefPayload, 5, [0xFF, 0xFF], hw, .inl ⟨by decide +kernel, 40959, by decide +kernel, by decide +kernel⟩⟩
  rintro src payload ⟨-, dst, fn, rest, h | h | ⟨part, byte, h, -⟩⟩ <;> cases h

/-- R76, the loss taken first: the onset sample of a reply that came together with it opens the record in STANDBY and
raises RELIEF. The reply waits whole, or for its last character. -/
theorem test_onset_after_loss :
    let t := takeOnset 1 (loseLock plant)
    waitingOnsets plant = [] ∧ waitingOnsets meeting = [1, 1] ∧
      waitingOnsets
        { plant with
          portF := { plant.portF with rx := .receiving (Telegram.make .reply 127 21 0 reliefPayload).bytes.dropLast }
          pending := [.goodCharacter .f ((Telegram.make .reply 127 21 0 reliefPayload).bytes.getLastD 0)] } = [1, 1] ∧
      (t.crusher 1).state = .standby ∧ (t.crusher 1).reliefRec = some ⟨.opened, 1, 0, 8200⟩ ∧
      (t.causes.entry .relief) = ⟨true, 1⟩ ∧ (takeOnset 1 t).causes = t.causes ∧
      ((takeOnset 1 t).crusher 1).reliefRec = some ⟨.opened, 1, 0, 8200⟩ := by decide +kernel

/-- The same loss, as the expiry of supervision, with no onset sample waiting: it opens no record. -/
theorem test_loss_alone :
    let t := after .supervisionExpiry { plant with pending := [.fieldReply 127 21 0 [0x03, 0xF4, 0x03, 0xE8, 37, 2, 0]] }
    (t.crusher 1).state = .standby ∧ (t.crusher 1).reliefRec = none ∧ t.freeCount = 0 := by decide +kernel

/-! ### Witnesses: replies and forwarding -/

/-- A part in SEARCH and one in lock, whose entry 4 reads GAP at offset 0: a payload of 2 bytes holds the field. -/
theorem witness_FieldReplyObserved :
    State.reset.tracker.lockState = .search ∧
      (plant.tracker.lockState = .locked ∧ StoreInv plant ∧ TableInv plant) ∧
      plant.readField 21 [3, 244] 4 = some (.gap 1, some [3, 244]) ∧ plant.readField 21 [3] 4 = some (.gap 1, none) ∧
      plant.readField 21 [3, 244] 0 = none ∧ plant.relay.mBound.length < 4 ∧
      4 ≤ ({ plant.relay with mBound := List.replicate 4 speedRequest }).mBound.length :=
  ⟨rfl, ⟨rfl, storeInv_plant, tableInv_plant⟩, by decide +kernel, by decide +kernel, by decide +kernel, by decide +kernel,
    by decide⟩

/-- A part that reports on a roll-call in bit 2 when its attention is set, and the field of Table 11-2 that another part
has set already. -/
theorem witness_FieldReplyObserved_rollCall :
    let p := { LineParams.defaults with rollBit := some 2 }
    p.rollBit = some 2 ∧ tripped.causes.attention = p.rollSense ∧
      ((0x00 : Byte) ++ (0x01 : Byte) : Word).getLsbD 2 = false ∧ ((0x00 : Byte) ++ (0x04 : Byte) : Word).getLsbD 2 = true ∧
      LineParams.defaults.rollBit = none ∧ ([3, 0] : List Byte).length < 3 := by decide +kernel

/-- A queue of four telegrams. -/
def full : List Telegram := List.replicate 4 speedRequest

/-- A REPLY, a REQUEST to address 9, and a STREAM telegram to addresses 9 and 0; three telegrams waiting leave room, four
do not. -/
theorem witness_PortsForward_m :
    ([] : List Byte).length ≤ 40 ∧
      (∀ x ∈ [(Kind.request, (9 : Byte)), (.stream, 9), (.stream, 0)],
        (x.1 = .request ∧ x.2 ≠ 0 ∨ x.1 = .stream) ∧ plant.ownAddress ≠ some x.2 ∧
          plant.params.groupAddress ≠ some x.2) ∧
      ({ plant.relay with fBound := full.tail }).fBound.length < 4 ∧ 4 ≤ ({ plant.relay with fBound := full }).fBound.length := by
  decide +kernel

/-- A CYCLE telegram, a REQUEST to the own address (misdirected), one to address 9; room at port M, and none. -/
theorem witness_PortsForward_f :
    ([] : List Byte).length ≤ 40 ∧ (Kind.cycle ≠ .reply ∧ Kind.request ≠ .reply) ∧ plant.ownAddress = some 1 ∧
      (plant.ownAddress ≠ some 9 ∧ plant.params.groupAddress ≠ some 9) ∧ plant.relay.mBound.length < 4 ∧
      ¬({ plant.relay with mBound := full }).mBound.length < 4 := by decide +kernel

/-- A part with the group address 5, and the destinations 9, 0 and 5. -/
def grouped : State := { plant with handler := { plant.handler with params := { LineParams.defaults with groupAddress := some 5 } } }

theorem witness_RequestsNotTaken :
    grouped.relay.fBound.length < 4 ∧ (∀ dst ∈ [(9 : Byte), 0, 5], grouped.ownAddress ≠ some dst) ∧
      ((9 : Byte) ≠ 0 ∧ grouped.params.groupAddress ≠ some 9) ∧
      ((5 : Byte) ≠ 0 ∧ grouped.params.groupAddress = some 5) := by decide +kernel

/-! ### Witnesses: requests -/

/-- A request at the own address of the part at work, with room for its reply; 40 bytes fit and 41 do not. -/
theorem consumes_plant {payload : List Byte} (h : payload.length ≤ 40) : Consumes plant 1 payload :=
  ⟨by decide +kernel, h, by decide +kernel⟩

theorem witness_Consumes : Consumes plant 1 [] ∧ Consumes plant 1 (List.replicate 40 0) :=
  ⟨consumes_plant (by decide), consumes_plant (by decide)⟩

/-- The same at a tripped part. -/
theorem consumes_tripped {payload : List Byte} (h : payload.length ≤ 40) : Consumes tripped 1 payload :=
  ⟨by decide +kernel, h, by decide +kernel⟩

theorem witness_RequestsActWithoutReply :
    Consumes { grouped with handler := { grouped.handler with session := none } } 1 [1, 3, 0] ∧
      grouped.relay.fBound.length < 4 ∧ (0 : Byte) ≠ 1 ∧ (5 : Byte) ≠ 1 ∧ grouped.params.groupAddress = some 5 :=
  ⟨⟨by decide +kernel, by decide, by decide +kernel⟩, by decide +kernel, by decide, by decide, by decide +kernel⟩

/-- A SET_TARGET and a request with no name, at a part whose M-bound queue is full. -/
theorem witness_RequestsActWithoutReply_dropped :
    plant.ownAddress = some 1 ∧ 4 ≤ ({ plant with relay := { plant.relay with mBound := full } }).relay.mBound.length ∧
      ([1, 3, 0] : List Byte).length ≤ 40 ∧
      ∃ row ∈ requestRows, Instr.setTarget 1 127 [1, 3, 0] = row.2 1 127 [1, 3, 0] :=
  ⟨by decide +kernel, by decide, by decide, (0x07, .setTarget), by simp [requestRows], rfl⟩

/-- A SET_TARGET whose reply is dropped takes its effect. -/
theorem test_reply_dropped :
    let t := after (.setTarget 1 127 [1, 3, 0]) { plant with relay := { plant.relay with mBound := full } }
    (t.crusher 1).cssTarget = 768 ∧ t.relay.mBound = full ∧ t.relay.replyDrops = 1 ∧
      (t.causes.entry .lineError).pending = true := by decide +kernel

theorem witness_StatusPoll :
    Consumes grouped 1 [] ∧ grouped.relay.fBound.length < 4 ∧ (5 : Byte) ≠ 0 ∧ (5 : Byte) ≠ 1 ∧
      grouped.params.groupAddress = some 5 :=
  ⟨⟨by decide +kernel, by decide, by decide +kernel⟩, by decide +kernel, by decide, by decide, by decide +kernel⟩

/-- Room for the reply, and a full M-bound queue that drops it. -/
theorem witness_ReadCauses :
    plant.ownAddress = some 1 ∧ plant.relay.mBound.length < 4 ∧
      let full : Relay := { plant.relay with mBound := List.replicate 4 (Telegram.make .reply 127 9 0 []) }
      ({ plant with relay := full }).ownAddress = some 1 ∧ 4 ≤ ({ plant with relay := full }).relay.mBound.length := by
  decide +kernel

/-- Crusher index 3 has a record and 4 has none, a stage has the qualifiers 1 to 4; arguments of three bytes are short. -/
theorem witness_ReadRecord :
    Consumes plant 1 [0, 3, 0, 0] ∧ (recordBytes plant.asked 0 3 0).isSome = true ∧
      recordBytes plant.asked 0 4 0 = none ∧ recordBytes plant.asked 3 0 0 = none ∧
      (recordBytes plant.asked 3 63 4).isSome = true ∧ recordBytes plant.asked 10 0 0 = none ∧
      ([0, 3, 0] : List Byte).length < 4 :=
  ⟨consumes_plant (by decide), by decide +kernel, by decide +kernel, by decide +kernel, by decide +kernel,
    by decide +kernel, by decide⟩

/-- A used entry of the part at work with its record, and an unused one; the last lot row, and a stage of 1 and of 4. -/
theorem witness_RecordBytes :
    StoreInv plant ∧ (plant.activeTable[0]).used = true ∧ (plant.store[0]).isSome = true ∧
      (plant.activeTable[31]).used = false ∧ 63 < 64 ∧ (1 ≤ 1 ∧ 1 ≤ 4) ∧ 1 ≤ 4 ∧ 4 ≤ 4 :=
  ⟨storeInv_plant, by decide +kernel, by decide +kernel, by decide +kernel, by decide, by decide, by decide, by decide⟩

/-- R22 and R179: the observed value of the equipped diverter, FRESH, REJECT, 6 cycles old at cycle 8200. -/
theorem test_read_observed_value :
    recordBytes equipped 5 8 0 = some [1, 25, 12, 0, 0, 1, 1, 1, 0, 0, 0x20, 0x02, 1, 6] ∧
      recordBytes equipped 5 31 0 = some [0] := by decide +kernel

/-- The default parameters, and a window above the target that re-clamps it. -/
theorem witness_WriteCrusher :
    ∀ p ∈ [CrusherParams.defaults, { CrusherParams.defaults with cssMin := 1001, cssMax := 3000 }],
      (∀ ok ∈ p.checks true, ok = true) ∧ Consumes plant 1 (BitVec.ofNat 8 1 :: (codeCrusherParams p ++ [])) ∧
        CauseInv plant := by
  intro p hp
  rcases List.mem_pair.1 hp with rfl | rfl <;>
    exact ⟨by decide, consumes_plant (by decide +kernel), causeInv_plant⟩

/-- A deadband of 0 and a curve of 8 fail at places 2 and 15 of Table 3-2; an index of 4 and 29 bytes are refused. -/
theorem witness_WriteCrusher_refused :
    (let p := { CrusherParams.defaults with deadband := 0 }
     p.sized ∧ Consumes plant 1 (BitVec.ofNat 8 1 :: (p.wire 0xFF ++ [])) ∧ (p.rows 0xFF)[2]? = some false ∧
       ∀ m, m < 2 → (p.rows 0xFF)[m]? = some true) ∧
      (let p := CrusherParams.defaults
       p.sized ∧ (∀ ok ∈ p.rows 7, ok = true) ∧ (p.rows 8)[15]? = some false ∧
         ∀ m, m < 15 → (p.rows 8)[m]? = some true) ∧
      Consumes plant 1 (4 :: List.replicate 30 0) ∧ 3 < (4 : Byte).toNat ∧
      Consumes plant 1 (List.replicate 29 0) ∧ (List.replicate 29 (0 : Byte)).length < 30 :=
  ⟨⟨by unfold CrusherParams.sized; decide, consumes_plant (by decide), by decide, by decide⟩,
    ⟨by unfold CrusherParams.sized; decide, by decide, by decide, by decide⟩,
    consumes_plant (by decide), by decide, consumes_plant (by decide), by decide⟩

/-- The argument lengths of the requests with a feeder, a crusher, a target, a tag, a bank and an index, or a setting. -/
theorem witness_request_payloads :
    Consumes plant 1 (BitVec.ofNat 8 1 :: (beBytes 2 1000 ++ beBytes 2 1001 ++ beBytes 2 500 ++ beBytes 2 65535 ++ [])) ∧
      (Consumes plant 1 [3, 0x0B, 0xB8] ∧ Consumes plant 1 [4, 0, 0] ∧ CauseInv plant) ∧
      (Consumes plant 1 [BitVec.ofNat 8 3] ∧ CauseInv plant ∧ CrusherInv plant) ∧
      Consumes plant 1 [0, 0, 255] ∧ Consumes plant 1 [1, 1, 8] ∧ Consumes plant 1 [1] ∧ Consumes plant 1 [2] ∧
      (LineInv plant ∧ Consumes plant 1 []) :=
  ⟨consumes_plant (by decide), ⟨consumes_plant (by decide), consumes_plant (by decide), causeInv_plant⟩,
    ⟨consumes_plant (by decide), causeInv_plant, crusherInv_plant⟩, consumes_plant (by decide),
    consumes_plant (by decide), consumes_plant (by decide), consumes_plant (by decide),
    ⟨lineInv_plant, consumes_plant (by decide)⟩⟩

/-- Arguments with an index above 3, and none, at a part in RUN and at one in READY. -/
theorem witness_index_refusals :
    (Consumes plant 1 [4] ∧ Consumes plant 1 [] ∧ plant.line.lineMode = .run) ∧
      (Consumes (plantIn .ready .fault) 1 [4] ∧ (plantIn .ready .fault).line.lineMode ≠ .run) ∧ 3 < (4 : Byte).toNat :=
  ⟨⟨consumes_plant (by decide), consumes_plant (by decide), rfl⟩,
    ⟨⟨by decide +kernel, by decide, by decide +kernel⟩, by decide⟩, by decide⟩

/-- R43, R46 and R172: an index of 4 and no argument, in RUN and in READY. -/
theorem test_index_refused :
    [replied (after (.crusherEnable 1 127 [4]) plant), replied (after (.crusherEnable 1 127 [4]) (plantIn .ready .standby)),
      replied (after (.crusherEnable 1 127 []) (plantIn .ready .standby)), replied (after (.faultClear 1 127 [4]) plant),
      replied (after (.faultClear 1 127 []) plant)] = [some [4], some [3], some [4], some [4], some [4]] := by
  decide +kernel

/-- The arguments of the default line parameters, with another transportDistance and drawDown. -/
def lineArgs (transportDistance drawDown : Nat) : List Nat :=
  [50, transportDistance, 20, 2000, 1000000, drawDown, 4, 50, 8, 30000, 255, 0x3FFF, 255, 1, 255, 0, 255, 255]

/-- The default line parameters, written to the part at work, with no trip input active and with the pin low. -/
theorem witness_WriteLine :
    LineParams.defaults.Valid (some 1) ∧ Consumes plant 1 (codeLineParams LineParams.defaults ++ []) ∧
      ¬(tripInputs plant).active ∧ (tripInputs (after (.tripInChange true) plant)).active :=
  ⟨by refine ⟨?_, ?_, ?_, ?_, ?_, ?_, ?_, ?_, fun g hg => by cases hg⟩ <;> decide +kernel,
    consumes_plant (by decide +kernel), by decide +kernel, by decide +kernel⟩

/-- Arguments whose transportDistance of 0 fails its range at place 1; arguments whose lotLength and divertLead fail
against transportDistance at place 19, after every range; and 27 bytes, which are short. -/
theorem witness_WriteLine_refused :
    ((1 : Byte).toNat ≤ 126 ∧ (lineArgs 0 0).length = 18 ∧ ∀ x ∈ lineArgWidths.zip (lineArgs 0 0), x.2 < 256 ^ x.1) ∧
      (Consumes plant 1 (lineWire (lineArgs 0 0) ++ []) ∧ (lineRows 1 (lineArgs 0 0))[1]? = some (1, false) ∧
        ∀ m, m < 1 → ∃ other, (lineRows 1 (lineArgs 0 0))[m]? = some (other, true)) ∧
      (Consumes plant 1 (lineWire (lineArgs 70 5) ++ []) ∧ (lineRows 1 (lineArgs 70 5))[19]? = some (0, false) ∧
        ∀ m, m < 19 → ∃ other, (lineRows 1 (lineArgs 70 5))[m]? = some (other, true)) ∧
      Consumes plant 1 (List.replicate 27 0) ∧ (List.replicate 27 (0 : Byte)).length < 28 := by
  refine ⟨by decide, ⟨consumes_plant (by decide), by decide, fun m hm => ?_⟩,
    ⟨consumes_plant (by decide), by decide, fun m hm => ?_⟩, consumes_plant (by decide), by decide⟩ <;>
    interval_cases m <;> exact ⟨_, rfl⟩

/-- R175: ranges fail before the conditions between two parameters, and drawDown above capacity names drawDown. -/
theorem test_write_line_order :
    [lineArgs 0 1000001, lineArgs 70 1000001, lineArgs 71 1000001].map
        (fun args => replied (after (.writeLine 1 127 (lineWire args)) plant)) =
      [some [4, 1], some [4, 0], some [4, 5]] := by decide +kernel

/-- RUN, and READY with the pin high and with the pin low. -/
theorem witness_LineStartStop :
    LineInv plant ∧ CauseInv plant ∧ Consumes plant 1 [] ∧
      LineInv (plantIn .ready .standby) ∧ CauseInv (plantIn .ready .standby) ∧ Consumes (plantIn .ready .standby) 1 [] ∧
      (plantIn .ready .standby).line.lineMode = .ready ∧ ¬(tripInputs (plantIn .ready .standby)).active ∧
      (let low := { plantIn .ready .standby with pins := { plant.pins with tripInLow := true } }
       LineInv low ∧ CauseInv low ∧ Consumes low 1 [] ∧ low.line.lineMode = .ready ∧ (tripInputs low).active) :=
  ⟨lineInv_plant, causeInv_plant, consumes_plant (by decide),
    ⟨rfl, rfl, rfl, rfl, by decide +kernel, by decide +kernel⟩, causeInv_of_agree (by decide +kernel),
    ⟨by decide +kernel, by decide, by decide +kernel⟩, rfl, by decide +kernel,
    ⟨rfl, rfl, rfl, rfl, by decide +kernel, by decide +kernel⟩, causeInv_of_agree (by decide +kernel),
    ⟨by decide +kernel, by decide, by decide +kernel⟩, rfl, by decide +kernel⟩

/-- LINE_START in READY with the pin low: TRIPPED, the reply with WRONG_MODE and lineMode TRIPPED. -/
theorem test_line_start_trips :
    let t := after (.lineStart 1 127 []) { plantIn .ready .standby with pins := { plant.pins with tripInLow := true } }
    replied t = some [3, 5] ∧ t.line.lineMode = .tripped ∧ t.pins.tripOut = true := by decide +kernel

theorem witness_TripRelease :
    (LineInv tripped ∧ CauseInv tripped ∧ Consumes tripped 1 []) ∧
      (tripped.line.lineMode = .tripped ∧ (tripInputs tripped).any = false) ∧
      (tripInputs { tripped with pins := { tripped.pins with tripInLow := true } }).any = true ∧
      plant.line.lineMode ≠ .tripped :=
  ⟨⟨lineInv_tripped, causeInv_tripped, consumes_tripped (by decide)⟩, by decide +kernel, by decide +kernel,
    by decide +kernel⟩

/-- The tag of the younger of two lots, and a tag no lot has. -/
theorem witness_RejectLot :
    Consumes plant 1 [5] ∧
      (∃ older younger l, plant.lots.table = older ++ l :: younger ∧ l.tag = 5 ∧ (∀ m ∈ older, m.tag ≠ 5) ∧
        l.reject = false) ∧ ∀ m ∈ plant.lots.table, m.tag ≠ 6 :=
  ⟨consumes_plant (by decide), ⟨[twoLots[0]], [], twoLots[1], rfl, rfl, by decide, rfl⟩, by decide +kernel⟩

/-- A load with two words to the end of its bank: no, two and three words with an odd byte; by the own and by the group
address; with the end flag and without; and a part with no session. -/
theorem witness_StreamTelegrams :
    (∀ dst ∈ [(0 : Byte), 9], grouped.ownAddress ≠ some dst ∧ grouped.params.groupAddress ≠ some dst) ∧
      (plant.ownAddress = some 1 ∧ grouped.params.groupAddress = some 5) ∧ plant.relay.fBound.length < 4 ∧
      State.reset.handler.session = none ∧
      (∃ x, plant.handler.session = some x ∧ x.portal + 2 = x.bank.size ∧ x.overflowed = false) ∧
      (∀ words ∈ ([[], [0x0102, 0x0304], [1, 2, 3]] : List (List Word)),
        ([9] : List Byte).length ≤ 1 ∧ 2 * words.length + ([9] : List Byte).length ≤ 40) ∧
      ((0 : Byte).getLsbD 0 = false ∧ (1 : Byte).getLsbD 0 = true) :=
  ⟨by decide +kernel, by decide +kernel, by decide, rfl, ⟨_, rfl, rfl, rfl⟩, by decide, by decide⟩

/-- R182: the end flag with three words and an odd byte, of which two fit. -/
theorem test_stream_words_and_end :
    let t := after (.streamTelegram 1 127 1 [1, 2, 3, 4, 5, 6, 7]) plant
    t.handler.session = none ∧ t.handler.lastSession = some ⟨.curve, 264, 260, 5, true⟩ ∧
      t.curveWord 263 = some 0x0304 := by decide +kernel

/-- The plant table fails no check; without the drive of C1 it fails FEEDER_MISSING, check 8, at its POWER entry. -/
theorem test_station_validation :
    stationFailure (some 1) plantTable = none ∧ stationFailure (some 1) (plantTable.set 1 Entry.zero) = some (0, 8) ∧
      stationFailure (some 20) plantTable = some (0, 0) := by decide +kernel

/-- R97, on the staged curve 1, whose points 0 and 1 are at words 34 to 37: of a curve of two points an x of 2001, an x
that does not rise, both, and a sound one; and a count of 17. -/
theorem test_curve_validation :
    let bank := Vector.replicate 8 (Vector.replicate 33 0)
    let two (x0 x1 : Word) := curveFailure (writeCurveWord (writeCurveWord (writeCurveWord bank 33 2) 34 x0) 36 x1)
    [two 1 2001, two 7 7, two 2001 3, two 1 2] = [some (1, 1), some (1, 2), some (1, 1), none] ∧
      curveFailure (writeCurveWord bank 33 17) = some (1, 0) := by decide +kernel

theorem witness_WarmRestart : LineInv plant ∧ LineInv tripped ∧ Consumes plant 1 [] ∧ Consumes tripped 1 [] :=
  ⟨lineInv_plant, lineInv_tripped, consumes_plant (by decide), consumes_tripped (by decide)⟩

/-- On and off, at a part that holds off. -/
theorem witness_DryRun :
    CauseInv plant ∧ ∀ on : Bool, Consumes plant 1 ((if on then 1 else 0) :: []) :=
  ⟨causeInv_plant, fun on => consumes_plant (by cases on <;> decide)⟩

/-- A part with a group address and lineEnd set, with room at port M and with none; a part with lineEnd clear; and one
strapped to 0, which has no own address. -/
theorem witness_RollCall :
    let ending (mBound : List Telegram) : State :=
      { grouped with
        handler := { grouped.handler with params := { grouped.params with lineEnd := true } }
        relay := { grouped.relay with mBound := mBound } }
    (Consumes plant 1 [] ∧ plant.relay.fBound.length < 4 ∧ plant.params.lineEnd = false) ∧ State.reset.ownAddress = some 1 ∧
      (({ State.reset with straps := { State.reset.straps with addr := 0 } }).ownAddress = none) ∧
      (∀ mBound ∈ [[], full], (ending mBound).params.lineEnd = true ∧ (ending mBound).ownAddress = some 1 ∧
        (ending mBound).relay.fBound.length < 4 ∧ (ending mBound).ownAddress ≠ some 5 ∧
        (ending mBound).params.groupAddress = some 5) ∧
      (ending []).relay.mBound.length < 4 ∧ 4 ≤ (ending full).relay.mBound.length :=
  ⟨⟨consumes_plant (by decide), by decide +kernel, rfl⟩, by decide +kernel, by decide +kernel, by decide +kernel,
    by decide, by decide⟩

/-- R145 and R191: with lineEnd set, a part strapped to 0 forwards a roll-call and answers none. -/
theorem test_roll_call_without_address :
    let s := { plant with
      straps := { plant.straps with addr := 0 }
      handler := { plant.handler with params := { LineParams.defaults with lineEnd := true } } }
    let t := after (.rollCall 0 127 []) s
    t.relay.mBound = [] ∧ t.relay.fBound.length = 2 := by decide +kernel

/-- The function bytes next to the named ones. -/
theorem witness_UnknownFunction :
    Consumes plant 1 [] ∧ plant.relay.fBound.length < 4 ∧ (0 : Byte).toNat = 0 ∧ 0x15 < (0x16 : Byte).toNat :=
  ⟨consumes_plant (by decide), by decide +kernel, by decide, by decide⟩

/-! ### Witnesses: reception and transmission -/

theorem witness_reception :
    (plant.port .f).rx = .idle ∧ (State.reset.port .m).rx = .hunt ∧
      ((after (.lineBreak .m) plant).port .m).rx = .inBreak ∧ (plant.port .m).rx = .receiving [0x5C] ∧
      (plant.port .m).rx.isReceiving = true ∧
      (([0x5C, 1, 127] : List Byte).length < 4 ∧ ([0x5C, 1, 127, 1] : List Byte).length = 4 ∧ 40 < (41 : Byte).toNat) := by
  decide +kernel

theorem witness_TelegramReceived :
    (List.replicate 40 (0 : Byte)).length ≤ 40 ∧ plant.portF.rx = .idle ∧
      ({ plant.portM with rx := .idle }).rx = .idle := by decide +kernel

/-- A telegram received whole, character by character: LINE_STOP to the part at work. -/
theorem test_telegram_received :
    (match feed .m (Telegram.make .request 1 127 0x0D []).bytes (after (.huntIdle .m) State.reset) with
    | .next t => replied t
    | _ => none) = some [3, 0] := by decide +kernel

theorem witness_Breaks_repeat :
    ((after (.lineBreak .m) plant).breakPending = true ∧ (after (.lineBreak .m) plant).portF.tx = .idle) ∧
      plant.breakPending = false ∧ (after .breakRepeat (after (.lineBreak .m) plant)).portF.tx = .breaking ∧
      plant.portF.tx ≠ .breaking := by decide +kernel

/-- A REQUEST to a station with no output entry at port F, an empty queue at port M, and a telegram being sent. -/
theorem witness_Transmission :
    ((plant.port .f).tx = .idle ∧ ({ plant.relay with fBound := full }).fBound = speedRequest :: full.tail ∧
        plant.breakPending = false ∧ outputEntry plant.activeTable 9 = none) ∧
      plant.queueOf .m = [] ∧
      (({ plant.portF with tx := .sending speedRequest }).tx = .sending speedRequest) ∧
      ∀ x, (plant.port .f).tx ≠ .sending x :=
  ⟨by decide +kernel, by decide +kernel, rfl, fun x h => by cases h⟩

/-- The request for the drive of C1: its two bytes hold the field; one byte does not. -/
theorem witness_GovernedRequestRewritten :
    plant.portF.tx = .idle ∧ plant.breakPending = false ∧ plant.relay.fBound = speedRequest :: [] ∧
      speedRequest.kind = .request ∧
      outputEntry plant.activeTable speedRequest.dst = some (plant.activeTable[1], .feederDrive 1) ∧
      (plant.activeTable[1]).mode? = some .govern ∧ offsetOfCode (plant.activeTable[1]).writeOffset = some 0 ∧
      Role.writeWidth (.feederDrive 1) = some 2 ∧ plant.handler.dryRun = false ∧
      (0 + 2 ≤ speedRequest.payload.length ∧ ([0x40] : List Byte).length < 0 + 2) := by decide +kernel

/-- The same part in dry-run, and with the drive of C1 under PASS and CLAMP; an actuator in CLAMP whose command is HOLD. -/
theorem witness_GovernedRequestRewritten_modes :
    ({ plant.handler with dryRun := true }).dryRun = true ∧
      (∀ x ∈ [((2 : Byte), Mode.pass), (4, .clamp)],
        outputEntry (plantTable.set 1 { plantTable[1] with mode := x.1 }) 22 =
            some ({ plantTable[1] with mode := x.1 }, .feederDrive 1) ∧
          ({ plantTable[1] with mode := x.1 }).mode? = some x.2) ∧
      outputEntry plant.activeTable 21 = some (plantTable[6], .actuator 1) ∧
      offsetOfCode (plantTable[6]).writeOffset = some 1 ∧ Role.writeWidth (.actuator 1) = some 3 ∧
      (plant.crusher 1).command.kind = .hold := by decide +kernel

/-! ### Witnesses: curves, feeders, moves and stops -/

/-- Curve 2 of Table 5-7, at its ends and on its segment from 600 to 800. -/
theorem witness_CurveLookup :
    CurveInv curve2 ∧ curve2.head? = some ⟨0, 1000⟩ ∧ curve2.getLast? = some ⟨1200, 0⟩ ∧
      curve2[1]? = some ⟨600, 1000⟩ ∧ curve2[1 + 1]? = some ⟨800, 700⟩ ∧ 600 ≤ 780 ∧ 780 ≤ 800 :=
  ⟨⟨.inr (by decide), by decide, by decide⟩, rfl, rfl, rfl, rfl, by decide, by decide⟩

/-- C1, whose crusher runs, and C0, whose crusher is absent; POWER is not FRESH, and FRESH with a value. -/
theorem witness_FeederComputation :
    FeederInv plant ∧ ((plant.crusher 1).state.isRun = true ∧ plant.line.lineMode.feeds = true) ∧
      (plant.crusher 0).state.isRun = false ∧ plant.isFresh (.power 1) = false ∧
      plant.freshScalar (.power 1) = none ∧
      FeederInv measured ∧ measured.freshScalar (.power 1) = some 2457 ∧ binInformation plant.activeTable = true :=
  ⟨feederInv_plant, by decide +kernel, by decide +kernel, by decide +kernel, by decide +kernel,
    ⟨by decide +kernel, by decide +kernel, by decide +kernel, by decide +kernel, by decide +kernel⟩, by decide +kernel,
    by decide +kernel⟩

/-- A gap of 1012 at C1 without a move, and the status that reports on its move in flight. -/
theorem witness_GapMoves :
    (CauseInv measured ∧ ContextInv (measured.crusher 1) ∧ measured.freshScalar (.gap 1) = some 1012) ∧
      CauseInv moving ∧ ContextInv (moving.crusher 1) ∧ moving.heldStatus 1 = some ⟨37, .done, false⟩ ∧
      (moving.crusher 1).reliefRec = none ∧
      (moving.crusher 1).moveRec = some ⟨some 37, some 12, .target, .issued, 999⟩ :=
  ⟨⟨causeInv_measured, contextInv_plant 1, by decide +kernel⟩, causeInv_moving, contextInv_moving, by decide +kernel, rfl,
    rfl⟩

/-- R53: the actuator's held record reports the sequence 37, so that a move after 36 takes 38. -/
theorem test_issue_passes_over :
    let s := { measured with crushers := measured.crushers.set 1 { runningCrusher with moveSeq := 36 }
                             feeders := measured.feeders.set 1 { measured.feeder 1 with output := 0 } }
    ((deliverArrival { role := .gap 1, increment := 0 } s).crusher 1).moveSeq = 38 := by decide +kernel

/-- R56: DONE ends the move; the crusher runs, holds with its moveSeq, and loads settleCount. -/
theorem test_move_done :
    let c := (deliverArrival { role := .actuator 1, increment := 0 } moving).crusher 1
    c.state = .run ∧ c.moveRec = none ∧ c.command = ⟨.hold, 37, 0⟩ ∧ c.settleCount = c.params.settleCycles := by
  decide +kernel

/-- A pressure of 1850 and a status without relief, at C1 in RUN. -/
theorem witness_ReliefSamples :
    CauseInv measured ∧ ContextInv (measured.crusher 1) ∧ measured.freshScalar (.pressure 1) = some 1850 ∧
      measured.heldStatus 1 = some ⟨37, .done, false⟩ ∧ (measured.crusher 1).moveRec = none :=
  ⟨causeInv_measured, contextInv_plant 1, by decide +kernel, by decide +kernel, rfl⟩

/-- Two lots, the younger one open, on a belt that is tracked; an empty table, and a full one with no lot open. -/
theorem witness_BeltArrivals :
    trackingActive plant.activeTable = true ∧ trackingActive State.reset.activeTable = false ∧
      (∃ older x, plant.lots.table = older ++ x :: [] ∧ x.state = .opened ∧ ∀ y ∈ older, y.state ≠ .opened) ∧
      plant.params.maxIncrement < 2001 ∧ LotTracker.reset.table = [] ∧
      ∃ older x, List.replicate 64 twoLots[0] = older ++ [x] ∧ ∀ y ∈ older ++ [x], y.state ≠ .opened :=
  ⟨by decide +kernel, by decide +kernel, ⟨[twoLots[0]], twoLots[1], rfl, rfl, by decide⟩, by decide +kernel, rfl,
    ⟨List.replicate 63 twoLots[0], twoLots[0], rfl, by decide⟩⟩

/-- Increments of 0, 30, 32767 and 32768 at the part at work. -/
theorem witness_LotWalk :
    LotsInv plant ∧ ParamsInv plant ∧ trackingActive plant.activeTable = true ∧ (0 < 30 ∧ 30 ≤ 32767) ∧ 32767 < 32768 :=
  ⟨lotsInv_plant, paramsInv_plant, by decide +kernel, by decide, by decide⟩

/-- A stop at the part at work, with 2 and with 1 cycles left; with no lot and an empty bin it is complete. -/
def stopping (remaining : Nat) : State :=
  { plant with
    line := { LineControl.reset with lineMode := .stopping, stopRec := some { startCycle := 8000, remaining := remaining } } }

theorem witness_OrderlyStop :
    (∀ remaining ∈ [1, 2], (stopping remaining).line.lineMode = .stopping ∧
      (stopping remaining).line.stopRec = some { startCycle := 8000, remaining := remaining } ∧
      ¬((stopping remaining).lots.table = [] ∧ (stopping remaining).lots.inventory ≤ (stopping remaining).params.drawDown)) ∧
      CauseInv (stopping 1) ∧ CauseInv (stopping 2) ∧
      (LotTracker.reset.table = [] ∧ LotTracker.reset.inventory ≤ LineParams.defaults.drawDown) :=
  ⟨by decide +kernel, causeInv_of_agree (by decide +kernel), causeInv_of_agree (by decide +kernel), by decide⟩

/-- The stop at its limit, and one cycle before it (R140). -/
theorem test_stop_limit :
    ((cycleLine (stopping 1)).line.lineMode = .stopped ∧ (cycleLine (stopping 1)).line.lastStopEnd = .forced) ∧
      (cycleLine (stopping 2)).line.stopRec = some { startCycle := 8000, remaining := 1 } := by decide +kernel

/-! ### Lots, by hand from R107 to R112 -/

/-- Travel of 30: the open lot reaches its length of 50 at position 230 with startPos 160, and closes. -/
theorem test_travel_closes :
    (travelArrival 30 plant).lots.table.map (fun (l : Lot) => (l.state, l.endPos)) =
      [(.riding, some 160), (.riding, some 230)] := by decide +kernel

/-- Travel of 960: the head of the older lot, at 1160 of 1000, is past the diverter lead while its end is at 1000 of
1000, so that it retires to the reject total; the younger lot closes and passes. -/
theorem test_travel_retires :
    let t := travelArrival 960 plant
    t.lots.table.map (fun (l : Lot) => (l.tag, l.state)) = [(5, .passing)] ∧ t.lots.rejectedTotal = 120 ∧
      t.lots.divertCommand = .pass ∧ t.lots.inventory = 1000 := by decide +kernel

/-- Weigh increments at the limit of 2000 and above it (R111, R112). -/
theorem test_weigh :
    (weighArrival 2000 plant).lots.table.map Lot.tonnage = [120, 2030] ∧
      (weighArrival 2001 plant).lots.discardedIncrements = 1 := by decide +kernel

end Sys2Proof.Tests
end

section
/-!
PROOF. An invariant of the part, block by block: what a claim must be kept through so that every step keeps it. The
commands are taken apart once, in `KeptByBlocks.step`; an invariant is then proved of the blocks alone.
-/

namespace Sys2Proof.Machine

/-! ### What every step does, block by block -/

/-- What a request does, for each request of Table 8-20 but ROLL_CALL, and for a function that names none (R172). -/
def requestActs : List (List Byte → State → Served) :=
  [ statusPollAct, readCausesAct, readRecordAct, writeCrusherAct, writeFeederAct, writeLineAct, setTargetAct,
    crusherEnableAct, crusherDisableAct, faultClearAct, wearResetAct, lineStartAct, lineStopAct, tripReleaseAct,
    rejectLotAct, loadOpenAct, commitAct, dryRunAct, deviceClearAct, warmRestartAct, fun _ t => answered .badArg t,
    fun _ t => answered .unknown t ]

/-- A claim about the part that no event of a block ends. The first six fields are the parts of the state that ports,
relay, rewriter and queue change; the others are the events of the blocks behind them. -/
structure KeptByBlocks (P : State → Prop) : Prop where
  ports : ∀ (s : State) (x y : Port) (b : Bool), P s → P { s with portM := x, portF := y, breakPending := b }
  relay : ∀ (s : State) (x : Relay), P s → P { s with relay := x }
  rewriter : ∀ (s : State) (x : Rewriter), P s → P { s with rewriter := x }
  waiting : ∀ (s : State) (x : List Instr), P s → P { s with pending := x }
  raise : ∀ (s : State) (x : Cause), x.isLevel = false → P s → P (raise x s)
  rollMisses : ∀ (s : State) (n : Nat), P s → P { s with causes := { s.causes with rollMisses := n } }
  timer : ∀ (s : State) (n : Nat), P s → P { s with tracker := { s.tracker with supervision := some n } }
  reset : ∀ (s : State) (addr : BitVec 7) (rate : BitVec 3) (low : Bool), P s → P (powerOnReset addr rate low s)
  pin : ∀ (s : State) (low : Bool), P s → P (evaluateTrip { s with pins := { s.pins with tripInLow := low } })
  marker : ∀ (s : State) (payload : List Byte), P s → P (takeMarker payload s)
  expiry : ∀ s : State, P s → P (expireSupervision s)
  reply : ∀ (s : State) (t : Telegram), P s → P (observe t s)
  session : ∀ (s : State) (how : SessionEnd), P s → P (endSession how s)
  stream : ∀ (s : State) (fn : Byte) (payload : List Byte), P s → P (takeStream fn payload s)
  request : ∀ act ∈ requestActs, ∀ (payload : List Byte) (s : State), P s → P (act payload s).state

namespace KeptByBlocks

variable {P : State → Prop}

/-! ### Ports and relay -/

theorem setPort (h : KeptByBlocks P) {s : State} (hs : P s) (p : PortId) (x : Port) : P (s.setPort p x) := by
  cases p
  · exact h.ports s x s.portF s.breakPending hs
  · exact h.ports s s.portM x s.breakPending hs

theorem setRx (h : KeptByBlocks P) {s : State} (hs : P s) (p : PortId) (rx : Rx) : P (setRx p rx s) :=
  h.setPort hs p _

theorem joinF (h : KeptByBlocks P) {s : State} (hs : P s) (x : Telegram) : P (joinF x s) := by
  unfold Machine.joinF
  split
  · exact h.relay s _ hs
  · exact h.raise _ .lineError rfl (h.relay s _ hs)

theorem joinM (h : KeptByBlocks P) {s : State} (hs : P s) (x : Telegram) : P (joinM x s) := by
  unfold Machine.joinM
  split
  · exact h.relay s _ hs
  · exact h.raise _ .lineError rfl (h.relay s _ hs)

theorem joinReply (h : KeptByBlocks P) {s : State} (hs : P s) (x : Telegram) : P (joinReply x s) := by
  unfold Machine.joinReply
  split
  · exact h.relay s _ hs
  · exact h.raise _ .lineError rfl (h.relay s _ hs)

/-- An error at a receiver changes its port and raises LINE_ERROR (R145, R146, R147, R148). -/
theorem portError (h : KeptByBlocks P) {s : State} (hs : P s) (p : PortId) (x : Port) :
    P (Machine.raise .lineError (s.setPort p x)) :=
  h.raise _ .lineError rfl (h.setPort hs p x)

theorem lengthErrorAt (h : KeptByBlocks P) {s : State} (hs : P s) (p : PortId) : P (lengthErrorAt p s) :=
  h.portError hs p _

theorem lineBreak (h : KeptByBlocks P) {s t : State} (hs : P s) {p : PortId} (ht : execLineBreak p s = .next t) :
    P t := by
  cases ht
  have hb : P (breakAt p s) := h.setPort hs p _
  split
  · exact hs
  · cases p
    · have hm : P (breakSession (breakAt .m s)) := by
        unfold breakSession
        split
        · exact h.raise _ .streamAborted rfl (h.session _ _ hb)
        · exact hb
      show P (requestRepeat _)
      unfold requestRepeat
      split
      · exact hm
      · exact h.ports _ _ _ true hm
    · exact hb

theorem rewrite (h : KeptByBlocks P) {s : State} (hs : P s) (x : Telegram) : P (rewrite x s).2 := by
  have hg (e : Entry) (r : Role) (clamped : Bool) : P (rewriteGoverned e r clamped x s).2 := by
    unfold rewriteGoverned
    split
    · split
      · dsimp only
        split <;> exact h.rewriter s _ hs
      · exact h.raise _ .configGap rfl (h.rewriter s _ hs)
    · exact hs
  unfold Machine.rewrite
  split
  · exact hs
  · split
    · split
      · exact hg _ _ _
      · exact hg _ _ _
      · exact hs
    · exact hs

theorem beginTransmission (h : KeptByBlocks P) {s : State} (hs : P s) (p : PortId) : P (beginTransmission p s) := by
  unfold Machine.beginTransmission
  split
  · split
    · exact h.setPort hs _ _
    · split
      · exact hs
      · split
        · exact h.setPort (h.rewrite hs _) _ _
        · exact h.setPort hs _ _
  · exact hs

theorem endTransmission (h : KeptByBlocks P) {s : State} (hs : P s) (p : PortId) : P (endTransmission p s) := by
  unfold Machine.endTransmission
  split
  · cases p <;> exact h.relay _ _ (h.setPort hs _ _)
  · exact hs

/-! ### Telegrams -/

/-- A telegram received whole keeps what its delivery keeps (R146, R147). -/
theorem receiveAt (h : KeptByBlocks P) {s : State} (hs : P s) (p : PortId) (payload : List Byte)
    {deliver : State → State} (hd : ∀ u, P u → P (deliver u)) : P (receiveAt p payload deliver s) := by
  unfold Machine.receiveAt
  split
  · exact hd _ (h.setRx hs p .idle)
  · exact h.lengthErrorAt hs p

/-- A request keeps, at every destination, what acting on it keeps (R153, R172, R173). -/
theorem serveRequest (h : KeptByBlocks P) {s : State} (hs : P s) {act : List Byte → State → Served}
    (ha : act ∈ requestActs) (fn : Byte) (handed : Bool) (dst src : Byte) (payload : List Byte) :
    P (serveRequest fn handed act dst src payload s) := by
  have he := h.session s .request hs
  unfold Machine.serveRequest
  dsimp only
  split
  · exact h.joinReply (h.request act ha _ _ he) _
  · split
    · refine h.joinF ?_ _
      split
      · exact h.request act ha _ _ hs
      · exact hs
    · split
      · refine h.joinF ?_ _
        split
        · exact h.request act ha _ _ he
        · exact he
      · exact h.joinF hs _

theorem serveRollCall (h : KeptByBlocks P) {s : State} (hs : P s) (dst src : Byte) (payload : List Byte) :
    P (serveRollCall dst src payload s) := by
  unfold Machine.serveRollCall
  split
  · refine h.joinF ?_ _
    unfold answerRollCall
    split
    · exact h.joinReply hs _
    · exact hs
  · exact h.serveRequest hs (by simp [requestActs]) _ _ _ _ _

theorem deliverStream (h : KeptByBlocks P) {s : State} (hs : P s) (dst src fn : Byte) (payload : List Byte) :
    P (deliverStream dst src fn payload s) := by
  refine h.joinF ?_ _
  split
  · exact h.stream s fn payload hs
  · exact hs

theorem deliverMarker (h : KeptByBlocks P) {s : State} (hs : P s) (dst src fn : Byte) (payload : List Byte) :
    P (deliverMarker dst src fn payload s) :=
  h.joinF (h.marker s payload hs) _

theorem deliverRequest (h : KeptByBlocks P) {s : State} (hs : P s) (dst src fn : Byte) (payload : List Byte) :
    P (deliverRequest dst src fn payload s) := by
  unfold Machine.deliverRequest
  split
  case h_21 => exact h.serveRollCall hs _ _ _
  all_goals exact h.serveRequest hs (by simp [requestActs]) _ _ _ _ _

theorem deliverReply (h : KeptByBlocks P) {s : State} (hs : P s) (dst src fn : Byte) (payload : List Byte) :
    P (deliverReply dst src fn payload s) := by
  have ho := h.reply s (Telegram.make .reply dst src fn payload) hs
  unfold Machine.deliverReply
  dsimp only
  split
  · refine h.joinM ?_ _
    unfold passRollCall
    split
    · dsimp only
      split <;> exact ho
    · exact h.rollMisses _ _ ho
  · exact h.joinM ho _

theorem deliver (h : KeptByBlocks P) {s : State} (hs : P s) (p : PortId) (kind : Kind) (dst src fn : Byte)
    (payload : List Byte) : P (deliver p kind dst src fn payload s) := by
  cases p
  · cases kind
    · exact h.deliverMarker hs _ _ _ _
    · exact h.deliverRequest hs _ _ _ _
    · exact h.joinF hs _
    · exact h.deliverStream hs _ _ _ _
  · cases kind
    · exact h.joinM hs _
    · show P (if _ then _ else _)
      split
      · exact h.raise _ .lineError rfl (h.relay s _ hs)
      · exact h.joinM hs _
    · exact h.deliverReply hs _ _ _ _
    · exact h.joinM hs _

theorem takeCharacter (h : KeptByBlocks P) {s : State} (hs : P s) (p : PortId) (byte : Byte) :
    P (takeCharacter p byte s) := by
  unfold Machine.takeCharacter
  split
  · split
    · exact h.setRx hs _ _
    · exact h.portError hs p _
  · unfold extend
    split
    · split
      · exact h.lengthErrorAt hs p
      · split
        · split
          · unfold judge
            dsimp only
            split
            · exact h.deliver (h.setRx hs _ _) _ _ _ _ _ _
            · exact h.portError hs p _
          · exact h.portError hs p _
        · exact h.setRx hs _ _
    · exact h.setRx hs _ _
  · exact hs
  · exact hs

/-! ### Commands and steps -/

/-- Every command keeps what every block keeps. -/
theorem exec (h : KeptByBlocks P) {s t : State} {i : Instr} (hs : P s) (ht : exec i s = .next t) : P t := by
  have hif {c : Prop} [Decidable c] {u v : State} (hu : P u) (hv : P v) : P (if c then u else v) := by
    split <;> assumption
  cases i with
  | powerOnReset addr rate low => cases ht; exact h.reset s _ _ _ hs
  | tripInChange low => cases ht; exact hif hs (h.pin s low hs)
  | cycleMarker dst src fn payload =>
    cases ht; exact h.receiveAt hs _ _ fun u hu => h.deliverMarker hu _ _ _ _
  | supervisionExpiry => cases ht; exact hif (h.expiry s hs) hs
  | fieldReply dst src fn payload =>
    cases ht; exact h.receiveAt hs _ _ fun u hu => h.deliverReply hu _ _ _ _
  | mTelegramForward kind dst src fn payload =>
    cases ht; exact h.receiveAt hs _ _ fun u hu => h.deliver hu .m kind _ _ _ _
  | fTelegramForward kind dst src fn payload =>
    cases ht; exact h.receiveAt hs _ _ fun u hu => h.deliver hu .f kind _ _ _ _
  | streamTelegram dst src fn payload =>
    cases ht; exact h.receiveAt hs _ _ fun u hu => h.deliverStream hu _ _ _ _
  | parityError p => cases ht; exact hif (h.portError hs p _) hs
  | framingError p => cases ht; exact hif (h.portError hs p _) hs
  | kindError p => cases ht; exact hif (h.portError hs p _) hs
  | lengthError p => cases ht; exact hif (h.portError hs p _) hs
  | checkError p => cases ht; exact hif (h.portError hs p _) hs
  | fragment p => cases ht; exact hif (h.portError hs p _) hs
  | huntIdle p => cases ht; exact hif (h.setRx hs p _) hs
  | lineBreak p => exact h.lineBreak hs ht
  | breakEnd p => cases ht; exact hif (h.setRx hs p _) hs
  | breakRepeat => cases ht; exact hif (h.ports s s.portM _ false hs) hs
  | breakRepeatEnd => cases ht; exact hif (h.ports s s.portM _ s.breakPending hs) hs
  | transmitStart p => cases ht; exact h.beginTransmission hs p
  | transmitComplete p => cases ht; exact h.endTransmission hs p
  | goodCharacter p byte => cases ht; exact h.takeCharacter hs p byte
  | unknownFunction dst src fn payload =>
    cases ht; exact h.receiveAt hs _ _ fun u hu => h.deliverRequest hu _ _ _ _
  | rollCall dst src payload => cases ht; exact h.receiveAt hs _ _ fun u hu => h.serveRollCall hu _ _ _
  | _ =>
    cases ht
    exact h.receiveAt hs _ _ fun u hu => h.serveRequest hu (by simp [requestActs]) _ _ _ _ _

/-- Every step keeps what every block keeps: the command at the front of the queue, or a tick of the timer. -/
theorem step (h : KeptByBlocks P) {s t : State} (hs : P s) (ht : step s = .next t) : P t := by
  unfold Machine.step at ht
  split at ht
  · exact h.exec (h.waiting s _ hs) ht
  · cases ht
    unfold tick
    split
    · split
      · exact h.expiry s hs
      · exact h.timer s _ hs
    · exact hs

end KeptByBlocks

/-! ### What line time does, block by block (Chapter 2) -/

/-- A claim that no part of a counted cycle, of an acquisition or of a loss of lock ends. -/
structure KeptByTime (P : State → Prop) : Prop where
  raise : ∀ (s : State) (x : Cause), x.isLevel = false → P s → P (raise x s)
  lock : ∀ (s : State) (x : Tracker) (b : Bool), P s → P { s with tracker := x, pins := { s.pins with lock := b } }
  free : ∀ (s : State) (n : Nat), P s → P { s with freeCount := n }
  cycle : ∀ (u : CycleUser) (s : State), P s → P (cycleWork u s)
  stale : ∀ s : State, P s → P (staleAll s)
  acquire : ∀ (u : AcquireUser) (s : State), P s → P (acquireWork u s)
  lost : ∀ s : State, P s → P (zeroFeeders (signalCrushers (lineLockLost s)))
  onset : ∀ (k : Fin 4) (s : State), P s → P (takeOnset k s)

namespace KeptByTime

variable {P : State → Prop}

theorem tracker (h : KeptByTime P) {s : State} (hs : P s) (x : Tracker) : P { s with tracker := x } :=
  h.lock s x s.pins.lock hs

theorem loseLock (h : KeptByTime P) {s : State} (hs : P s) : P (loseLock s) :=
  h.lost _ (h.raise _ .lockLost rfl (h.lock s _ false hs))

theorem endLock (h : KeptByTime P) {s : State} (hs : P s) : P (endLock s) := by
  have hl := h.loseLock (h.free s (s.freeCount + 1) hs)
  rcases endLock_cases s with ⟨-, he⟩ | ⟨-, ⟨-, he⟩ | ⟨-, he⟩⟩ <;> rw [he]
  · exact h.loseLock hs
  · exact hl
  · generalize waitingOnsets s = ks
    generalize Machine.loseLock _ = u at hl
    induction ks generalizing u with
    | nil => exact hl
    | cons k rest ih => exact ih _ (h.onset k u hl)

theorem acquireLock (h : KeptByTime P) {s : State} (hs : P s) : P (acquireLock s) :=
  inFreeOrder_induct P (h.free _ _ (h.stale _ (h.lock s _ true hs))) fun u _ v hv => h.acquire u v hv

theorem countedCycle (h : KeptByTime P) {s : State} (hs : P s) : P (countedCycle s) :=
  inFreeOrder_induct P (h.free _ _ hs) fun u _ v hv => h.cycle u v hv

theorem marker (h : KeptByTime P) {s : State} (hs : P s) (payload : List Byte) : P (takeMarker payload s) := by
  unfold takeMarker
  split
  · rename_i number period _
    split
    · unfold markerInSearch
      dsimp only
      split
      · exact h.acquireLock (h.tracker hs _)
      · exact h.tracker hs _
    · have hc := h.countedCycle (h.tracker hs (s.tracker.countMarker number period))
      unfold markerInLock
      dsimp only
      split
      · exact h.endLock hc
      · exact hc
  · exact h.raise _ .lineError rfl (h.tracker hs _)

theorem expiry (h : KeptByTime P) {s : State} (hs : P s) : P (expireSupervision s) := by
  unfold expireSupervision
  dsimp only
  split
  · exact h.tracker hs _
  · exact h.endLock (h.tracker hs _)

end KeptByTime

/-- What storing a reply's fields and each of its arrivals keep, observing the reply keeps (R15, R18). -/
theorem observe_keeps {P : State → Prop} {t : Telegram} {s : State} (hs : P s) (hf : P (storeReply t s))
    (ha : ∀ (a : Arrival) (u : State), P u → P (deliverArrival a u)) : P (observe t s) := by
  unfold observe
  split
  · generalize arrivalsOf s t = arrivals
    generalize storeReply t s = u at hf
    induction arrivals generalizing u with
    | nil => exact hf
    | cons a rest ih => exact ih _ (ha a u hf)
  · exact hs

end Sys2Proof.Machine
end

section
/-!
PROOF. The invariant of one crusher context (Tables 3-1, 3-2 and 3-5), kept by each thing a context does to itself.
-/

namespace Sys2Proof.Machine

/-! ### What the invariant says of a context -/

/-- A context that holds its invariant becomes one that holds it too, and is ABSENT exactly as before. -/
structure Follows (x y : Crusher) : Prop where
  inv : ContextInv y
  absent : y.state = .absent ↔ x.state = .absent

theorem ContextInv.follows_self {x : Crusher} (h : ContextInv x) : Follows x x := ⟨h, .rfl⟩

theorem Follows.trans {x y z : Crusher} (h : Follows x y) (g : Follows y z) : Follows x z :=
  ⟨g.inv, g.absent.trans h.absent⟩

theorem ContextInv.params_bounds {x : Crusher} (h : ContextInv x) :
    1 ≤ x.params.deadband ∧ 1 ≤ x.params.stepMax ∧ x.params.stepMax ≤ 200 ∧ x.params.settleCycles ≤ 255 ∧
      x.params.reliefClearCount ≤ 16 ∧ x.params.cssMin < x.params.cssMax := by
  have hp := h.params
  simp only [CrusherParams.checks, List.forall_mem_cons, inRange, Bool.and_eq_true, decide_eq_true_eq] at hp
  omega

theorem ContextInv.settleCycles_le {x : Crusher} (h : ContextInv x) : x.params.settleCycles ≤ 255 :=
  h.params_bounds.2.2.2.1

theorem ContextInv.state_of_move {x : Crusher} (h : ContextInv x) (hm : x.moveRec.isSome = true) :
    x.state = .move ∨ x.state = .recover := by
  obtain ⟨m, hm⟩ := Option.isSome_iff_exists.1 hm
  exact (h.move m hm).2

theorem ContextInv.moveRec_none {x : Crusher} (h : ContextInv x) (hm : x.state ≠ .move) (hr : x.state ≠ .recover) :
    x.moveRec = none := by
  cases hx : x.moveRec with
  | none => rfl
  | some m => rcases (h.move m hx).2 with h1 | h1 <;> contradiction

/-! ### Moves -/

theorem afterMove_eq_absent {st : CrusherState} : st.afterMove = .absent ↔ st = .absent := by
  cases st <;> simp [CrusherState.afterMove]

/-- A context whose move ends without a fault, or that has none, keeps its invariant in the state after the move. -/
theorem ContextInv.ended {x y : Crusher} (h : ContextInv x) (hp : y.params = x.params) (ht : y.cssTarget = x.cssTarget)
    (hm : y.moveRec = none) (hs : y.state = x.state.afterMove) (hr : y.reliefRec = x.reliefRec)
    (hq : y.proposedStep = x.proposedStep) (hw : y.wear ≤ 65535) (hc : y.settleCount ≤ 255)
    (h0 : x.state = .absent ∨ x.state = .standby → y.settleCount = 0) : Follows x y := by
  refine ⟨⟨hp ▸ h.params, by rw [hp, ht]; exact h.window, by simp [hm], ?_, ?_, ?_, ?_, hr ▸ h.relief, ?_, ⟨hc, hw⟩,
    hq ▸ h.proposed⟩, by rw [hs, afterMove_eq_absent]⟩ <;> rw [hs] <;> try rw [hr]
  · cases x.state <;> simp [CrusherState.afterMove]
  · intro hy
    refine h.reliefAbsent ?_
    cases hx : x.state <;> simp_all [CrusherState.afterMove]
  · intro hy
    refine h.reliefOpen ?_
    cases hx : x.state <;> simp_all [CrusherState.afterMove]
  · intro hy
    refine h.reliefCleared ?_
    cases hx : x.state <;> simp_all [CrusherState.afterMove]
  · intro hy
    refine h0 ?_
    cases hx : x.state <;> simp_all [CrusherState.afterMove]

/-- The same of a context that has a move, which is in MOVE or RECOVER. -/
theorem ContextInv.endedMove {x y : Crusher} (h : ContextInv x) (hx : x.moveRec.isSome = true)
    (hp : y.params = x.params) (ht : y.cssTarget = x.cssTarget) (hm : y.moveRec = none)
    (hs : y.state = x.state.afterMove) (hr : y.reliefRec = x.reliefRec) (hq : y.proposedStep = x.proposedStep)
    (hw : y.wear ≤ 65535) (hc : y.settleCount ≤ 255) : Follows x y :=
  h.ended hp ht hm hs hr hq hw hc fun h0 => by rcases h.state_of_move hx with h1 | h1 <;> simp [h1] at h0

theorem stepFor_bounds {x : Crusher} (h : ContextInv x) (e : Int) : -200 ≤ x.stepFor e ∧ x.stepFor e ≤ 200 := by
  obtain ⟨-, h1, h2, -⟩ := h.params_bounds
  simp only [Crusher.stepFor, clampInt]
  omega

theorem stepFor_ne_zero {x : Crusher} (h : ContextInv x) {e : Int} (he : x.inDeadband e = false) : x.stepFor e ≠ 0 := by
  obtain ⟨h0, h1, -⟩ := h.params_bounds
  simp only [Crusher.inDeadband, decide_eq_false_iff_not] at he
  simp only [Crusher.stepFor, clampInt]
  omega

theorem issue_follows {x : Crusher} (h : ContextInv x) {m : Move} (hm : x.moveRec = some m) (v : View) (gap : Nat) :
    Follows x (issue v m gap x) := by
  have hx : x.moveRec.isSome = true := by simp [hm]
  unfold issue
  dsimp only
  split
  · exact h.endedMove hx rfl rfl rfl rfl rfl rfl h.ranges.2 h.ranges.1
  · split
    · exact h.endedMove hx rfl rfl rfl rfl rfl rfl h.ranges.2 h.ranges.1
    · rename_i hd _
      refine ⟨{ h with move := ?_, moving := fun _ => rfl }, .rfl⟩
      rintro _ ⟨⟩
      obtain ⟨hl, hu⟩ := stepFor_bounds h (x.error gap)
      exact ⟨⟨by simp, fun _ => ⟨_, rfl, rfl, stepFor_ne_zero h (by simpa using hd), hl, hu, rfl⟩,
        (h.move m hm).1.elapsed⟩, (h.move m hm).2⟩

theorem issueCheck_follows {x : Crusher} (h : ContextInv x) (v : View) : Follows x (issueCheck v x) := by
  unfold issueCheck
  split
  · rename_i hm _
    split
    · exact issue_follows h hm v _
    · exact h.follows_self
  · exact h.follows_self

theorem newMove_inv (x : Crusher) (cause : MoveCause) : MoveInv x (newMove cause) :=
  ⟨fun _ => ⟨rfl, rfl⟩, fun h => absurd rfl h, Nat.zero_le _⟩

theorem MoveInv.congr {x y : Crusher} {m : Move} (h : MoveInv x m) (hq : y.moveSeq = x.moveSeq)
    (hc : y.command = x.command) : MoveInv y m :=
  ⟨h.waiting, by rw [hq, hc]; exact h.flying, h.elapsed⟩

/-- A context that keeps its move, the command it was issued with and its state keeps what is said of the move. -/
theorem ContextInv.sameMove {x y : Crusher} (h : ContextInv x) (hm : y.moveRec = x.moveRec) (hq : y.moveSeq = x.moveSeq)
    (hc : y.command = x.command) (hs : y.state = x.state) :
    ∀ m, y.moveRec = some m → MoveInv y m ∧ (y.state = .move ∨ y.state = .recover) := by
  rw [hm, hs]
  exact fun m hx => ⟨(h.move m hx).1.congr hq hc, (h.move m hx).2⟩

/-- A context without a move that keeps none and is not in MOVE. -/
theorem move_of_none {y : Crusher} (hm : y.moveRec = none) :
    ∀ m, y.moveRec = some m → MoveInv y m ∧ (y.state = .move ∨ y.state = .recover) := by
  simp [hm]

theorem ContextInv.settle {x : Crusher} (h : ContextInv x) : Follows x { x with targetSettled := true } :=
  ⟨{ h with move := h.sameMove rfl rfl rfl rfl }, .rfl⟩

/-- A proposal within the largest step is kept whatever else the context does (R60). -/
theorem ContextInv.propose {x : Crusher} (h : ContextInv x) {step : Int} (hs : -200 ≤ step ∧ step ≤ 200) :
    Follows x { x with proposedStep := some step } :=
  ⟨{ h with move := h.sameMove rfl rfl rfl rfl, proposed := by rintro _ ⟨⟩; exact hs }, .rfl⟩

theorem evaluateRun_follows {x : Crusher} (h : ContextInv x) (hs : x.state = .run) (v : View) (gap : Nat) :
    Follows x (evaluateRun v gap x) := by
  unfold evaluateRun
  dsimp only
  split
  · exact h.settle
  · split
    · exact h.follows_self
    · have hn := h.reliefAbsent (.inr (.inl hs))
      have hb (cause : MoveCause) : Follows x { x with state := .move, moveRec := some (newMove cause) } :=
        ⟨{ h with
            move := by rintro _ ⟨⟩; exact ⟨newMove_inv _ _, .inl rfl⟩
            moving := fun _ => rfl
            reliefAbsent := fun _ => hn
            reliefOpen := by simp
            reliefCleared := by simp
            settled := by simp }, by simp [hs]⟩
      exact (hb _).trans (issueCheck_follows (hb _).inv v)

theorem proposeRun_follows {x : Crusher} (h : ContextInv x) (gap : Nat) : Follows x (proposeRun gap x) := by
  unfold proposeRun
  dsimp only
  split
  · exact h.settle.trans (h.settle.inv.propose (by decide))
  · split
    · exact h.propose (by decide)
    · exact h.propose (stepFor_bounds h _)

/-- A context without a move leaves RECOVER for RUN, its relief record discarded (R71, R72). -/
theorem ContextInv.recovered {x : Crusher} (h : ContextInv x) (hs : x.state = .recover) (hm : x.moveRec = none) :
    Follows x { x with state := .run, reliefRec := none } :=
  ⟨{ h with
      move := move_of_none hm
      moving := by simp
      reliefAbsent := fun _ => rfl
      reliefOpen := by simp
      reliefCleared := by simp
      relief := by simp
      settled := by simp }, by simp [hs]⟩

theorem evaluateRecover_follows {x : Crusher} (h : ContextInv x) (hs : x.state = .recover) (hm : x.moveRec = none)
    (v : View) (gap : Nat) : Follows x (evaluateRecover v gap x) := by
  have hr := h.recovered hs hm
  unfold evaluateRecover
  dsimp only
  split
  · exact hr.trans hr.inv.settle
  · split
    · exact hr
    · have hb : Follows x { x with moveRec := some (newMove .recovery) } :=
        ⟨{ h with
            move := by rintro _ ⟨⟩; exact ⟨newMove_inv _ _, .inr hs⟩
            moving := fun _ => rfl }, .rfl⟩
      exact hb.trans (issueCheck_follows hb.inv v)

theorem proposeRecover_follows {x : Crusher} (h : ContextInv x) (hs : x.state = .recover) (hm : x.moveRec = none)
    (gap : Nat) : Follows x (proposeRecover gap x) := by
  have hr := h.recovered hs hm
  unfold proposeRecover
  dsimp only
  split
  · exact (hr.trans hr.inv.settle).trans (hr.inv.settle.inv.propose (by decide))
  · split
    · exact hr.trans (hr.inv.propose (by decide))
    · exact h.propose (stepFor_bounds h _)

theorem gapArrival_follows {x : Crusher} (h : ContextInv x) (v : View) : Follows x (gapArrival v x) := by
  unfold gapArrival
  split
  · exact issueCheck_follows h v
  · rename_i hm
    split
    · exact h.follows_self
    · split
      · split
        · rename_i hs
          split
          · exact proposeRun_follows h _
          · exact evaluateRun_follows h hs v _
        · rename_i hs
          split
          · exact proposeRecover_follows h hs hm _
          · exact evaluateRecover_follows h hs hm v _
        all_goals exact h.follows_self
      · exact h.follows_self

/-- A crusher enters FAULT without a move (R46, R56, R57, R69). -/
theorem ContextInv.faulted {x y : Crusher} (h : ContextInv x) (hx : x.state ≠ .absent) (hs : y.state = .fault)
    (hp : y.params = x.params) (ht : y.cssTarget = x.cssTarget) (hm : y.moveRec = none)
    (hr : ∀ r, y.reliefRec = some r →
      1 ≤ r.reliefCount ∧ r.reliefCount ≤ 255 ∧ r.clearRun ≤ 16 ∧ (r.phase = .opened → r.clearRun ≤ 15))
    (hq : y.proposedStep = x.proposedStep) (hc : y.settleCount ≤ 255 ∧ y.wear ≤ 65535) : Follows x y := by
  refine ⟨⟨hp ▸ h.params, by rw [hp, ht]; exact h.window, move_of_none hm, ?_, ?_, ?_, ?_, hr, ?_, hc,
    hq ▸ h.proposed⟩, ?_⟩ <;> simp [hs, hx]

theorem complete_follows {x : Crusher} (h : ContextInv x) {m : Move} (hm : x.moveRec = some m) (r : ActResult) :
    Follows x (complete m r x).crusher := by
  have hx : x.moveRec.isSome = true := by simp [hm]
  have hw := h.ranges.2
  cases r
  case idle => exact h.follows_self
  case busy => exact h.follows_self
  case done =>
    refine h.endedMove hx rfl rfl rfl rfl rfl rfl ?_ h.settleCycles_le
    dsimp only [complete, quiet]
    generalize (m.cause == .wear && _) = worn
    split <;> omega
  case strokeEnd => exact h.endedMove hx rfl rfl rfl rfl rfl rfl hw h.settleCycles_le
  case fault =>
    refine h.faulted ?_ rfl rfl rfl rfl h.relief rfl h.ranges
    rcases h.state_of_move hx with hs | hs <;> simp [hs]

theorem statusOnMove_follows {x : Crusher} (h : ContextInv x) (st : ActStatus) :
    Follows x (statusOnMove st x).crusher := by
  unfold statusOnMove
  split
  · exact h.follows_self
  · rename_i m hm
    split
    · exact h.follows_self
    · rename_i hf
      rw [not_or] at hf
      have hi := (h.move m hm).1
      split
      · exact h.follows_self
      · refine ⟨{ h with move := ?_, moving := fun _ => rfl }, .rfl⟩
        rintro _ ⟨⟩
        exact ⟨⟨by simp, fun _ => hi.flying hf.1, hi.elapsed⟩, (h.move m hm).2⟩
      all_goals exact complete_follows h hm _

/-! ### The counted cycle -/

theorem cycleCrusher_follows {x : Crusher} (h : ContextInv x) (governed : Bool) :
    Follows x (cycleCrusher governed x).crusher := by
  have hc : x.settleCount - 1 ≤ 255 := by have := h.ranges.1; omega
  have h1 : Follows x { x with settleCount := x.settleCount - 1 } :=
    ⟨{ h with
        move := h.sameMove rfl rfl rfl rfl
        settled := fun hs => by rw [h.settled hs]
        ranges := ⟨hc, h.ranges.2⟩ }, .rfl⟩
  unfold cycleCrusher
  dsimp only
  split
  · rename_i m hm
    have hx : x.moveRec.isSome = true := by simp [hm]
    obtain ⟨hi, hs⟩ := h.move m hm
    split
    · unfold expireMove
      split
      · exact h.endedMove hx rfl rfl rfl rfl rfl rfl h.ranges.2 h.settleCycles_le
      all_goals
        refine h.faulted ?_ rfl rfl rfl rfl h.relief rfl ⟨hc, h.ranges.2⟩
        rcases hs with hs | hs <;> simp [hs]
    · refine ⟨{ h1.inv with move := ?_, moving := fun _ => rfl }, .rfl⟩
      rintro _ ⟨⟩
      exact ⟨⟨hi.waiting, hi.flying, Nat.min_le_left _ _⟩, hs⟩
  · rename_i hm
    split
    · rename_i hr
      simp only [Bool.and_eq_true, beq_iff_eq] at hr
      exact h1.trans (h1.inv.recovered hr.1.1 hm)
    · exact h1

/-! ### Signals and requests -/

/-- A crusher that is enabled, or in FAULT, enters STANDBY without a move (R44, R45, R46). -/
theorem ContextInv.stood {x y : Crusher} (h : ContextInv x) (hx : x.state ≠ .absent) (hs : y.state = .standby)
    (hp : y.params = x.params) (ht : y.cssTarget = x.cssTarget) (hm : y.moveRec = none)
    (hr : y.reliefRec = x.reliefRec ∨ y.reliefRec = none) (hq : y.proposedStep = x.proposedStep)
    (hc : y.settleCount = 0) (hw : y.wear = x.wear) : Follows x y := by
  refine ⟨⟨hp ▸ h.params, by rw [hp, ht]; exact h.window, move_of_none hm, ?_, ?_, ?_, ?_, ?_, fun _ => hc, ?_,
    hq ▸ h.proposed⟩, ?_⟩
  case refine_5 => rcases hr with hr | hr <;> rw [hr]; exacts [h.relief, by simp]
  case refine_6 => exact ⟨by omega, hw ▸ h.ranges.2⟩
  all_goals simp [hs, hx]

theorem standDown_follows {x : Crusher} (h : ContextInv x) (governed : Bool) : Follows x (standDown governed x) := by
  unfold standDown
  split
  · rename_i he
    have hx : x.state ≠ .absent := by rintro hs; simp [hs, CrusherState.isEnabled] at he
    dsimp only
    split
    · exact h.stood hx rfl rfl rfl rfl (.inl rfl) rfl rfl rfl
    · rename_i hm
      have hm : x.moveRec = none := by simpa using hm
      split <;> exact h.stood hx rfl rfl rfl hm (.inl rfl) rfl rfl rfl
  · exact h.follows_self

theorem enable_follows {x : Crusher} (h : ContextInv x) (hs : x.state = .standby) : Follows x (enable x) := by
  have hm := h.moveRec_none (by simp [hs]) (by simp [hs])
  unfold enable
  split
  · rename_i hr
    exact ⟨{ h with
      move := move_of_none hm, moving := by simp, reliefAbsent := fun _ => hr, reliefOpen := by simp
      reliefCleared := by simp, settled := by simp }, by simp [hs]⟩
  · rename_i r hr
    split
    · rename_i hp
      exact ⟨{ h with
        move := move_of_none hm, moving := by simp, reliefAbsent := by simp, reliefOpen := fun _ => ⟨r, hr, hp⟩
        reliefCleared := by simp, settled := by simp }, by simp [hs]⟩
    · rename_i hp
      exact ⟨{ h with
        move := move_of_none hm, moving := by simp [Crusher.enterRecover]
        reliefAbsent := by simp [Crusher.enterRecover]
        reliefOpen := by simp [Crusher.enterRecover], reliefCleared := fun _ => ⟨r, hr, hp⟩
        settled := by simp [Crusher.enterRecover], ranges := ⟨h.settleCycles_le, h.ranges.2⟩ },
        by simp [hs, Crusher.enterRecover]⟩

theorem clearFault_follows {x : Crusher} (h : ContextInv x) (hs : x.state = .fault) (governed : Bool) :
    Follows x (clearFault governed x) :=
  h.stood (by simp [hs]) rfl rfl rfl (h.moveRec_none (by simp [hs]) (by simp [hs])) (.inr rfl) rfl rfl rfl

/-- Valid parameters and a target in their window are taken; a waiting WEAR move becomes a TARGET move (R47, R48,
R54). -/
theorem retarget_follows {x : Crusher} (h : ContextInv x) {p : CrusherParams} {css : Nat}
    (hp : ∀ ok ∈ p.checks true, ok = true) (hc : p.cssMin ≤ css ∧ css ≤ p.cssMax) :
    Follows x (retarget css { x with params := p }) := by
  unfold retarget
  split
  · rename_i he
    exact ⟨{ h with params := hp, window := he ▸ hc, move := h.sameMove rfl rfl rfl rfl }, .rfl⟩
  · refine ⟨{ h with params := hp, window := hc, move := ?_, moving := fun hs => by simpa using h.moving hs }, .rfl⟩
    intro m hm
    obtain ⟨m0, h0, rfl⟩ := Option.map_eq_some_iff.1 hm
    obtain ⟨hi, hs⟩ := h.move m0 h0
    refine ⟨?_, hs⟩
    split
    · rename_i hw
      exact ⟨hi.waiting, fun hn => absurd hw.1 hn, hi.elapsed⟩
    · exact hi.congr rfl rfl

theorem clamp_mem {lo hi : Nat} (h : lo ≤ hi) (x : Nat) : lo ≤ clamp lo hi x ∧ clamp lo hi x ≤ hi := by
  unfold clamp; omega

/-- Parameters that pass every check are taken, with the target brought into their window (R38, R48). -/
theorem writeParams_follows {x : Crusher} (h : ContextInv x) {p : CrusherParams}
    (hp : ∀ ok ∈ p.checks true, ok = true) : Follows x (writeParams p x) := by
  have hw : p.cssMin < p.cssMax := by
    simp only [CrusherParams.checks, List.forall_mem_cons, Bool.and_eq_true, decide_eq_true_eq] at hp
    exact hp.1.2
  exact retarget_follows h hp (clamp_mem (Nat.le_of_lt hw) x.cssTarget)

theorem resetWear_follows {x : Crusher} (h : ContextInv x) : Follows x (resetWear x) :=
  ⟨{ h with move := h.sameMove rfl rfl rfl rfl, ranges := ⟨h.ranges.1, Nat.zero_le _⟩ }, .rfl⟩

theorem dryRunOn_follows {x : Crusher} (h : ContextInv x) : Follows x (dryRunOn x) := by
  unfold dryRunOn
  split
  · rename_i hm
    exact h.endedMove hm rfl rfl rfl rfl rfl rfl h.ranges.2 h.settleCycles_le
  · exact h.follows_self

theorem dryRunOff_follows {x : Crusher} (h : ContextInv x) : Follows x (dryRunOff x) :=
  ⟨{ h with move := h.sameMove rfl rfl rfl rfl, proposed := by simp [dryRunOff] }, .rfl⟩

/-! ### Relief -/

/-- What the invariant says of a relief record. -/
def Relief.Bounded (r : Relief) : Prop :=
  1 ≤ r.reliefCount ∧ r.reliefCount ≤ 255 ∧ r.clearRun ≤ 16 ∧ (r.phase = .opened → r.clearRun ≤ 15)

theorem openRelief_bounded {old : Option Relief} (now : Long) : (openRelief now old).Bounded := by
  cases old <;> simp only [openRelief, Relief.Bounded, countUp255] <;> omega

theorem openRelief_phase (now : Long) (old : Option Relief) : (openRelief now old).phase = .opened := by
  cases old <;> rfl

theorem onset_follows {x : Crusher} (h : ContextInv x) (hs : x.state.isRun = true) (now : Long) :
    Follows x (onset now x).crusher := by
  have hx : x.state ≠ .absent := by rintro hs'; simp [hs', CrusherState.isRun] at hs
  have hy (y : Crusher) (hp : y.params = x.params) (ht : y.cssTarget = x.cssTarget) (hm : y.moveRec = none)
      (hq : y.proposedStep = x.proposedStep) (hc : y.settleCount ≤ 255 ∧ y.wear ≤ 65535) :
      Follows x { y with reliefRec := some (openRelief now x.reliefRec), state := .relief } :=
    ⟨⟨hp ▸ h.params, by rw [hp, ht]; exact h.window, move_of_none hm, by simp, by simp,
      fun _ => ⟨_, rfl, openRelief_phase _ _⟩, by simp, by rintro _ ⟨⟩; exact openRelief_bounded now, by simp, hc,
      hq ▸ h.proposed⟩, by simp [hx]⟩
  unfold onset
  dsimp only
  split
  · exact hy _ rfl rfl rfl rfl h.ranges
  · rename_i hm
    exact hy _ rfl rfl (by simpa using hm) rfl h.ranges

/-- A crusher in RELIEF, STANDBY or FAULT takes a relief record that suits its state. -/
theorem ContextInv.takeRelief {x : Crusher} (h : ContextInv x) (hs : x.state = .relief ∨ x.state = .standby)
    {r : Relief} (hr : r.Bounded) (ho : x.state = .relief → r.phase = .opened) :
    Follows x { x with reliefRec := some r } :=
  ⟨{ h with
      move := h.sameMove rfl rfl rfl rfl
      reliefAbsent := fun hn => by rcases hs with hs | hs <;> simp [hs] at hn
      reliefOpen := fun hn => ⟨r, rfl, ho hn⟩
      reliefCleared := fun hn => by rcases hs with hs | hs <;> simp [hs] at hn
      relief := by rintro _ ⟨⟩; exact hr }, .rfl⟩

theorem reliefCleared_follows {x : Crusher} (h : ContextInv x) (hs : x.state = .relief ∨ x.state = .standby)
    {r : Relief}
    (hr : 1 ≤ r.reliefCount ∧ r.reliefCount ≤ 255 ∧ r.clearRun ≤ 16) : Follows x (reliefCleared r x) := by
  have hb : ({ r with phase := .cleared } : Relief).Bounded := ⟨hr.1, hr.2.1, hr.2.2, by simp⟩
  have hm : x.moveRec = none :=
    h.moveRec_none (by rcases hs with hs | hs <;> simp [hs]) (by rcases hs with hs | hs <;> simp [hs])
  have hx : x.state ≠ .absent := by rcases hs with hs | hs <;> simp [hs]
  unfold reliefCleared
  dsimp only
  split
  · exact h.faulted hx rfl rfl rfl hm (by rintro _ ⟨⟩; exact hb) rfl h.ranges
  · split
    · exact ⟨{ h with
        move := move_of_none hm, moving := by simp [Crusher.enterRecover]
        reliefAbsent := by simp [Crusher.enterRecover]
        reliefOpen := by simp [Crusher.enterRecover], reliefCleared := fun _ => ⟨_, rfl, rfl⟩
        relief := by rintro _ ⟨⟩; exact hb
        settled := by simp [Crusher.enterRecover], ranges := ⟨h.settleCycles_le, h.ranges.2⟩ },
        by simp [hx, Crusher.enterRecover]⟩
    · rename_i hn
      exact h.takeRelief hs hb fun hs' => absurd hs' hn

theorem sampleOpen_follows {x : Crusher} (h : ContextInv x) (hs : x.state = .relief ∨ x.state = .standby) {r : Relief}
    (hr : x.reliefRec = some r) (ho : r.phase = .opened) (smp : Sample) : Follows x (sampleOpen smp r x) := by
  obtain ⟨h1, h2, -, h4⟩ := h.relief r hr
  have hc := h.params_bounds
  have h4 := h4 ho
  unfold sampleOpen
  split
  · exact h.takeRelief hs ⟨h1, h2, Nat.zero_le _, fun _ => Nat.zero_le _⟩ fun _ => ho
  · exact h.takeRelief hs ⟨h1, h2, Nat.zero_le _, fun _ => Nat.zero_le _⟩ fun _ => ho
  · dsimp only
    split
    · exact reliefCleared_follows h hs ⟨h1, h2, by simp only; omega⟩
    · exact h.takeRelief hs ⟨h1, h2, by simp only; omega, fun _ => by simp only; omega⟩ fun _ => ho
  · exact h.follows_self

theorem takeSample_follows {x : Crusher} (h : ContextInv x) (now : Long) (smp : Sample) :
    Follows x (takeSample now smp x).crusher := by
  have hon (hs : x.state.isRun = true) : Follows x (if smp = .onset then onset now x else quiet x).crusher := by
    split
    · exact onset_follows h hs now
    · exact h.follows_self
  have hst (hs : x.state = .standby) : Follows x (if smp = .onset then standbyOnset now x else quiet x).crusher := by
    split
    · exact h.takeRelief (.inr hs) (openRelief_bounded now) (by simp [hs])
    · exact h.follows_self
  unfold takeSample
  split
  case h_1 hs => exact hon (by simp [hs, CrusherState.isRun])
  case h_2 hs => exact hon (by simp [hs, CrusherState.isRun])
  case h_3 hs => exact hon (by simp [hs, CrusherState.isRun])
  case h_4 hs =>
    split
    · rename_i r hr
      split
      · rename_i ho
        exact sampleOpen_follows h (.inl hs) hr ho smp
      · exact h.follows_self
    · exact h.follows_self
  case h_5 hs =>
    split
    · rename_i r hr
      split
      · rename_i ho
        exact sampleOpen_follows h (.inr hs) hr ho smp
      · exact hst hs
    · exact hst hs
  all_goals exact h.follows_self

/-! ### Commit and warm restart -/

theorem commitGovernance_follows {x : Crusher} (h : ContextInv x) (n : CommitNews) :
    Follows x (commitGovernance n x) := by
  unfold commitGovernance
  split
  · exact h.ended rfl rfl rfl rfl rfl rfl h.ranges.2 h.ranges.1 fun hs => h.settled hs
  · split
    · rename_i hm
      simp only [Bool.and_eq_true] at hm
      exact h.endedMove hm.2 rfl rfl rfl rfl rfl rfl h.ranges.2 h.ranges.1
    · exact h.follows_self

theorem commitRelief_follows {x : Crusher} (h : ContextInv x) (n : CommitNews) : Follows x (commitRelief n x) := by
  unfold commitRelief
  split
  · exact h.follows_self
  · have hd (hs : x.state = .standby ∨ x.state = .fault) : Follows x { x with reliefRec := none } :=
      ⟨{ h with
          move := h.sameMove rfl rfl rfl rfl, reliefAbsent := fun _ => rfl
          reliefOpen := fun hn => by rcases hs with hs | hs <;> simp [hs] at hn
          reliefCleared := fun hn => by rcases hs with hs | hs <;> simp [hs] at hn
          relief := by simp }, .rfl⟩
    split
    case h_1 hs =>
      exact h.stood (by simp [hs]) rfl rfl rfl (h.moveRec_none (by simp [hs]) (by simp [hs])) (.inr rfl) rfl rfl rfl
    case h_2 hs => exact hd (.inl hs)
    case h_3 hs => exact hd (.inr hs)
    all_goals exact h.follows_self

/-- A commit leaves a context with its invariant, ABSENT exactly where the new bank has no POWER entry (R10, R41). -/
theorem commitCrusher_inv {x : Crusher} (h : ContextInv x) (n : CommitNews) :
    ContextInv (commitCrusher n x) ∧ ((commitCrusher n x).state = .absent ↔ n.present = false) := by
  unfold commitCrusher
  split
  · rename_i hp
    split
    · rename_i hs
      have hm := h.moveRec_none (by simp [hs]) (by simp [hs])
      exact ⟨{ h with
        move := move_of_none hm, moving := by simp, reliefAbsent := by simp, reliefOpen := by simp
        reliefCleared := by simp, settled := fun _ => rfl, ranges := ⟨Nat.zero_le _, h.ranges.2⟩ }, by simp [hp]⟩
    · rename_i hs
      have hc := (commitGovernance_follows h n).trans (commitRelief_follows (commitGovernance_follows h n).inv n)
      exact ⟨hc.inv, by simp [hc.absent, hs, hp]⟩
  · rename_i hp
    split
    · rename_i hs
      exact ⟨h, by simp [hs, hp]⟩
    · have hy (y : Crusher) (hp : y.params = x.params) (ht : y.cssTarget = x.cssTarget) (hm : y.moveRec = none)
          (hq : y.proposedStep = x.proposedStep) (hw : y.wear ≤ 65535) :
          ContextInv { y with state := .absent, reliefRec := none, settleCount := 0 } :=
        ⟨hp ▸ h.params, by rw [hp, ht]; exact h.window, move_of_none hm, by simp, fun _ => rfl, by simp, by simp,
          by simp, fun _ => rfl, ⟨Nat.zero_le _, hw⟩, hq ▸ h.proposed⟩
      refine ⟨?_, by simp [hp]⟩
      dsimp only
      split
      · exact hy _ rfl rfl rfl rfl h.ranges.2
      · rename_i hm
        exact hy _ rfl rfl (by simpa using hm) rfl h.ranges.2

theorem Relief.restart_bounded {r : Relief} (h : r.Bounded) : r.restart.Bounded := by
  unfold Relief.restart
  split
  · exact ⟨h.1, h.2.1, Nat.zero_le _, fun _ => Nat.zero_le _⟩
  · exact h

theorem restartCrusher_follows {x : Crusher} (h : ContextInv x) (governed : Bool) :
    Follows x (restartCrusher governed x) := by
  have hs : (restartCrusher governed x).state = .absent ∨ (restartCrusher governed x).state = .standby := by
    dsimp only [restartCrusher]; split <;> simp
  have ha : (restartCrusher governed x).state = .absent ↔ x.state = .absent := by
    dsimp only [restartCrusher]; split <;> simp_all
  refine ⟨⟨h.params, h.window, move_of_none rfl, ?_, ?_, ?_, ?_, ?_, fun _ => rfl, ⟨Nat.zero_le _, h.ranges.2⟩,
    h.proposed⟩, ha⟩
  · intro hm; rw [hm] at hs; simp at hs
  · intro hn
    have hx : x.state = .absent := by
      rcases hs with hs | hs
      · exact ha.1 hs
      · rw [hs] at hn; simp at hn
    simp [restartCrusher, hx, h.reliefAbsent (.inl hx)]
  · intro hm; rw [hm] at hs; simp at hs
  · intro hm; rw [hm] at hs; simp at hs
  · intro r hr
    dsimp only [restartCrusher] at hr
    split at hr
    · cases hr
    · obtain ⟨r0, h0, rfl⟩ := Option.map_eq_some_iff.1 hr
      exact Relief.restart_bounded (h.relief r0 h0)

end Sys2Proof.Machine
end

section
/-!
PROOF. The invariant of the crusher contexts, kept by every step (R10, R48, R51, R64). Every event of a block lets each
context follow from the one before, and so leaves ABSENT as it is; a station commit alone makes it anew from the table.
-/

namespace Sys2Proof.Machine

/-! ### Contexts that are ABSENT where a claim says so -/

/-- Every context holds its invariant, and is ABSENT exactly where `A` says. -/
structure Contexts (A : Fin 4 → Prop) (s : State) : Prop where
  context : ∀ k : Fin 4, ContextInv (s.crusher k)
  absent : ∀ k : Fin 4, (s.crusher k).state = .absent ↔ A k

theorem CrusherInv.contexts {s : State} (h : CrusherInv s) : Contexts (fun k => present s.activeTable k = false) s :=
  ⟨h.context, h.presence⟩

theorem CrusherInv.of_contexts {s t : State} (h : CrusherInv s) (ht : ∀ A, Contexts A s → Contexts A t)
    (ha : t.activeTable = s.activeTable) : CrusherInv t :=
  have hc := ht _ h.contexts
  ⟨hc.context, by rw [ha]; exact hc.absent⟩

@[simp] theorem State.crusher_changeCrusher (s : State) (k j : Fin 4) (ch : Change) :
    (changeCrusher k ch s).crusher j = if k = j then ch.crusher else s.crusher j := by
  rw [changeCrusher_eq]
  exact State.crusher_setCrusher s k j ch.crusher

/-- What every actor keeps and one of them brings about, holds once all have acted, in whatever order. -/
theorem inFreeOrder_establishes {α : Type} (P Q : State → Prop) {actors : List α} {act : α → State → State} {s : State}
    (h0 : P { s with freeCount := s.freeCount + 1 }) (hP : ∀ a ∈ actors, ∀ t, P t → P (act a t))
    (hQ : ∀ a ∈ actors, ∀ t, P t → Q t → Q (act a t)) {b : α} (hb : b ∈ actors) (he : ∀ t, P t → Q (act b t)) :
    Q (inFreeOrder actors act s) := by
  unfold inFreeOrder
  have hp := shuffle_perm (Config.freeOrder s.freeCount) actors
  generalize ({ s with freeCount := s.freeCount + 1 } : State) = t at h0
  obtain ⟨before, later, ho⟩ := List.append_of_mem (hp.mem_iff.2 hb)
  have hm : ∀ a ∈ before ++ b :: later, a ∈ actors := fun a ha => hp.mem_iff.1 (ho ▸ ha)
  rw [ho, List.foldl_append, List.foldl_cons]
  have hbefore : P (before.foldl (fun t a => act a t) t) :=
    List.foldlRecOn before _ h0 fun u hu a ha => hP a (hm a (by simp [ha])) u hu
  have hlater := List.foldlRecOn (motive := fun u => P u ∧ Q u) later (fun t a => act a t)
    ⟨hP b hb _ hbefore, he _ hbefore⟩ fun u hu a ha =>
      ⟨hP a (hm a (by simp [ha])) u hu.1, hQ a (hm a (by simp [ha])) u hu.1 hu.2⟩
  exact hlater.2

namespace Contexts

variable {A : Fin 4 → Prop} {s : State}

theorem of_eq {t : State} (h : Contexts A s) (hc : t.crushers = s.crushers) : Contexts A t := by
  have hk (k : Fin 4) : t.crusher k = s.crusher k := by simp only [State.crusher, hc]
  exact ⟨fun k => hk k ▸ h.context k, fun k => hk k ▸ h.absent k⟩

theorem change (h : Contexts A s) {k : Fin 4} {ch : Change} (hf : Follows (s.crusher k) ch.crusher) :
    Contexts A (changeCrusher k ch s) := by
  refine ⟨fun j => ?_, fun j => ?_⟩ <;> rw [State.crusher_changeCrusher] <;> split
  · exact hf.inv
  · exact h.context j
  · subst_vars; exact hf.absent.trans (h.absent _)
  · exact h.absent j

/-- Each of the four crushers in turn changes as its own context allows. -/
theorem changeFour (h : Contexts A s) (f : Fin 4 → State → Change)
    (hf : ∀ k t, ContextInv (t.crusher k) → Follows (t.crusher k) (f k t).crusher) :
    Contexts A (forFour (fun k t => changeCrusher k (f k t) t) s) :=
  forFour_induct (Contexts A) h fun k t ht => ht.change (hf k t (ht.context k))

/-! ### Line mode -/

theorem signal (h : Contexts A s) : Contexts A (signalCrushers s) :=
  h.changeFour _ fun _ _ hx => standDown_follows hx _

theorem zeroFeeders (h : Contexts A s) : Contexts A (zeroFeeders s) := h.of_eq (by simp)

theorem settleLevel (h : Contexts A s) (x : Cause) : Contexts A (settleLevel x s) := h.of_eq (by simp)

theorem raiseIf (h : Contexts A s) (b : Bool) (x : Cause) : Contexts A (raiseIf b x s) := h.of_eq (by simp)

theorem clearCauses (h : Contexts A s) : Contexts A (clearCauses s) := h.of_eq (by simp)

theorem changeMode (h : Contexts A s) (mode : LineMode) : Contexts A (changeMode mode s) := by
  have hif {c : Prop} [Decidable c] {u v : State} (hu : Contexts A u) (hv : Contexts A v) :
      Contexts A (if c then u else v) := by split <;> assumption
  have h1 : Contexts A
      { s with line := { s.line with lineMode := mode }, pins := { s.pins with tripOut := mode == .tripped } } :=
    h.of_eq rfl
  have h2 := hif (c := zeroesFeeders s.line.lineMode mode = true) h1.zeroFeeders h1
  have h3 := hif (c := signalsCrushers s.line.lineMode mode = true) h2.signal h2
  exact (h3.raiseIf _ _).settleLevel _

theorem takeTripInputs (h : Contexts A s) (a : TripInputs) : Contexts A (takeTripInputs a s) := by
  unfold Machine.takeTripInputs
  split
  · split
    · exact h.of_eq rfl
    · unfold enterTripped
      refine Contexts.changeMode ?_ _
      exact h.of_eq (by simp)
  · exact h

theorem evaluateTrip (h : Contexts A s) : Contexts A (evaluateTrip s) := h.takeTripInputs _

theorem endStop (h : Contexts A s) (how : StopEnd) : Contexts A (endStop how s) := by
  unfold Machine.endStop
  refine Contexts.changeMode ?_ _
  exact h.of_eq rfl

theorem cycleLine (h : Contexts A s) : Contexts A (cycleLine s) := by
  unfold Machine.cycleLine
  split
  · split
    · exact h.endStop _
    · split
      · split
        · exact (h.endStop .forced).of_eq (by simp)
        · exact h.of_eq rfl
      · exact h
  · exact h

theorem lineAcquired (h : Contexts A s) : Contexts A (lineAcquired s) := by
  unfold Machine.lineAcquired
  refine Contexts.evaluateTrip ?_
  split
  · exact h.changeMode _
  · exact h

theorem lineLockLost (h : Contexts A s) : Contexts A (lineLockLost s) := by
  unfold Machine.lineLockLost
  split
  · exact h
  · refine Contexts.changeMode ?_ _
    exact h.of_eq (by simp)

theorem lineRestart (h : Contexts A s) : Contexts A (lineRestart s) := by
  unfold Machine.lineRestart
  refine Contexts.takeTripInputs ?_ _
  split
  · exact h
  · refine Contexts.changeMode ?_ _
    exact h.of_eq (by simp)

/-! ### Arrivals -/

theorem actuatorArrival (h : Contexts A s) (k : Fin 4) : Contexts A (actuatorArrival k s) := by
  unfold Machine.actuatorArrival
  split
  · rename_i st _
    have hs := h.change (takeSample_follows (h.context k) s.tracker.cycleCount
      (statusSample st.reliefOpen (s.isFresh (.pressure k))))
    exact hs.change (statusOnMove_follows (hs.context k) st)
  · exact h

theorem powerArrival (h : Contexts A s) (k : Fin 4) : Contexts A (powerArrival k s) := by
  have hf : Contexts A (computeFeeder k s) := h.of_eq (by simp)
  exact hf.change (issueCheck_follows (hf.context k) _)

theorem travelArrival (h : Contexts A s) (d : Nat) : Contexts A (travelArrival d s) := by
  unfold Machine.travelArrival
  split
  · exact h
  · split
    · exact h.of_eq rfl
    · unfold lotEvents
      dsimp only
      split
      · unfold retirementTest
        split
        · refine Contexts.endStop ?_ _
          exact h.of_eq (by simp)
        · exact h.of_eq (by simp)
      · exact h.of_eq (by simp)

theorem deliverArrival (h : Contexts A s) (a : Arrival) : Contexts A (deliverArrival a s) := by
  unfold Machine.deliverArrival
  split
  case h_1 => exact h.evaluateTrip
  case h_2 k _ =>
    unfold pressureArrival
    split
    · exact h.change (takeSample_follows (h.context k) _ _)
    · exact h
  case h_3 k _ => exact h.actuatorArrival k
  case h_4 k _ => exact h.change (gapArrival_follows (h.context k) _)
  case h_5 k _ => exact h.powerArrival k
  case h_8 => exact h.travelArrival _
  all_goals exact h.of_eq (by simp)

/-! ### The store and commits -/

theorem noticeStale (h : Contexts A s) (i : Fin 32) : Contexts A (noticeStale i s) := by
  unfold Machine.noticeStale
  split
  · split
    · exact h.of_eq (by simp)
    · exact h.evaluateTrip
    · exact h
  · exact h

theorem noticeStales (h : Contexts A s) (l : List (Fin 32)) : Contexts A (inFreeOrder l Machine.noticeStale s) :=
  inFreeOrder_induct (Contexts A) (h.of_eq rfl) fun i _ _ ht => ht.noticeStale i

theorem cycleStore (h : Contexts A s) : Contexts A (cycleStore s) := by
  unfold Machine.cycleStore
  refine Contexts.noticeStales ?_ _
  exact h.of_eq (by simp)

/-! ### The counted cycle, dry-run and restarts -/

theorem changeDryRun (h : Contexts A s) (on : Bool) : Contexts A (changeDryRun on s) := by
  have h1 : Contexts A { s with handler := { s.handler with dryRun := on } } := h.of_eq rfl
  refine h1.changeFour (fun k t => quiet (if on then dryRunOn (t.crusher k) else dryRunOff (t.crusher k)))
    fun k t hx => ?_
  cases on
  · exact dryRunOff_follows hx
  · exact dryRunOn_follows hx

theorem cycleCrushers (h : Contexts A s) : Contexts A (cycleCrushers s) :=
  h.changeFour _ fun _ _ hx => cycleCrusher_follows hx _

theorem restartCrushers (h : Contexts A s) : Contexts A (restartCrushers s) :=
  h.changeFour _ fun _ _ hx => restartCrusher_follows hx _

theorem warmRestart (h : Contexts A s) : Contexts A (warmRestart s) := by
  have h1 : Contexts A (staleAll (restartTracker (endSession .restart s))) := h.of_eq (by simp [restartTracker])
  have h2 : Contexts A (restartLots (Machine.zeroFeeders (Machine.restartCrushers
      (staleAll (restartTracker (endSession .restart s)))))) :=
    h1.restartCrushers.zeroFeeders.of_eq (by simp [restartLots])
  exact h2.lineRestart.clearCauses

end Contexts

/-- What a station commit tells one block: a context takes its presence from the new bank, every other keeps its own. -/
theorem informCommit_context {old new : Vector Entry 32} {x : Informed} {t : State}
    (h : ∀ k, ContextInv (t.crusher k)) (k : Fin 4) :
    ContextInv ((informCommit old new x t).crusher k) ∧
      (((informCommit old new x t).crusher k).state = .absent ↔
        if x = .crusher k then present new k = false else (t.crusher k).state = .absent) := by
  cases x with
  | record i =>
    have hn := Contexts.noticeStale (A := fun j => (t.crusher j).state = .absent) ⟨h, fun _ => .rfl⟩ i
    exact ⟨hn.context k, by simpa [informCommit] using hn.absent k⟩
  | crusher j =>
    have hc := commitCrusher_inv (h j) (commitNews old new j)
    simp only [informCommit, State.crusher_changeCrusher, Informed.crusher.injEq]
    split
    · subst_vars; exact hc
    · exact ⟨h k, .rfl⟩

/-- A station commit leaves every context with its invariant, ABSENT where the new bank has no POWER entry (R10,
R13). -/
theorem CrusherInv.applyStation {s : State} (h : CrusherInv s) : CrusherInv (applyStation s) := by
  have hall (k : Fin 4) : ContextInv ((Machine.applyStation s).crusher k) ∧
      (((Machine.applyStation s).crusher k).state = .absent ↔ present s.stagedTable k = false) := by
    unfold Machine.applyStation
    dsimp only
    rw [State.crusher_raise]
    refine inFreeOrder_establishes (fun t => ∀ j, ContextInv (t.crusher j))
      (fun t => ContextInv (t.crusher k) ∧ ((t.crusher k).state = .absent ↔ present s.stagedTable k = false))
      (b := Informed.crusher k) ?_ ?_ ?_ (by simp [mem_four]) ?_
    · intro j
      simpa [State.crusher] using h.context j
    · exact fun x _ t ht j => (informCommit_context ht j).1
    · intro x _ t ht hk
      have hx := informCommit_context (old := s.activeTable) (new := s.stagedTable) (x := x) ht k
      refine ⟨hx.1, hx.2.trans ?_⟩
      split
      · rfl
      · exact hk.2
    · intro t ht
      simpa using informCommit_context (old := s.activeTable) (new := s.stagedTable) (x := .crusher k) ht k
  refine ⟨fun k => (hall k).1, fun k => ?_⟩
  rw [(hall k).2]
  simp [Machine.applyStation]

theorem CrusherInv.applyCommits {s : State} (h : CrusherInv s) : CrusherInv (applyCommits s) := by
  refine inFreeOrder_induct CrusherInv (h.of_contexts (fun _ hc => hc.of_eq rfl) rfl) fun b _ t ht => ?_
  unfold applyPending
  split
  · split
    · exact ht.applyStation
    · exact ht
  · split
    · exact ht.of_contexts (fun _ hc => hc.of_eq (by simp)) (by simp [applyCurve])
    · exact ht

/-! ### Requests -/

theorem CrusherInv.change {s : State} (h : CrusherInv s) {k : Fin 4} {ch : Change}
    (hf : Follows (s.crusher k) ch.crusher) : CrusherInv (changeCrusher k ch s) :=
  h.of_contexts (fun _ hc => hc.change hf) (by simp)

/-- A request whose argument is one index keeps what it keeps for each crusher or feeder (R172). -/
theorem indexed_keeps {P : State → Prop} {act : Fin 4 → State → Served} {s : State} (hs : P s)
    (h : ∀ k, P (act k s).state) (payload : List Byte) : P (indexed act payload s).state := by
  unfold indexed
  split
  · split
    · exact h _
    · exact hs
  · exact hs

theorem CrusherInv.writeCrusher {s : State} (h : CrusherInv s) (payload : List Byte) :
    CrusherInv (writeCrusherAct payload s).state := by
  unfold writeCrusherAct
  split
  · rename_i k p curveOk _
    split
    · rename_i k _
      split
      · exact h
      · rename_i hp
        refine h.change (writeParams_follows (h.context k) fun ok ho => ?_)
        have hok := firstFailing_eq_none.1 hp
        have hc : curveOk = true := hok _ (by simp [CrusherParams.checks])
        exact hok ok (hc ▸ ho)
    · exact h
  · exact h

theorem CrusherInv.setTarget {s : State} (h : CrusherInv s) (payload : List Byte) :
    CrusherInv (setTargetAct payload s).state := by
  unfold setTargetAct
  split
  · split
    · rename_i k _
      dsimp only
      split
      · exact h
      · have hw := (h.context k).window
        exact h.change (retarget_follows (h.context k) (h.context k).params (clamp_mem (hw.1.trans hw.2) _))
    · exact h
  · exact h

theorem CrusherInv.crusherEnable {s : State} (h : CrusherInv s) (payload : List Byte) :
    CrusherInv (crusherEnableAct payload s).state := by
  unfold crusherEnableAct
  split
  · exact h
  · split
    · exact h
    · refine indexed_keeps h (fun k => ?_) payload
      split
      case h_1 hs => exact h.change (enable_follows (h.context k) hs)
      all_goals exact h

theorem CrusherInv.crusherDisable {s : State} (h : CrusherInv s) (payload : List Byte) :
    CrusherInv (crusherDisableAct payload s).state := by
  refine indexed_keeps h (fun k => ?_) payload
  split
  · exact h
  · exact h.change (standDown_follows (h.context k) _)

theorem CrusherInv.faultClear {s : State} (h : CrusherInv s) (payload : List Byte) :
    CrusherInv (faultClearAct payload s).state := by
  refine indexed_keeps h (fun k => ?_) payload
  split
  · rename_i hs
    exact h.change (clearFault_follows (h.context k) hs _)
  · exact h

theorem CrusherInv.wearReset {s : State} (h : CrusherInv s) (payload : List Byte) :
    CrusherInv (wearResetAct payload s).state :=
  indexed_keeps h (fun k => h.change (resetWear_follows (h.context k))) payload

theorem CrusherInv.dryRun {s : State} (h : CrusherInv s) (payload : List Byte) :
    CrusherInv (dryRunAct payload s).state := by
  have ht (on : Bool) {t : State} (h : CrusherInv t) : CrusherInv (takeDryRun on t).state := by
    unfold takeDryRun
    dsimp only
    split
    · exact h
    · exact h.of_contexts (fun _ hc => hc.changeDryRun on) (by simp)
  unfold dryRunAct
  split
  · split
    · exact ht _ h
    · exact ht _ (h.of_contexts (fun _ hc => hc.of_eq rfl) rfl)
  · exact h

theorem CrusherInv.writeFeeder {s : State} (h : CrusherInv s) (payload : List Byte) :
    CrusherInv (writeFeederAct payload s).state := by
  unfold writeFeederAct
  split
  · split
    · split
      · exact h
      · refine h.of_contexts (fun _ hc => hc.of_eq ?_) ?_ <;>
          (dsimp only [answered, Machine.writeFeeder]; split <;> simp)
    · exact h
  · exact h

theorem CrusherInv.writeLine {s : State} (h : CrusherInv s) (payload : List Byte) :
    CrusherInv (writeLineAct payload s).state := by
  unfold writeLineAct
  split
  · split
    · exact h
    · refine h.of_contexts (fun _ hc => ?_) (by simp [answered, Machine.writeLine])
      exact Contexts.evaluateTrip (hc.of_eq rfl)
  · exact h

theorem CrusherInv.changeMode {s : State} (h : CrusherInv s) (mode : LineMode) : CrusherInv (changeMode mode s) :=
  h.of_contexts (fun _ hc => hc.changeMode mode) (by simp)

theorem CrusherInv.of_line {s : State} (h : CrusherInv s) (x : LineControl) : CrusherInv { s with line := x } :=
  h.of_contexts (fun _ hc => hc.of_eq rfl) rfl

theorem CrusherInv.enterTripped {s : State} (h : CrusherInv s) (a : TripInputs) : CrusherInv (enterTripped a s) := by
  unfold Machine.enterTripped
  refine CrusherInv.changeMode ?_ _
  exact h.of_contexts (fun _ hc => hc.of_eq (by simp)) (by simp)

theorem CrusherInv.lineStart {s : State} (h : CrusherInv s) (payload : List Byte) :
    CrusherInv (lineStartAct payload s).state := by
  have hr : CrusherInv (if (tripInputs s).any then withMode .wrongMode (Machine.enterTripped (tripInputs s) s)
      else withMode .done (Machine.changeMode .run s)).state := by
    split
    · exact h.enterTripped _
    · exact h.changeMode _
  unfold lineStartAct
  split
  · exact hr
  · exact hr
  · refine CrusherInv.changeMode ?_ _
    exact h.of_contexts (fun _ hc => hc.of_eq (by simp)) (by simp)
  all_goals exact h

theorem CrusherInv.lineStop {s : State} (h : CrusherInv s) (payload : List Byte) :
    CrusherInv (lineStopAct payload s).state := by
  unfold lineStopAct
  split
  · refine CrusherInv.changeMode ?_ _
    exact h.of_line _
  all_goals exact h

theorem CrusherInv.tripRelease {s : State} (h : CrusherInv s) (payload : List Byte) :
    CrusherInv (tripReleaseAct payload s).state := by
  unfold tripReleaseAct
  split
  · dsimp only
    split
    · exact h.of_line _
    · refine CrusherInv.changeMode ?_ _
      exact h.of_line _
  · exact h

/-- Requests that read or write neither a crusher nor the active table. -/
theorem CrusherInv.of_frame {s t : State} (h : CrusherInv s) (hc : t.crushers = s.crushers)
    (ha : t.activeTable = s.activeTable) : CrusherInv t :=
  h.of_contexts (fun _ hx => hx.of_eq hc) ha

theorem CrusherInv.rejectLot {s : State} (h : CrusherInv s) (payload : List Byte) :
    CrusherInv (rejectLotAct payload s).state := by
  unfold rejectLotAct
  split
  · dsimp only
    split
    · exact h.of_frame rfl rfl
    · exact h
  · exact h

theorem CrusherInv.loadOpen {s : State} (h : CrusherInv s) (payload : List Byte) :
    CrusherInv (loadOpenAct payload s).state := by
  unfold loadOpenAct
  split
  · split
    · split
      · exact h
      · split
        · exact h
        · exact h.of_frame (by simp [openSession, setSession]) (by simp [openSession, setSession])
    · exact h
  · exact h

theorem CrusherInv.commit {s : State} (h : CrusherInv s) (payload : List Byte) :
    CrusherInv (commitAct payload s).state := by
  unfold commitAct
  split
  · split
    · split
      · exact h
      · split
        · exact h
        · split
          · exact h
          · refine h.of_frame ?_ ?_ <;> (dsimp only [answered, setPending]; split <;> rfl)
    · exact h
  · exact h

theorem CrusherInv.warmRestart {s : State} (h : CrusherInv s) : CrusherInv (warmRestart s) :=
  h.of_contexts (fun _ hc => hc.warmRestart) (by simp)

/-- No request ends the invariant of the contexts. -/
theorem CrusherInv.request {act : List Byte → State → Served} (ha : act ∈ requestActs) (payload : List Byte) {s : State}
    (h : CrusherInv s) : CrusherInv (act payload s).state := by
  have hread : (readRecordAct payload s).state = s := by
    unfold readRecordAct
    repeat' split
    all_goals rfl
  simp only [requestActs, List.mem_cons, List.not_mem_nil, or_false] at ha
  rcases ha with rfl | rfl | rfl | rfl | rfl | rfl | rfl | rfl | rfl | rfl | rfl | rfl | rfl | rfl | rfl | rfl | rfl |
    rfl | rfl | rfl | rfl | rfl
  · exact h.of_frame rfl rfl
  · exact h.of_frame rfl rfl
  · rw [hread]; exact h
  · exact h.writeCrusher payload
  · exact h.writeFeeder payload
  · exact h.writeLine payload
  · exact h.setTarget payload
  · exact h.crusherEnable payload
  · exact h.crusherDisable payload
  · exact h.faultClear payload
  · exact h.wearReset payload
  · exact h.lineStart payload
  · exact h.lineStop payload
  · exact h.tripRelease payload
  · exact h.rejectLot payload
  · exact h.loadOpen payload
  · exact h.commit payload
  · exact h.dryRun payload
  · refine h.of_contexts (fun _ hc => ?_) ?_
    · exact Contexts.clearCauses (hc.of_eq rfl)
    · simp only [deviceClearAct, answered, clearCauses_frame, clearCounters]
  · simp only [warmRestartAct, answered]
    exact h.warmRestart
  · exact h
  · exact h

/-! ### Line time and the whole part -/

theorem CrusherInv.cycleWork {s : State} (h : CrusherInv s) (u : CycleUser) : CrusherInv (cycleWork u s) := by
  cases u
  · exact h.of_contexts (fun _ hc => hc.cycleStore) (by simp [Machine.cycleWork])
  · exact h.of_contexts (fun _ hc => hc.cycleCrushers) (by simp [Machine.cycleWork])
  · exact h.of_frame (by simp [Machine.cycleWork]) (by simp [Machine.cycleWork])
  · exact h.of_contexts (fun _ hc => hc.cycleLine) (by simp [Machine.cycleWork])
  · exact h.applyCommits

theorem CrusherInv.acquireWork {s : State} (h : CrusherInv s) (u : AcquireUser) : CrusherInv (acquireWork u s) := by
  cases u
  · exact h.of_contexts (fun _ hc => hc.noticeStales _) (by simp [Machine.acquireWork])
  · exact h.of_contexts (fun _ hc => hc.lineAcquired) (by simp [Machine.acquireWork])
  · exact h.applyCommits

theorem crusherInv_keptByTime : KeptByTime CrusherInv where
  raise _ _ _ h := h.of_frame rfl rfl
  lock _ _ _ h := h.of_frame rfl rfl
  free _ _ h := h.of_frame rfl rfl
  cycle u _ h := h.cycleWork u
  stale _ h := h.of_frame (by simp) (by simp)
  acquire u _ h := h.acquireWork u
  lost _ h := h.of_contexts (fun _ hc => hc.lineLockLost.signal.zeroFeeders) (by simp)
  onset k _ h := h.change (takeSample_follows (h.context k) _ _)

theorem contextInv_reset : ContextInv Crusher.reset :=
  ⟨by decide, by decide, fun _ h => (by cases h), by decide, fun _ => rfl, by decide, by decide,
    fun _ h => (by cases h),
    by decide, by decide, fun _ h => (by cases h)⟩

theorem crusherInv_powerOn (addr : BitVec 7) (rate : BitVec 3) (low : Bool) (s : State) :
    CrusherInv (powerOn addr rate low s) :=
  ⟨fun k => by simpa [powerOn, State.reset, State.crusher] using contextInv_reset,
    fun k => by simp [powerOn, State.reset, State.crusher, Crusher.reset]; revert k; decide⟩

theorem crusherInv_keptByBlocks : KeptByBlocks CrusherInv where
  ports _ _ _ _ h := h.of_frame rfl rfl
  relay _ _ h := h.of_frame rfl rfl
  rewriter _ _ h := h.of_frame rfl rfl
  waiting _ _ h := h.of_frame rfl rfl
  raise _ _ _ h := h.of_frame rfl rfl
  rollMisses _ _ h := h.of_frame rfl rfl
  timer _ _ h := h.of_frame rfl rfl
  reset s addr rate low _ :=
    (crusherInv_powerOn addr rate low s).of_contexts (fun _ hc => hc.takeTripInputs _) (by simp [powerOnReset])
  pin _ _ h := h.of_contexts (fun _ hc => Contexts.evaluateTrip (hc.of_eq rfl)) (by simp)
  marker _ payload h := crusherInv_keptByTime.marker h payload
  expiry _ h := crusherInv_keptByTime.expiry h
  reply _ _ h := observe_keeps h (h.of_frame (by simp) (by simp)) fun a _ hu =>
    hu.of_contexts (fun _ hc => hc.deliverArrival a) (by simp)
  session _ _ h := h.of_frame (by simp) (by simp)
  stream _ _ _ h := h.of_frame (by simp) (by simp)
  request _ ha payload _ h := h.request ha payload

/-- Settles O5: each context follows from the one before at every event of a block, and a station commit makes the
presence of each anew from the table. -/
theorem crusherInvariantKept : Obligations.CrusherInvariantKept := fun _ _ h ht => crusherInv_keptByBlocks.step h ht

end Sys2Proof.Machine
end

section
/-!
PROOF. Validation of the two banks (R7, R8, R9, R97): the codes of the roles, what one check says of one entry or one
curve, and from that which failure is found first.
-/

namespace Sys2Proof.Machine

/-! ### The codes of the roles (R3, Table 8-19) -/

/-- The kind code of a role, and its number among the roles of that kind. -/
def Role.codes : Role → Nat × Nat
  | .power k => (1, k)
  | .gap k => (2, k)
  | .level k => (3, k)
  | .pressure k => (4, k)
  | .actuator k => (5, k)
  | .feederDrive j => (6, j)
  | .feederTotal j => (7, j)
  | .beltScale => (8, 0)
  | .beltTravel => (9, 0)
  | .metal => (10, 0)
  | .binLevel => (11, 0)
  | .diverter => (12, 0)
  | .tripUnit => (13, 0)

theorem map_index4_eq_some {f : Fin 4 → Role} {n : Nat} {r : Role} :
    (index4 n).map f = some r ↔ ∃ k : Fin 4, n = k ∧ f k = r := by
  simp [Option.map_eq_some_iff, index4_eq_some]

/-- The codes that name a role: its own, and no FEEDER_TOTAL of feeder 0. -/
theorem roleOfCode_eq_some {kind inst : Byte} {r : Role} :
    roleOfCode kind inst = some r ↔ (kind.toNat, inst.toNat) = r.codes ∧ r ≠ .feederTotal 0 := by
  have hz : inst = 0#8 ↔ inst.toNat = 0 := by rw [← BitVec.toNat_inj]; rfl
  constructor
  · intro h
    unfold roleOfCode at h
    dsimp only at h
    split at h <;> rename_i hk
    case h_7 =>
      split at h
      · cases h
      · obtain ⟨k, hi, rfl⟩ := map_index4_eq_some.1 h
        refine ⟨by simp [Role.codes, hk, hi], fun he => ?_⟩
        cases he
        simp_all
    case h_14 => cases h
    case h_1 | h_2 | h_3 | h_4 | h_5 | h_6 =>
      obtain ⟨k, hi, rfl⟩ := map_index4_eq_some.1 h
      simp [Role.codes, hk, hi]
    all_goals
      split at h
      · cases h; simp_all [Role.codes]
      · cases h
  · rintro ⟨hc, hr⟩
    cases r with
    | feederTotal j =>
      obtain ⟨hk, hi⟩ := Prod.mk.inj hc
      have hj : inst ≠ 0#8 := fun h0 =>
        hr (congrArg Role.feederTotal (Fin.ext (hi.symm.trans (hz.1 h0))))
      simp [roleOfCode, hk, hi, hj]
    | _ =>
      obtain ⟨hk, hi⟩ := Prod.mk.inj hc
      simp [roleOfCode, hk, hi, hz]

/-- A pair of codes names a role just where check 1, ROLE, passes (R8). -/
theorem roleOfCode_isSome (kind inst : Byte) :
    (roleOfCode kind inst).isSome = true ↔
      (1 ≤ kind.toNat ∧ kind.toNat ≤ 6 ∧ inst.toNat ≤ 3) ∨ (kind.toNat = 7 ∧ 1 ≤ inst.toNat ∧ inst.toNat ≤ 3) ∨
        (8 ≤ kind.toNat ∧ kind.toNat ≤ 13 ∧ inst.toNat = 0) := by
  have hz : inst = 0 ↔ inst.toNat = 0 := by rw [← BitVec.toNat_inj]; rfl
  have h4 (f : Fin 4 → Role) : ((index4 inst.toNat).map f).isSome = true ↔ inst.toNat ≤ 3 := by
    rw [Option.isSome_map, ← not_iff_not, Bool.not_eq_true, Option.isSome_eq_false_iff, Option.isNone_iff_eq_none,
      index4_eq_none]
    omega
  unfold roleOfCode
  dsimp only
  split <;> rename_i hk
  case h_7 =>
    by_cases h0 : inst = 0
    · simp [h0, hk]
    · rw [if_neg h0, h4]; have := mt hz.2 h0; omega
  case h_14 => simp only [Option.isSome_none, Bool.false_eq_true, false_iff, imp_false] at *; omega
  case h_1 | h_2 | h_3 | h_4 | h_5 | h_6 => rw [h4]; omega
  all_goals
    by_cases h0 : inst = 0
    · simp [h0, hk]
    · rw [if_neg h0]; have := mt hz.2 h0; simp; omega

theorem Role.readWidth_eq (r : Role) : r.readWidth = readsOfKind r.codes.1 := by cases r <;> rfl

theorem Role.writeWidth_eq (r : Role) : r.writeWidth = writesOfKind r.codes.1 := by cases r <;> rfl

theorem Role.usesGain_iff (r : Role) : r.usesGain = true ↔ r.codes.1 ∈ [1, 2, 3, 4, 6, 11] := by
  cases r <;> simp [Role.usesGain, Role.isScalar, Role.codes]

theorem Entry.codes_of_role {e : Entry} {r : Role} (h : e.role? = some r) :
    e.roleKind.toNat = r.codes.1 ∧ e.roleInst.toNat = r.codes.2 :=
  Prod.mk.inj (roleOfCode_eq_some.1 h).1

/-! ### The entry of a role (R3) -/

@[simp] theorem Entry.holds_iff (e : Entry) (r : Role) : e.holds r = true ↔ e.used = true ∧ e.role? = some r := by
  simp [Entry.holds]

theorem roleIndex_eq_some {tab : Vector Entry 32} {r : Role} {i : Fin 32} :
    roleIndex tab r = some i ↔ tab[i].holds r = true ∧ ∀ j < i, tab[j].holds r = false := by
  unfold roleIndex
  rw [← Fin.find?_eq_find?_finRange, Fin.find?_eq_some_iff]

theorem roleIndex_eq_none {tab : Vector Entry 32} {r : Role} :
    roleIndex tab r = none ↔ ∀ i : Fin 32, tab[i].holds r = false := by
  unfold roleIndex
  rw [← Fin.find?_eq_find?_finRange, Fin.find?_eq_none_iff]

theorem hasRole_iff {tab : Vector Entry 32} {r : Role} :
    hasRole tab r = true ↔ ∃ i : Fin 32, tab[i].holds r = true := by
  unfold hasRole
  rw [← not_iff_not, Bool.not_eq_true, Option.isSome_eq_false_iff, Option.isNone_iff_eq_none, roleIndex_eq_none]
  simp only [not_exists, Bool.not_eq_true]

theorem Entry.role_power_iff (e : Entry) (k : Fin 4) :
    e.role? = some (.power k) ↔ e.roleKind = 1 ∧ e.roleInst.toNat = k := by
  unfold Entry.role?
  simp [roleOfCode_eq_some, Role.codes, ← BitVec.toNat_inj]

theorem Entry.role_drive_iff (e : Entry) (k : Fin 4) :
    e.role? = some (.feederDrive k) ↔ e.roleKind = 6 ∧ e.roleInst.toNat = k := by
  unfold Entry.role?
  simp [roleOfCode_eq_some, Role.codes, ← BitVec.toNat_inj]

theorem isPowerOf_iff {tab : Vector Entry 32} {k : Fin 4} {i : Fin 32} :
    isPowerOf tab k i ↔ tab[i].holds (.power k) = true := by
  simp only [isPowerOf, Entry.holds_iff, Entry.role_power_iff]

theorem hasDrive_iff {tab : Vector Entry 32} {k : Fin 4} : hasDrive tab k ↔ hasRole tab (.feederDrive k) = true := by
  simp only [hasDrive, hasRole_iff, Entry.holds_iff, Entry.role_drive_iff]

end Sys2Proof.Machine
end

section
/-!
PROOF. Which failure of a bank is found (R7, R8, R9, R97): the first check that fails of the first entry or curve that
fails one.
-/

namespace Sys2Proof.Machine

/-! ### The first check that fails -/

/-- A list of checks is the judgement of some conditions: each check says its condition, once those before it hold. -/
def Judges (checks : List Bool) (C : Nat → Prop) : Prop :=
  ∀ n (h : n < checks.length), (∀ m < n, C m) → (checks[n] = true ↔ C n)

theorem Judges.tail {ok : Bool} {rest : List Bool} {C : Nat → Prop} (h : Judges (ok :: rest) C) (h0 : C 0) :
    Judges rest fun n => C (n + 1) := by
  intro n hn hm
  have hall : ∀ m < n + 1, C m
    | 0, _ => h0
    | m + 1, hlt => hm m (by omega)
  exact h (n + 1) (Nat.succ_lt_succ hn) hall

theorem Judges.eq_some {base n : Nat} {checks : List Bool} {C : Nat → Prop} (h : Judges checks C) :
    firstFailing base checks = some (base + n) ↔ n < checks.length ∧ (∀ m < n, C m) ∧ ¬C n := by
  induction checks generalizing base n C with
  | nil => simp [firstFailing]
  | cons ok rest ih =>
    have h0 : ok = true ↔ C 0 := h 0 (Nat.succ_pos _) (by simp)
    cases ok with
    | false =>
      have hc : ¬C 0 := by simpa using h0
      cases n with
      | zero => simp [firstFailing, hc]
      | succ n => simpa [firstFailing] using fun _ hm => absurd (hm 0 (by omega)) hc
    | true =>
      have hc : C 0 := h0.1 rfl
      cases n with
      | zero =>
        have hlt (l : List Bool) : firstFailing (base + 1) l ≠ some base := by
          suffices ∀ b, base < b → firstFailing b l ≠ some base from this _ (by omega)
          induction l with
          | nil => simp [firstFailing]
          | cons x l ihl =>
            intro b hb
            cases x with
            | false => simp [firstFailing]; omega
            | true => exact ihl _ (by omega)
        simp [firstFailing, hc, hlt]
      | succ n =>
        have hi := ih (base := base + 1) (n := n) (h.tail hc)
        rw [show base + 1 + n = base + (n + 1) by omega] at hi
        have hm : (∀ m < n, C (m + 1)) ↔ ∀ m < n + 1, C m :=
          ⟨fun g m hlt => by cases m with | zero => exact hc | succ m => exact g m (by omega),
            fun g m hlt => g (m + 1) (by omega)⟩
        simpa [firstFailing, hm] using hi

theorem Judges.eq_none {base : Nat} {checks : List Bool} {C : Nat → Prop} (h : Judges checks C) :
    firstFailing base checks = none ↔ ∀ n < checks.length, C n := by
  induction checks generalizing base C with
  | nil => simp [firstFailing]
  | cons ok rest ih =>
    have h0 : ok = true ↔ C 0 := h 0 (Nat.succ_pos _) (by simp)
    cases ok with
    | false => simpa [firstFailing] using ⟨0, by omega, by simpa using h0⟩
    | true =>
      have hc : C 0 := h0.1 rfl
      have hi := ih (base := base + 1) (h.tail hc)
      simp only [firstFailing, if_true, hi, List.length_cons]
      exact ⟨fun g m hlt => by cases m with | zero => exact hc | succ m => exact g m (by omega),
        fun g m hlt => g (m + 1) (by omega)⟩

/-! ### The checks of one station entry (R8, R9) -/

theorem mem_lowerEntries {tab : Vector Entry 32} {i : Fin 32} {x : Entry} :
    x ∈ lowerEntries tab i ↔ ∃ j, j < i ∧ tab[j].used = true ∧ tab[j] = x := by
  simp only [lowerEntries, indices, List.mem_filter, List.mem_map, List.mem_finRange, true_and, decide_eq_true_eq]
  constructor
  · rintro ⟨⟨j, hj, rfl⟩, hu⟩; exact ⟨j, hj, hu, rfl⟩
  · rintro ⟨j, hj, hu, rfl⟩; exact ⟨⟨j, hj, rfl⟩, hu⟩

theorem offsetFits_iff (code : Byte) (width : Option Nat) :
    offsetFits code width = true ↔ ∀ w, width = some w → code ≠ 0xFF ∧ code.toNat + w ≤ 40 := by
  unfold offsetFits offsetOfCode
  cases width with
  | none => simp
  | some w =>
    by_cases h : code = 0xFF
    · simp [h]
    · rw [if_neg h]; simpa using fun _ => h

theorem allows_iff (r : Role) (mode : Byte) :
    ((modeOfCode mode).map r.allows).getD false = true ↔
      if (writesOfKind r.codes.1).isSome then mode.toNat ∈ [2, 3, 4] else mode.toNat = 1 := by
  unfold modeOfCode Role.allows Role.isOutput
  rw [Role.writeWidth_eq]
  generalize mode.toNat = m
  cases (writesOfKind r.codes.1).isSome <;> simp only [Bool.false_eq_true, if_false, if_true] <;> split <;> simp_all

/-- What check 1, ROLE, passes: the entry has a role. -/
theorem stationCheck_role {own : Option Byte} {tab : Vector Entry 32} {i : Fin 32} :
    StationCheck own tab i 1 ↔ ∃ r, tab[i].role? = some r := by
  rw [← Option.isSome_iff_exists]
  exact (roleOfCode_isSome _ _).symm

/-- Whether an entry has an output role is told by its kind, once it has a role. -/
theorem isOutput_of_role {e : Entry} {r : Role} (h : e.role? = some r) :
    (e.role?.map Role.isOutput).getD false = (writesOfKind e.roleKind.toNat).isSome := by
  rw [(Entry.codes_of_role h).1, h, ← Role.writeWidth_eq]
  rfl

/-- The checks of an entry judge R8 and R9; OUTPUT_CONFLICT only where the lower used entries have roles. -/
theorem entryChecks_judge {own : Option Byte} {tab : Vector Entry 32} {i : Fin 32}
    (hlow : ∀ j < i, tab[j].used = true → StationCheck own tab j 1) :
    Judges (entryChecks own tab i) (StationCheck own tab i) := by
  intro n hn hC
  match n, hn with
  | 0, _ => simp [entryChecks, StationCheck]
  | 1, _ => simp only [entryChecks, List.getElem_cons_succ, List.getElem_cons_zero, stationCheck_role,
    Option.isSome_iff_exists]
  | 2, _ =>
    obtain ⟨r, hr⟩ := stationCheck_role.1 (hC 1 (by omega))
    have hk := (Entry.codes_of_role hr).1
    simp only [entryChecks, List.getElem_cons_succ, List.getElem_cons_zero, hr, Option.map_some, Option.getD_some]
    exact (allows_iff r _).trans (by simp only [StationCheck, hk])
  | 3, _ =>
    obtain ⟨r, hr⟩ := stationCheck_role.1 (hC 1 (by omega))
    simp only [entryChecks, List.getElem_cons_succ, List.getElem_cons_zero, hr, Option.map_some, Option.getD_some,
      Bool.and_eq_true, offsetFits_iff, Role.readWidth_eq, Role.writeWidth_eq, StationCheck, (Entry.codes_of_role hr).1]
  | 4, _ =>
    obtain ⟨r, hr⟩ := stationCheck_role.1 (hC 1 (by omega))
    simp only [entryChecks, List.getElem_cons_succ, List.getElem_cons_zero, hr, Option.map_some, Option.getD_some,
      StationCheck, (Entry.codes_of_role hr).1, ← r.usesGain_iff]
    cases r.usesGain <;> simp
  | 5, _ =>
    obtain ⟨r, hr⟩ := stationCheck_role.1 (hC 1 (by omega))
    simp only [entryChecks, List.getElem_cons_succ, List.getElem_cons_zero, hr, Option.map_some, Option.getD_some,
      StationCheck, (Entry.codes_of_role hr).1, Role.readWidth_eq]
    cases readsOfKind r.codes.1 <;> simp
  | 6, _ =>
    simp only [entryChecks, List.getElem_cons_succ, List.getElem_cons_zero, StationCheck, Bool.not_eq_true',
      List.any_eq_false, mem_lowerEntries, Bool.and_eq_true, beq_iff_eq]
    exact ⟨fun h j hj hu => h _ ⟨j, hj, hu, rfl⟩, fun h _ ⟨j, hj, hu, he⟩ => he ▸ h j hj hu⟩
  | 7, _ =>
    obtain ⟨r, hr⟩ := stationCheck_role.1 (hC 1 (by omega))
    simp only [entryChecks, List.getElem_cons_succ, List.getElem_cons_zero, StationCheck, Bool.not_eq_true',
      Bool.and_eq_false_imp, List.any_eq_false, mem_lowerEntries, Bool.and_eq_true, beq_iff_eq, isOutput_of_role hr]
    have hout {j : Fin 32} (hj : j < i) (hu : tab[j].used = true) :=
      isOutput_of_role (stationCheck_role.1 (hlow j hj hu)).choose_spec
    refine forall_congr' fun _ => ⟨fun h j hj hu ha => ?_, fun h _ ⟨j, hj, hu, he⟩ ⟨ha, ho⟩ => ?_⟩
    · rw [← hout hj hu, ← Bool.not_eq_true]
      exact fun ho => h _ ⟨j, hj, hu, rfl⟩ ⟨ha, ho⟩
    · subst he
      rw [hout hj hu, h j hj hu ha] at ho
      cases ho

theorem entryChecks_length (own : Option Byte) (tab : Vector Entry 32) (i : Fin 32) :
    (entryChecks own tab i).length = 8 := rfl

/-! ### The first entry that fails -/

/-- Entry i passes every check of R8 and R9. -/
def Passes (own : Option Byte) (tab : Vector Entry 32) (i : Fin 32) : Prop := ∀ n, n < 8 → StationCheck own tab i n

variable {own : Option Byte} {tab : Vector Entry 32}

theorem entryFailure_eq_none {i : Fin 32} (hlow : ∀ j < i, tab[j].used = true → Passes own tab j) :
    entryFailure own tab i = none ↔ (tab[i].used = true → Passes own tab i) := by
  have hj := entryChecks_judge fun j hj hu => hlow j hj hu 1 (by decide)
  unfold entryFailure
  split <;> rename_i hu
  · rw [Option.map_eq_none_iff, hj.eq_none]
    simp only [hu, true_imp_iff, entryChecks_length, Passes]
  · simp only [hu, Bool.false_eq_true, false_imp_iff]

theorem entryFailure_eq_some {i : Fin 32} (hlow : ∀ j < i, tab[j].used = true → Passes own tab j) {x n : Nat} :
    entryFailure own tab i = some (x, n) ↔
      x = i.val ∧ n < 8 ∧ tab[i].used = true ∧ (∀ m, m < n → StationCheck own tab i m) ∧ ¬StationCheck own tab i n := by
  have hj := entryChecks_judge fun j hj hu => hlow j hj hu 1 (by decide)
  have hs := hj.eq_some (base := 0) (n := n)
  rw [Nat.zero_add, entryChecks_length] at hs
  unfold entryFailure
  split <;> rename_i hu
  · simp only [Option.map_eq_some_iff, Prod.mk.injEq]
    constructor
    · rintro ⟨c, hc, rfl, rfl⟩
      obtain ⟨hn, hm, hf⟩ := hs.1 hc
      exact ⟨rfl, hn, hu, hm, hf⟩
    · rintro ⟨rfl, hn, -, hm, hf⟩
      exact ⟨n, hs.2 ⟨hn, hm, hf⟩, rfl, rfl⟩
  · simp only [hu, Bool.false_eq_true, false_and, and_false, reduceCtorEq]

/-- No entry below one fails exactly when every used one passes. -/
theorem entryFailures_eq_none (i : Nat) :
    (∀ j : Fin 32, j.val < i → entryFailure own tab j = none) ↔
      ∀ j : Fin 32, j.val < i → tab[j].used = true → Passes own tab j := by
  constructor
  · intro h
    suffices ∀ n, ∀ j : Fin 32, j.val < n → j.val < i → tab[j].used = true → Passes own tab j from
      fun j hj => this i j hj hj
    intro n
    induction n with
    | zero => intro j hj; omega
    | succ n ih =>
      intro j hn hj
      have hlow : ∀ k < j, tab[k].used = true → Passes own tab k := fun k hk =>
        ih k (by have : k.val < j.val := hk; omega) (by have : k.val < j.val := hk; omega)
      exact (entryFailure_eq_none hlow).1 (h j hj)
  · intro h j hj
    exact (entryFailure_eq_none fun k hk => h k (by have : k.val < j.val := hk; omega)).2 (h j hj)

theorem findEntry_eq_none :
    indices.findSome? (entryFailure own tab) = none ↔ ∀ i : Fin 32, tab[i].used = true → Passes own tab i := by
  have h := entryFailures_eq_none (own := own) (tab := tab) 32
  simp only [Fin.is_lt, true_imp_iff] at h
  rw [indices, ← Fin.findSome?_eq_findSome?_finRange, Fin.findSome?_eq_none_iff, h]

theorem findEntry_eq_some {x n : Nat} :
    indices.findSome? (entryFailure own tab) = some (x, n) ↔
      ∃ i : Fin 32, x = i.val ∧ n < 8 ∧ tab[i].used = true ∧ (∀ j < i, tab[j].used = true → Passes own tab j) ∧
        (∀ m, m < n → StationCheck own tab i m) ∧ ¬StationCheck own tab i n := by
  rw [indices, ← Fin.findSome?_eq_findSome?_finRange, Fin.findSome?_eq_some_iff]
  refine exists_congr fun i => ?_
  have hlow := entryFailures_eq_none (own := own) (tab := tab) i.val
  constructor
  · rintro ⟨hi, hn⟩
    have hp := hlow.1 hn
    obtain ⟨hx, h8, hu, hm, hf⟩ := (entryFailure_eq_some hp).1 hi
    exact ⟨hx, h8, hu, hp, hm, hf⟩
  · rintro ⟨hx, h8, hu, hp, hm, hf⟩
    exact ⟨(entryFailure_eq_some hp).2 ⟨hx, h8, hu, hm, hf⟩, hlow.2 hp⟩

/-! ### FEEDER_MISSING (R9) -/

/-- Two used entries with one role are one entry, once both pass DUPLICATE_ROLE. -/
theorem role_unique (hp : ∀ i : Fin 32, tab[i].used = true → Passes own tab i) {r : Role} {i j : Fin 32}
    (hi : tab[i].holds r = true) (hj : tab[j].holds r = true) : i = j := by
  rw [Entry.holds_iff] at hi hj
  have hdup {a b : Fin 32} (hab : a < b) (ha : tab[a].used = true ∧ tab[a].role? = some r)
      (hb : tab[b].used = true ∧ tab[b].role? = some r) : False := by
    obtain ⟨hak, hai⟩ := Entry.codes_of_role ha.2
    obtain ⟨hbk, hbi⟩ := Entry.codes_of_role hb.2
    exact hp b hb.1 6 (by decide) a hab ha.1
      ⟨BitVec.eq_of_toNat_eq (hak.trans hbk.symm), BitVec.eq_of_toNat_eq (hai.trans hbi.symm)⟩
  rcases lt_trichotomy i j with h | h | h
  · exact (hdup h hi hj).elim
  · exact h
  · exact (hdup h hj hi).elim

theorem roleIndex_of_holds (hp : ∀ i : Fin 32, tab[i].used = true → Passes own tab i) {r : Role} {i : Fin 32} :
    roleIndex tab r = some i ↔ tab[i].holds r = true := by
  refine roleIndex_eq_some.trans ⟨fun h => h.1, fun h => ⟨h, fun j hj => ?_⟩⟩
  rw [← Bool.not_eq_true]
  exact fun hj' => absurd (role_unique hp hj' h) (Fin.ne_of_lt hj)

theorem feederMissing_eq_none {k : Fin 4} :
    feederMissing tab k = none ↔ (hasRole tab (.power k) = true → hasRole tab (.feederDrive k) = true) := by
  unfold feederMissing
  rw [show hasRole tab (.power k) = (roleIndex tab (.power k)).isSome from rfl]
  cases roleIndex tab (.power k) with
  | none => simp
  | some i => cases hasRole tab (.feederDrive k) <;> simp

theorem feederMissing_eq_some {k : Fin 4} {x n : Nat} :
    feederMissing tab k = some (x, n) ↔
      n = 8 ∧ hasRole tab (.feederDrive k) = false ∧ ∃ i, roleIndex tab (.power k) = some i ∧ x = i.val := by
  unfold feederMissing
  cases roleIndex tab (.power k) with
  | none => simp
  | some i => cases hasRole tab (.feederDrive k) <;> simp [eq_comm, and_comm]

theorem findFeeder_eq_none :
    four.findSome? (feederMissing tab) = none ↔
      ∀ k : Fin 4, hasRole tab (.power k) = true → hasRole tab (.feederDrive k) = true := by
  rw [four, ← Fin.findSome?_eq_findSome?_finRange, Fin.findSome?_eq_none_iff]
  exact forall_congr' fun k => feederMissing_eq_none

theorem findFeeder_eq_some {x n : Nat} :
    four.findSome? (feederMissing tab) = some (x, n) ↔
      n = 8 ∧ ∃ k : Fin 4, (hasRole tab (.feederDrive k) = false ∧ ∃ i, roleIndex tab (.power k) = some i ∧ x = i.val) ∧
        ∀ m < k, hasRole tab (.power m) = true → hasRole tab (.feederDrive m) = true := by
  rw [four, ← Fin.findSome?_eq_findSome?_finRange, Fin.findSome?_eq_some_iff]
  simp only [feederMissing_eq_some, feederMissing_eq_none, and_assoc, exists_and_left]

/-! ### The first failure of a station table (R7, R172) -/

theorem stationFailure_eq_none :
    stationFailure own tab = none ↔ (∀ i : Fin 32, tab[i].used = true → Passes own tab i) ∧
      ∀ k : Fin 4, hasRole tab (.power k) = true → hasRole tab (.feederDrive k) = true := by
  rw [← findEntry_eq_none, ← findFeeder_eq_none]
  unfold stationFailure
  cases indices.findSome? (entryFailure own tab) <;> simp

theorem stationFailure_eq_some {x n : Nat} :
    stationFailure own tab = some (x, n) ↔
      indices.findSome? (entryFailure own tab) = some (x, n) ∨
        (indices.findSome? (entryFailure own tab) = none ∧ four.findSome? (feederMissing tab) = some (x, n)) := by
  unfold stationFailure
  cases indices.findSome? (entryFailure own tab) <;> simp

theorem stationFailure_eq_check {i : Fin 32} {n : Nat} (hn : n < 8) :
    stationFailure own tab = some (i.val, n) ↔
      tab[i].used = true ∧ (∀ j < i, tab[j].used = true → Passes own tab j) ∧
        (∀ m, m < n → StationCheck own tab i m) ∧ ¬StationCheck own tab i n := by
  have h8 : n ≠ 8 := by omega
  rw [stationFailure_eq_some, findEntry_eq_some, findFeeder_eq_some]
  simp only [h8, false_and, and_false, or_false, hn, true_and, Fin.val_inj]
  exact ⟨fun ⟨j, he, h⟩ => he ▸ h, fun h => ⟨i, rfl, h⟩⟩

theorem stationFailure_eq_missing {i : Fin 32} :
    stationFailure own tab = some (i.val, 8) ↔
      (∀ i : Fin 32, tab[i].used = true → Passes own tab i) ∧
        ∃ k : Fin 4, tab[i].holds (.power k) = true ∧ hasRole tab (.feederDrive k) = false ∧
          ∀ m < k, hasRole tab (.power m) = true → hasRole tab (.feederDrive m) = true := by
  rw [stationFailure_eq_some, findEntry_eq_some, findFeeder_eq_some, findEntry_eq_none]
  simp only [lt_irrefl, false_and, and_false, exists_false, false_or, true_and, Fin.val_inj]
  refine and_congr_right fun hp => exists_congr fun k => ?_
  simp only [roleIndex_of_holds hp, exists_eq_right', and_assoc]
  exact and_left_comm

/-! ### The checks of one staged curve (R97) -/

/-- Point q of a staged curve. -/
def StagedCurve.point (x : StagedCurve) (q : Fin 16) : Point :=
  { x := x[1 + 2 * q.val].toNat, y := x[2 + 2 * q.val].toNat }

theorem filterMap_finRange_lt {α : Type} {N : Nat} (n : Nat) (f : Fin N → α) :
    ((List.finRange N).filterMap fun i => if i.val < n then some (f i) else none) =
      ((List.finRange N).take n).map f := by
  induction N generalizing n with
  | zero => simp
  | succ N ih =>
    cases n with
    | zero => simp
    | succ n =>
      have hi := ih n fun i => f i.succ
      simp only [List.finRange_succ, List.filterMap_cons, Fin.val_zero, Nat.succ_pos, if_true, List.filterMap_map,
        List.take_succ_cons, List.map_cons, List.map_take, List.map_map]
      simpa [Function.comp_def, List.map_take] using hi

/-- The points of a staged curve, in order. -/
theorem curveOfStaged_eq (x : StagedCurve) :
    curveOfStaged x = ((List.finRange 16).take x[0].toNat).map x.point :=
  filterMap_finRange_lt _ x.point

theorem curveOfStaged_length (x : StagedCurve) : (curveOfStaged x).length = min x[0].toNat 16 := by
  simp [curveOfStaged_eq]

theorem getElem_curveOfStaged {x : StagedCurve} {q : Nat} (h : q < (curveOfStaged x).length) :
    (curveOfStaged x)[q] = x.point ⟨q, by rw [curveOfStaged_length] at h; omega⟩ := by
  simp [curveOfStaged_eq]

theorem risingFrom_iff (l : List Point) : risingFrom l = true ↔ l.IsChain fun p q => p.x < q.x := by
  induction l with
  | nil => simp [risingFrom]
  | cons p l ih =>
    cases l with
    | nil => simp [risingFrom]
    | cons q l => simp [risingFrom, ih]

/-- The checks of a curve judge R97. -/
theorem curveChecks_judge (x : StagedCurve) : Judges (curveChecks x) (CurveCheck x) := by
  intro n hn hC
  have hword {k : Nat} (hk : k < 33) : x[k]? = some x[k] := Vector.getElem?_eq_getElem hk
  match n, hn with
  | 0, _ => simp [curveChecks, CurveCheck]
  | 1, _ =>
    obtain ⟨-, h16⟩ : x[0].toNat ≠ 1 ∧ x[0].toNat ≤ 16 := hC 0 (by decide)
    have hlen : (curveOfStaged x).length = x[0].toNat := by rw [curveOfStaged_length]; omega
    simp only [curveChecks, CurveCheck, countedPoints, List.getElem_cons_succ, List.getElem_cons_zero, List.all_eq_true,
      Bool.and_eq_true, decide_eq_true_eq, List.forall_mem_iff_forall_getElem, getElem_curveOfStaged, hlen]
    refine forall_congr' fun q => forall_congr' fun hq => ?_
    rw [hword (by omega), hword (by omega)]
    simp [StagedCurve.point]
  | 2, _ =>
    obtain ⟨-, h16⟩ : x[0].toNat ≠ 1 ∧ x[0].toNat ≤ 16 := hC 0 (by decide)
    have hlen : (curveOfStaged x).length = x[0].toNat := by rw [curveOfStaged_length]; omega
    simp only [curveChecks, CurveCheck, countedPoints, List.getElem_cons_succ, List.getElem_cons_zero, risingFrom_iff,
      List.isChain_iff_getElem, getElem_curveOfStaged, hlen]
    refine forall_congr' fun q => forall_congr' fun hq => ?_
    rw [hword (by omega), hword (by omega)]
    simp [StagedCurve.point, show 1 + 2 * (q + 1) = 3 + 2 * q by omega]

theorem curveFailure_eq_none {curves : Vector StagedCurve 8} :
    curveFailure curves = none ↔ ∀ (i : Fin 8) (n : Nat), n < 3 → CurveCheck curves[i] n := by
  unfold curveFailure
  rw [← Fin.findSome?_eq_findSome?_finRange, Fin.findSome?_eq_none_iff]
  exact forall_congr' fun i => by rw [Option.map_eq_none_iff, (curveChecks_judge _).eq_none]; rfl

theorem curveFailure_eq_some {curves : Vector StagedCurve 8} {i : Fin 8} {n : Nat} (hn : n < 3) :
    curveFailure curves = some (i.val, n) ↔
      (∀ j : Fin 8, j < i → ∀ m, m < 3 → CurveCheck curves[j] m) ∧ (∀ m, m < n → CurveCheck curves[i] m) ∧
        ¬CurveCheck curves[i] n := by
  have hs (j : Fin 8) : firstFailing 0 (curveChecks curves[j]) = some n ↔
      (∀ m, m < n → CurveCheck curves[j] m) ∧ ¬CurveCheck curves[j] n := by
    have h := (curveChecks_judge curves[j]).eq_some (base := 0) (n := n)
    rw [Nat.zero_add] at h
    exact h.trans (and_iff_right hn)
  have hnone (j : Fin 8) : firstFailing 0 (curveChecks curves[j]) = none ↔ ∀ m, m < 3 → CurveCheck curves[j] m :=
    (curveChecks_judge curves[j]).eq_none
  unfold curveFailure
  rw [← Fin.findSome?_eq_findSome?_finRange, Fin.findSome?_eq_some_iff]
  simp only [Option.map_eq_some_iff, Option.map_eq_none_iff, hnone, Prod.mk.injEq, Fin.val_inj]
  constructor
  · rintro ⟨j, ⟨c, hc, rfl, rfl⟩, hj⟩
    exact ⟨hj, (hs _).1 hc⟩
  · rintro ⟨hj, hm⟩
    exact ⟨i, ⟨n, (hs i).2 hm, rfl, rfl⟩, hj⟩

/-- A staged curve that passes its checks is a well formed curve once committed (R95, R98). -/
theorem curveInv_of_checks {x : StagedCurve} (h : ∀ n, n < 3 → CurveCheck x n) : CurveInv (curveOfStaged x) := by
  have hj := curveChecks_judge x
  have hall : ∀ n (hn : n < 3), (curveChecks x)[n] = true := fun n hn =>
    (hj n hn fun m hm => h m (by omega)).2 (h n hn)
  obtain ⟨h1, h16⟩ : x[0].toNat ≠ 1 ∧ x[0].toNat ≤ 16 := h 0 (by decide)
  refine ⟨by rw [curveOfStaged_length]; omega, ?_, ?_⟩
  · have h1 : ((countedPoints x).all fun p => decide (p.x ≤ 2000) && decide (p.y ≤ 1000)) = true := hall 1 (by decide)
    simpa [countedPoints] using h1
  · exact List.isChain_iff_pairwise.1 ((risingFrom_iff _).1 (hall 2 (by decide)))

/-- Settles O41: of either bank, the failure found is that of the first entry or curve that fails, at the first check it
fails. -/
theorem banksValidated : Obligations.BanksValidated := by
  have hpower (tab : Vector Entry 32) (k : Fin 4) : (∃ i, isPowerOf tab k i) ↔ hasRole tab (.power k) = true := by
    simp only [isPowerOf_iff, hasRole_iff]
  refine ⟨fun own tab => ⟨?_, fun i n hn => stationFailure_eq_check hn, fun i => ?_⟩, fun curves =>
    ⟨curveFailure_eq_none, fun i n hn => curveFailure_eq_some hn⟩⟩
  · rw [stationFailure_eq_none]
    simp only [Passes, ← hpower, ← hasDrive_iff]
    exact and_congr_right fun _ => Fin.forall_iff
  · rw [stationFailure_eq_missing]
    simp only [Passes, ← hpower, ← isPowerOf_iff, ← Bool.not_eq_true, ← hasDrive_iff]
    have hbelow (k : Fin 4) (P : Nat → Prop) : (∀ m < k, P m.val) ↔ ∀ m < k.val, P m :=
      ⟨fun h m hm => h ⟨m, by omega⟩ hm, fun h m hm => h m hm⟩
    simp only [hbelow _ fun m => (∃ j, isPowerOf tab m j) → hasDrive tab m]
    exact and_congr_right fun _ => Fin.exists_iff.trans (by simp only [exists_prop])

end Sys2Proof.Machine
end

section
/-!
PROOF. The records of the store (Chapter 1): what a field of a reply is stored as, and what the record of each entry is
after a reply, a counted cycle and a station commit.
-/

namespace Sys2Proof.Machine

/-! ### One field (R5, R6, R16, R17) -/

/-- The number at which an increment of a role's counter wraps (R17, Table 1-2). -/
def Role.wrap (r : Role) : Nat := if r = .metal then 256 else 65536

/-- What becomes of a field that fits: its value stored with the increment against the value held, or the field
discarded. -/
def Taken.ofValue (now : Long) (wrap : Nat) (old : Value) : Option Value → Taken
  | some x => .stored (freshRecord now x) (storedIncrement old x wrap)
  | none => .bad

/-- An arrival of a role that is no counter has increment 0. -/
theorem storedIncrement_of_ne {x : Value} (h : ∀ last b, x ≠ .counter last b) (old : Value) (wrap : Nat) :
    storedIncrement old x wrap = some 0 := by
  cases x with
  | counter last b => exact absurd rfl (h last b)
  | _ => rcases old with v | ⟨_ | last, _ | _⟩ | v | v | v | _ <;> rfl

theorem actResultOfCode_eq (b : Byte) :
    actResultOfCode b = [ActResult.idle, .busy, .done, .strokeEnd, .fault][b.toNat]? := by
  unfold actResultOfCode
  generalize b.toNat = n
  split
  case h_6 h0 h1 h2 h3 h4 =>
    have : 5 ≤ n := by simp only [imp_false] at *; omega
    rw [List.getElem?_eq_none (by simpa using this)]
  all_goals rfl

/-- A field as wide as its role reads is stored as Table 1-2 and R16 say. -/
theorem storeField_eq (now : Long) (e : Entry) {r : Role} {bytes : List Byte} (h : r.readWidth = some bytes.length)
    (old : Record) :
    storeField now e r bytes old = .ofValue now r.wrap old.value (storedValue e r bytes) := by
  cases r with
  | feederDrive j => cases h
  | power k | gap k | level k | pressure k | binLevel =>
    obtain ⟨hi, lo, rfl⟩ := List.length_eq_two.1 (Option.some.inj h).symm
    simp [storeField, Role.counterModulus, Role.isScalar, storedValue, Taken.ofValue, storedIncrement, scaleScalar,
      clampInt, beNat_two]
  | feederTotal j | beltScale | beltTravel =>
    obtain ⟨hi, lo, rfl⟩ := List.length_eq_two.1 (Option.some.inj h).symm
    simp only [storeField, Role.counterModulus, storedValue, Taken.ofValue, storeCounter, storedIncrement, beNat_two,
      Role.wrap, reduceCtorEq, if_false]
    rcases old.value with v | ⟨_ | last, _ | _⟩ | v | v | v | _ <;> rfl
  | metal =>
    obtain ⟨b, rfl⟩ := List.length_eq_one_iff.1 (Option.some.inj h).symm
    simp only [storeField, Role.counterModulus, storedValue, Taken.ofValue, storeCounter, storedIncrement, beNat_one,
      Role.wrap, if_true]
    rcases old.value with v | ⟨_ | last, _ | _⟩ | v | v | v | _ <;> rfl
  | actuator k =>
    obtain ⟨a, b, c, rfl⟩ := List.length_eq_three.1 (Option.some.inj h).symm
    simp only [storeField, Role.counterModulus, Role.isScalar, storedValue, decodeStatus, actResultOfCode_eq,
      Bool.false_eq_true, if_false]
    cases [ActResult.idle, .busy, .done, .strokeEnd, .fault][b.toNat]? <;>
      simp [Taken.ofValue, storedIncrement_of_ne]
  | diverter =>
    obtain ⟨b, rfl⟩ := List.length_eq_one_iff.1 (Option.some.inj h).symm
    have hd : storedValue e .diverter [b] = (divertOfCode b).map fun d => .confirm (some d) := by
      simp only [storedValue, divertOfCode]
      split
      · rfl
      · split <;> rfl
    simp only [hd, storeField, Role.counterModulus, Role.isScalar, List.headD_cons, Bool.false_eq_true, if_false]
    cases divertOfCode b <;> simp [Taken.ofValue, storedIncrement_of_ne]
  | tripUnit =>
    obtain ⟨b, rfl⟩ := List.length_eq_one_iff.1 (Option.some.inj h).symm
    simp [storeField, Role.counterModulus, Role.isScalar, storedValue, Taken.ofValue, storedIncrement_of_ne]

/-- A stored value has the form of its role (Table 1-5). -/
theorem storedValue_fits {e : Entry} {r : Role} {bytes : List Byte} {x : Value} (h : storedValue e r bytes = some x) :
    x.fits r true = true := by
  unfold storedValue at h
  split at h
  case h_10 =>
    obtain ⟨a, -, rfl⟩ := Option.map_eq_some_iff.1 h
    rfl
  case h_11 =>
    split at h
    · cases h; rfl
    · split at h
      · cases h; rfl
      · cases h
  case h_13 => cases h
  all_goals cases h; rfl

/-! ### The records after an event -/

theorem mem_indices (i : Fin 32) : i ∈ indices := List.mem_finRange i

theorem indices_nodup : indices.Nodup := List.nodup_finRange 32

/-- Each entry of a list of distinct entries is changed once, on its own. -/
theorem getElem_foldl_set {α : Type} {n : Nat} (f : Fin n → α → α) {l : List (Fin n)} (hl : l.Nodup) (v : Vector α n)
    (j : Fin n) : (l.foldl (fun u i => u.set i (f i u[i])) v)[j] = if j ∈ l then f j v[j] else v[j] := by
  induction l generalizing v with
  | nil => simp
  | cons i l ih =>
    obtain ⟨hi, hl⟩ := List.nodup_cons.1 hl
    rw [List.foldl_cons, ih hl]
    by_cases hj : j = i
    · subst hj; simp [hi]
    · have hv : (v.set i (f i v[i]))[j] = v[j] := Vector.getElem_set_ne _ _ fun h => hj (Fin.ext h.symm)
      simp only [hv, List.mem_cons, hj, false_or]

/-- The record of an entry once a reply has been taken (R15). -/
def Taken.record (held : Option Record) : Taken → Option Record
  | .stored rec _ => some rec
  | _ => held

/-- The record of each entry after a reply: the one taken, or the one held (R15). -/
theorem getElem_storeAfter (s : State) (t : Telegram) (i : Fin 32) :
    (storeAfter s t)[i] = (takeAt s t i).record s.store[i] := by
  have hset : storeAfter s t = indices.foldl (fun st i => st.set i ((takeAt s t i).record st[i])) s.store := by
    unfold storeAfter
    congr
    funext st i
    cases takeAt s t i <;> simp [Taken.record]
  rw [hset]
  exact (getElem_foldl_set (fun i o => (takeAt s t i).record o) indices_nodup s.store i).trans (if_pos (mem_indices i))

/-- The record of each entry once a counted cycle has aged the records (R19). -/
theorem getElem_aged (s : State) (i : Fin 32) :
    ((indices.filter (agesOut s)).foldl (fun st (i : Fin 32) => st.set i (st[i].map Record.staled)) s.store)[i] =
      if agesOut s i then s.store[i].map Record.staled else s.store[i] := by
  refine (getElem_foldl_set (fun _ o => o.map Record.staled) (indices_nodup.filter _) s.store i).trans ?_
  simp only [List.mem_filter, mem_indices, true_and]

/-- The record of each entry after a station commit (R13). -/
theorem getElem_rebuiltStore (old new : Vector Entry 32) (store : Vector (Option Record) 32) (i : Fin 32) :
    (rebuiltStore old new store)[i] = rebuiltRecord old new store i :=
  (getElem_foldl_set (fun i _ => rebuiltRecord old new store i) indices_nodup store i).trans (if_pos (mem_indices i))

theorem identicalIndex_eq_some {old : Vector Entry 32} {e : Entry} {j : Fin 32} (h : identicalIndex old e = some j) :
    old[j] = e := by
  simpa using List.find?_some h

theorem initialValue_fits (r : Role) : (initialValue r).fits r false = true := by cases r <;> rfl

theorem newRecord_of_role {e : Entry} {r : Role} (h : e.role? = some r) :
    newRecord e = { fresh := false, arrival := none, value := initialValue r } := by
  simp [newRecord, h]

/-! ### What the observer takes (R15) -/

/-- The record an entry holds before a reply, and what the reply makes of it. -/
theorem takeAt_eq {s : State} (hs : ∀ i : Fin 32, s.activeTable[i].used = true → s.store[i].isSome = true)
    (t : Telegram) (i : Fin 32) :
    takeAt s t i = match s.readField t.src t.payload i with
      | none => .unread
      | some (_, none) => .short
      | some (r, some bytes) =>
        .ofValue s.tracker.cycleCount r.wrap ((s.store[i].map Record.value).getD .nothing)
          (storedValue s.activeTable[i] r bytes) := by
  unfold takeAt State.readField fieldAt
  dsimp only
  by_cases hu : s.activeTable[i].used = true ∧ s.activeTable[i].address = t.src
  · obtain ⟨old, ho⟩ := Option.isSome_iff_exists.1 (hs i hu.1)
    rw [if_pos (by simpa using hu), if_pos hu, ho]
    cases s.activeTable[i].role? with
    | none => rfl
    | some r =>
      dsimp only
      cases hw : r.readWidth with
      | none => rfl
      | some w =>
        cases offsetOfCode s.activeTable[i].readOffset with
        | none => rfl
        | some off =>
          dsimp only
          split
          · rename_i bytes hb
            split at hb
            · cases hb
              rename_i hfit
              rw [if_pos hfit]
              exact storeField_eq _ _ (hw.trans (congrArg some (by simp; omega))) _
            · cases hb
          · rename_i hb
            split at hb
            · cases hb
            · rename_i hfit
              rw [if_neg hfit]
  · rw [if_neg hu, if_neg (by simpa using hu)]

end Sys2Proof.Machine
end

section
/-!
PROOF. The station table, the curves, the sessions and the store (O10): what the invariants of the tables read, and that
every block keeps them.
-/

namespace Sys2Proof.Machine

/-! ### What the invariants read -/

/-- All that TableInv and StoreInv read of a state. -/
def State.tables (s : State) :=
  (s.straps, s.activeTable, s.stagedTable, s.activeCurves, s.stagedCurves, s.store, s.handler.session,
    s.handler.pendingStation, s.handler.pendingCurve)

theorem TableInv.of_tables {s t : State} (h : TableInv s) (ht : t.tables = s.tables) : TableInv t := by
  simp only [State.tables, Prod.mk.injEq] at ht
  obtain ⟨hstraps, hactive, hstaged, hcurves, hstagedCurves, -, hsession, hstation, hcurve⟩ := ht
  have hown : t.ownAddress = s.ownAddress := by simp only [State.ownAddress, hstraps]
  have hon (b : Bank) : sessionOn t.handler b = sessionOn s.handler b := by simp only [sessionOn, hsession]
  exact ⟨by rw [hown, hactive]; exact h.active, by rw [hown, hstaged, hstation, hon]; exact h.station,
    by rw [hstagedCurves, hcurve, hon]; exact h.curve, by rw [hcurves]; exact h.curves,
    by rw [hsession]; exact h.session⟩

theorem StoreInv.of_tables {s t : State} (h : StoreInv s) (ht : t.tables = s.tables) : StoreInv t := by
  simp only [State.tables, Prod.mk.injEq] at ht
  obtain ⟨-, hactive, -, -, -, hstore, -⟩ := ht
  exact ⟨by rw [hstore, hactive]; exact h.held, by rw [hstore, hactive]; exact h.form, by rw [hstore]; exact h.arrival⟩

/-- The tables hold, and the store holds its records where it did before. -/
structure TablesHold (stored : Prop) (s : State) : Prop where
  table : TableInv s
  store : stored → StoreInv s

theorem TablesHold.of_tables {q : Prop} {s t : State} (h : TablesHold q s) (ht : t.tables = s.tables) :
    TablesHold q t :=
  ⟨h.table.of_tables ht, fun hq => (h.store hq).of_tables ht⟩

/-! ### Validated tables -/

theorem TableInv.passes {s : State} (h : TableInv s) (i : Fin 32) (hu : s.activeTable[i].used = true) :
    Passes s.ownAddress s.activeTable i :=
  (stationFailure_eq_none.1 h.active).1 i hu

theorem Passes.role {own : Option Byte} {tab : Vector Entry 32} {i : Fin 32} (h : Passes own tab i) :
    ∃ r, tab[i].role? = some r :=
  stationCheck_role.1 (h 1 (by decide))

/-- With no entry used there is nothing to fail. -/
theorem stationFailure_of_unused {own : Option Byte} {tab : Vector Entry 32} (h : ∀ i : Fin 32, tab[i].used = false) :
    stationFailure own tab = none := by
  have hno (r : Role) : hasRole tab r = false := by
    rw [← Bool.not_eq_true, hasRole_iff]
    rintro ⟨i, hi⟩
    rw [Entry.holds_iff, h] at hi
    exact Bool.false_ne_true hi.1
  refine stationFailure_eq_none.2 ⟨fun i hu => ?_, fun k hk => ?_⟩
  · rw [h] at hu; cases hu
  · rw [hno] at hk; cases hk

/-! ### The store -/

/-- A record keeps the store's invariant for its entry: its value has the form of the entry's role, and it is FRESH only
with an arrival cycle. -/
def Record.Sound (e : Entry) (rec : Record) : Prop :=
  (∃ r, e.role? = some r ∧ rec.value.fits r rec.fresh = true) ∧ (rec.fresh = true → rec.arrival.isSome = true)

theorem StoreInv.sound {s : State} (h : StoreInv s) {i : Fin 32} {rec : Record} (hr : s.store[i] = some rec) :
    rec.Sound s.activeTable[i] :=
  ⟨h.form i rec hr, h.arrival i rec hr⟩

theorem storeInv_of_sound {s : State} (held : ∀ i : Fin 32, (s.store[i]).isSome = s.activeTable[i].used)
    (sound : ∀ (i : Fin 32) (rec : Record), s.store[i] = some rec → rec.Sound s.activeTable[i]) : StoreInv s :=
  ⟨held, fun i rec h => (sound i rec h).1, fun i rec h => (sound i rec h).2⟩

/-- The store's invariant stays where each record is the one before or takes its place. -/
theorem StoreInv.of_records {s t : State} (h : StoreInv s) (ha : t.activeTable = s.activeTable)
    (hr : ∀ i : Fin 32, t.store[i] = s.store[i] ∨
      ∃ old rec, s.store[i] = some old ∧ t.store[i] = some rec ∧ rec.Sound s.activeTable[i]) : StoreInv t := by
  refine storeInv_of_sound (fun i => ?_) fun i rec hi => ?_ <;> rw [ha] <;> rcases hr i with he | ⟨old, new, ho, hn, hs⟩
  · rw [he, h.held]
  · rw [hn, ← h.held, ho]; rfl
  · exact h.sound (he ▸ hi)
  · rw [hn] at hi; cases hi; exact hs

theorem Record.Sound.staled {e : Entry} {rec : Record} (h : rec.Sound e) : rec.staled.Sound e := by
  obtain ⟨⟨r, hr, hf⟩, -⟩ := h
  refine ⟨⟨r, hr, ?_⟩, fun hc => (by cases hc)⟩
  show rec.value.fits r false = true
  cases hv : rec.value <;> simp_all [Value.fits]

theorem Record.Sound.unbased {e : Entry} {rec : Record} (h : rec.Sound e) : rec.unbased.Sound e := by
  unfold Record.unbased
  split
  · rename_i last b hv
    obtain ⟨⟨r, hr, hf⟩, ha⟩ := h
    rw [hv] at hf
    exact ⟨⟨r, hr, hf⟩, ha⟩
  · exact h

theorem StoreInv.stored {s : State} (h : StoreInv s) (t : Telegram) : StoreInv (storeReply t s) := by
  refine h.of_records (by simp) fun i => ?_
  have he : (storeReply t s).store[i] = (takeAt s t i).record s.store[i] := getElem_storeAfter s t i
  rw [he, takeAt_eq (fun j hj => by rw [h.held, hj])]
  split
  · exact .inl rfl
  · exact .inl rfl
  · rename_i r bytes hread
    cases hv : storedValue s.activeTable[i] r bytes with
    | none => exact .inl rfl
    | some x =>
      unfold State.readField at hread
      dsimp only at hread
      split at hread
      · rename_i hu
        obtain ⟨old, ho⟩ := Option.isSome_iff_exists.1 ((h.held i).trans hu.1)
        split at hread
        · rename_i q hq
          split at hread
          · obtain ⟨rfl, -⟩ := Prod.mk.inj (Option.some.inj hread)
            exact .inr ⟨old, _, ho, rfl, ⟨_, hq, storedValue_fits hv⟩, fun _ => rfl⟩
          · cases hread
        · cases hread
      · cases hread

theorem StoreInv.aged {s : State} (h : StoreInv s) :
    StoreInv { s with
      store :=
        (indices.filter (agesOut s)).foldl (fun st (i : Fin 32) => st.set i (st[i].map Record.staled)) s.store } := by
  refine h.of_records rfl fun i => ?_
  dsimp only
  rw [getElem_aged]
  split
  · cases ho : s.store[i] with
    | none => exact .inl rfl
    | some old => exact .inr ⟨old, old.staled, rfl, rfl, (h.sound ho).staled⟩
  · exact .inl rfl

theorem StoreInv.staleAll {s : State} (h : StoreInv s) : StoreInv (staleAll s) := by
  refine h.of_records rfl fun i => ?_
  have he : (Machine.staleAll s).store[i] = s.store[i].map fun rec => rec.staled.unbased := by
    simp [Machine.staleAll]
  rw [he]
  cases ho : s.store[i] with
  | none => exact .inl rfl
  | some old => exact .inr ⟨old, old.staled.unbased, rfl, rfl, (h.sound ho).staled.unbased⟩

/-- The store rebuilt for a table whose used entries have roles (R13). -/
theorem StoreInv.rebuilt {s t : State} (h : StoreInv s)
    (hs : t.store = rebuiltStore s.activeTable t.activeTable s.store)
    (hp : ∀ i : Fin 32, t.activeTable[i].used = true → ∃ r, t.activeTable[i].role? = some r) : StoreInv t := by
  have he (i : Fin 32) : t.store[i] = rebuiltRecord s.activeTable t.activeTable s.store i := by
    rw [hs, getElem_rebuiltStore]
  refine storeInv_of_sound (fun i => ?_) fun i rec hi => ?_
  · rw [he]
    unfold rebuiltRecord
    split <;> rename_i hu
    · split
      · rename_i j hj
        rw [h.held, identicalIndex_eq_some hj]
      · exact hu.symm
    · simpa using hu
  · rw [he] at hi
    unfold rebuiltRecord at hi
    split at hi <;> rename_i hu
    · split at hi
      · rename_i j hj
        rw [← identicalIndex_eq_some hj]
        exact h.sound hi
      · obtain ⟨r, hr⟩ := hp i hu
        cases hi
        rw [newRecord_of_role hr]
        exact ⟨⟨r, hr, initialValue_fits r⟩, fun hc => (by cases hc)⟩
    · cases hi

/-! ### Sessions and commits (R180 to R184) -/

theorem TableInv.ended {s : State} (h : TableInv s) (how : SessionEnd) : TableInv (endSession how s) := by
  have hon (b : Bank) : sessionOn (endSession how s).handler b = false := by simp [sessionOn]
  refine ⟨?_, fun hp => ⟨?_, hon _⟩, fun hp => ⟨?_, hon _⟩, ?_, fun x hx => ?_⟩
  · simpa [State.ownAddress] using h.active
  · simpa [State.ownAddress] using (h.station (by simpa using hp)).1
  · simpa using (h.curve (by simpa using hp)).1
  · simpa using h.curves
  · simp at hx

theorem StoreInv.ended {s : State} (h : StoreInv s) (how : SessionEnd) : StoreInv (endSession how s) :=
  h.of_records (by simp) fun i => .inl (by simp)

/-- A session replaced by one on a bank without a pending commit. -/
theorem TableInv.setSession {s : State} (h : TableInv s) {x : Session} (hp : pendingOn s.handler x.bank = false)
    (hx : x.portal ≤ x.bank.size ∧ x.startIndex ≤ x.portal ∧ x.wordsTaken ≤ 65535) : TableInv (setSession x s) := by
  have hon {b : Bank} (hb : pendingOn s.handler b = true) : sessionOn (Machine.setSession x s).handler b = false := by
    have hne : x.bank ≠ b := fun he => by rw [he, hb] at hp; cases hp
    simp [sessionOn, Machine.setSession, hne]
  exact ⟨h.active, fun hs => ⟨(h.station hs).1, hon hs⟩, fun hs => ⟨(h.curve hs).1, hon hs⟩, h.curves,
    fun y hy => by cases hy; exact hx⟩

/-- A word written into a bank without a pending commit. -/
theorem TableInv.writeStaged {s : State} (h : TableInv s) {b : Bank} (hp : pendingOn s.handler b = false) (portal : Nat)
    (w : Word) : TableInv (writeStaged b portal w s) := by
  cases b with
  | station =>
    have hno : ¬s.handler.pendingStation = true := Bool.not_eq_true _ ▸ hp
    exact ⟨h.active, fun hs => absurd hs hno, h.curve, h.curves, h.session⟩
  | curve =>
    have hno : ¬s.handler.pendingCurve = true := Bool.not_eq_true _ ▸ hp
    exact ⟨h.active, h.station, fun hs => absurd hs hno, h.curves, h.session⟩

/-- The bank of an open session has no pending commit. -/
theorem TableInv.not_pending {s : State} (h : TableInv s) {x : Session} (hx : s.handler.session = some x) :
    pendingOn s.handler x.bank = false := by
  have hon : sessionOn s.handler x.bank = true := by simp [sessionOn, hx]
  rw [← Bool.not_eq_true]
  intro hp
  cases hb : x.bank <;> rw [hb] at hp hon
  · rw [(h.station hp).2] at hon; cases hon
  · rw [(h.curve hp).2] at hon; cases hon

theorem TableInv.takeWord {s : State} (h : TableInv s) (w : Word) : TableInv (takeWord s w) := by
  unfold Machine.takeWord
  split
  · exact h
  · rename_i x hx
    have hp := h.not_pending hx
    obtain ⟨hsize, hstart, hwords⟩ := h.session x hx
    have hcount : countUp x.wordsTaken ≤ 65535 := Nat.min_le_left _ _
    dsimp only
    split
    · have h1 := h.setSession (x := { x with portal := x.portal + 1, wordsTaken := countUp x.wordsTaken }) hp
        ⟨by dsimp only; omega, by dsimp only; omega, hcount⟩
      exact h1.writeStaged hp _ _
    · have h1 := h.setSession (x := { x with wordsTaken := countUp x.wordsTaken, overflowed := true }) hp
        ⟨hsize, hstart, hcount⟩
      exact h1.of_tables (by simp [State.tables])

theorem TableInv.takeStream {s : State} (h : TableInv s) (fn : Byte) (payload : List Byte) :
    TableInv (takeStream fn payload s) := by
  have hwords (l : List Word) {u : State} (hu : TableInv u) : TableInv (l.foldl Machine.takeWord u) := by
    induction l generalizing u with
    | nil => exact hu
    | cons w l ih => exact ih (hu.takeWord w)
  unfold Machine.takeStream
  split
  · dsimp only
    split
    · exact (hwords _ h).ended _
    · exact hwords _ h
  · exact h

theorem TableInv.loadOpen {s : State} (h : TableInv s) (payload : List Byte) :
    TableInv (loadOpenAct payload s).state := by
  unfold loadOpenAct
  split
  · split
    · rename_i b _
      split
      · exact h
      · split
        · exact h
        · rename_i hp
          have hp1 : pendingOn (endSession .request s).handler b = false := by
            rw [Bool.not_eq_true] at hp
            cases b <;> simpa [pendingOn] using hp
          exact (h.ended .request).setSession hp1 ⟨by dsimp only; omega, by dsimp only; omega, by simp⟩
    · exact h
  · exact h

theorem TableInv.commit {s : State} (h : TableInv s) (payload : List Byte) : TableInv (commitAct payload s).state := by
  unfold commitAct
  split
  · split
    · rename_i b _
      split
      · exact h
      · rename_i hbusy
        have hon : sessionOn s.handler b = false := by
          rw [← Bool.not_eq_true]; exact fun hc => hbusy (by rw [hc, Bool.or_true])
        split
        · exact h
        · split
          · exact h
          · rename_i hf
            cases b
            · exact ⟨h.active, fun _ => ⟨hf, hon⟩, h.curve, h.curves, h.session⟩
            · exact ⟨h.active, h.station, fun _ => ⟨hf, hon⟩, h.curves, h.session⟩
    · exact h
  · exact h

variable {q : Prop}

/-- What a station commit leaves of the tables: the bank that was staged, and the store rebuilt for it (R13). -/
theorem applyStation_tables (s : State) :
    (applyStation s).tables =
      (s.straps, s.stagedTable, s.stagedTable, s.activeCurves, s.stagedCurves,
        rebuiltStore s.activeTable s.stagedTable s.store, s.handler.session, false, s.handler.pendingCurve) := by
  have hinform (x : Informed) (t : State) : (informCommit s.activeTable s.stagedTable x t).tables = t.tables := by
    simp [State.tables]
  have hdrive (k : Fin 4) (t : State) : (refreshDrive k t).tables = t.tables := by simp [State.tables]
  exact (inFreeOrder_keeps State.tables hinform (fun _ _ => rfl) _ _).trans (forFour_keeps State.tables hdrive _)

theorem TablesHold.applyStation {s : State} (h : TablesHold q s) (hp : s.handler.pendingStation = true) :
    TablesHold q (applyStation s) := by
  have hstaged := (h.table.station hp).1
  let t : State :=
    { s with
      activeTable := s.stagedTable
      store := rebuiltStore s.activeTable s.stagedTable s.store
      handler := { s.handler with pendingStation := false } }
  have ht : TablesHold q t :=
    ⟨⟨hstaged, fun hc => (by cases hc), h.table.curve, h.table.curves, h.table.session⟩,
      fun hq => (h.store hq).rebuilt rfl fun i hi => ((stationFailure_eq_none.1 hstaged).1 i hi).role⟩
  exact ht.of_tables (applyStation_tables s)

theorem TablesHold.applyCurve {s : State} (h : TablesHold q s) (hp : s.handler.pendingCurve = true) :
    TablesHold q (applyCurve s) := by
  have hchecks := curveFailure_eq_none.1 (h.table.curve hp).1
  have hcurves (i : Fin 8) : CurveInv (s.stagedCurves.map curveOfStaged)[i] := by
    have he : (s.stagedCurves.map curveOfStaged)[i] = curveOfStaged s.stagedCurves[i] := by simp
    rw [he]
    exact curveInv_of_checks (hchecks i)
  exact ⟨⟨h.table.active, h.table.station, fun hc => (by cases hc), hcurves, h.table.session⟩,
    fun hq => (h.store hq).of_records rfl fun i => .inl rfl⟩

theorem TablesHold.applyCommits {s : State} (h : TablesHold q s) : TablesHold q (applyCommits s) := by
  refine inFreeOrder_induct (TablesHold q) ?_ fun b _ t ht => ?_
  · exact h.of_tables rfl
  · cases b <;> (unfold applyPending; dsimp only; split)
    · exact ht.applyStation ‹_›
    · exact ht
    · exact ht.applyCurve ‹_›
    · exact ht

/-! ### Requests -/

theorem TablesHold.loadOpen {s : State} (h : TablesHold q s) (payload : List Byte) :
    TablesHold q (loadOpenAct payload s).state := by
  refine ⟨h.table.loadOpen payload, fun hq => ?_⟩
  unfold loadOpenAct openSession
  repeat' split
  case isFalse => exact (h.store hq).ended .request |>.of_records rfl fun i => .inl rfl
  all_goals exact h.store hq

theorem TablesHold.commit {s : State} (h : TablesHold q s) (payload : List Byte) :
    TablesHold q (commitAct payload s).state := by
  refine ⟨h.table.commit payload, fun hq => ?_⟩
  have hset (b : Bank) : StoreInv (setPending b s) := by
    cases b <;> exact (h.store hq).of_records rfl fun i => .inl rfl
  unfold commitAct
  repeat' split
  case h_2 => exact hset _
  all_goals exact h.store hq

theorem changeDryRun_handler (on : Bool) (s : State) :
    (changeDryRun on s).handler = { s.handler with dryRun := on } :=
  forFour_keeps State.handler (by simp) _

theorem TablesHold.dryRun {s : State} (h : TablesHold q s) (payload : List Byte) :
    TablesHold q (dryRunAct payload s).state := by
  have ht (on : Bool) {t : State} (h : TablesHold q t) : TablesHold q (takeDryRun on t).state := by
    unfold takeDryRun
    dsimp only
    split
    · exact h
    · exact h.of_tables (by simp [State.tables, changeDryRun_handler])
  unfold dryRunAct
  split
  · split
    · exact ht _ h
    · exact ht _ (h.of_tables rfl)
  · exact h

theorem TablesHold.warmRestart {s : State} (h : TablesHold q s) : TablesHold q (warmRestart s) := by
  have h1 : TablesHold q (staleAll (restartTracker (endSession .restart s))) := by
    have h0 : TablesHold q (restartTracker (endSession .restart s)) :=
      (⟨h.table.ended _, fun hq => (h.store hq).ended _⟩ : TablesHold q (endSession .restart s)).of_tables rfl
    exact ⟨⟨h0.table.active, h0.table.station, h0.table.curve, h0.table.curves, h0.table.session⟩,
      fun hq => (h0.store hq).staleAll⟩
  unfold Machine.warmRestart
  exact h1.of_tables (by simp [State.tables, restartLots])

/-- A request whose argument is one index leaves the tables where it leaves them for each crusher (R172). -/
theorem indexed_tables {act : Fin 4 → State → Served} {s : State} (h : ∀ k, (act k s).state.tables = s.tables)
    (payload : List Byte) : (indexed act payload s).state.tables = s.tables :=
  indexed_keeps (P := fun t => t.tables = s.tables) rfl h payload

theorem lineAct_tables (s : State) (payload : List Byte) :
    (lineStartAct payload s).state.tables = s.tables ∧ (lineStopAct payload s).state.tables = s.tables ∧
      (tripReleaseAct payload s).state.tables = s.tables := by
  refine ⟨?_, ?_, ?_⟩
  · unfold lineStartAct withMode
    repeat' split
    all_goals simp [State.tables]
  · unfold lineStopAct withMode
    split <;> simp [State.tables, beginStop]
  · unfold tripReleaseAct
    dsimp only
    repeat' split
    all_goals simp [State.tables, releaseTrip]

theorem crusherAct_tables (s : State) (payload : List Byte) :
    (writeCrusherAct payload s).state.tables = s.tables ∧ (setTargetAct payload s).state.tables = s.tables ∧
      (crusherEnableAct payload s).state.tables = s.tables ∧ (crusherDisableAct payload s).state.tables = s.tables ∧
      (faultClearAct payload s).state.tables = s.tables ∧ (wearResetAct payload s).state.tables = s.tables := by
  refine ⟨?_, ?_, ?_, indexed_tables (fun k => ?_) _, indexed_tables (fun k => ?_) _, indexed_tables (fun k => ?_) _⟩
  · unfold writeCrusherAct answered badParameter
    repeat' split
    all_goals simp [State.tables]
  · unfold setTargetAct answered
    dsimp only
    repeat' split
    all_goals simp [State.tables]
  · unfold crusherEnableAct
    split
    · rfl
    · split
      · rfl
      · refine indexed_tables (fun k => ?_) _
        split <;> simp [State.tables, answered]
  · split <;> simp [State.tables, answered]
  · split <;> simp [State.tables, answered]
  · simp [State.tables, answered]

theorem parameterAct_tables (s : State) (payload : List Byte) :
    (writeFeederAct payload s).state.tables = s.tables ∧ (writeLineAct payload s).state.tables = s.tables := by
  refine ⟨?_, ?_⟩
  · unfold writeFeederAct writeFeeder answered badParameter
    dsimp only
    repeat' split
    all_goals simp [State.tables]
  · unfold writeLineAct writeLine answered badParameter
    repeat' split
    all_goals simp [State.tables]

theorem readAct_tables (s : State) (payload : List Byte) :
    (readRecordAct payload s).state.tables = s.tables ∧ (rejectLotAct payload s).state.tables = s.tables ∧
      (deviceClearAct payload s).state.tables = s.tables := by
  refine ⟨?_, ?_, ?_⟩
  · unfold readRecordAct
    repeat' split
    all_goals rfl
  · unfold rejectLotAct
    dsimp only
    repeat' split
    all_goals rfl
  · simp only [deviceClearAct, answered, State.tables, clearCauses_frame]
    rfl

/-- No request ends the invariants of the tables. All but LOAD_OPEN, COMMIT, DRY_RUN and WARM_RESTART leave what they
read. -/
theorem TablesHold.request {act : List Byte → State → Served} (ha : act ∈ requestActs) (payload : List Byte) {s : State}
    (h : TablesHold q s) : TablesHold q (act payload s).state := by
  obtain ⟨hstart, hstop, hrelease⟩ := lineAct_tables s payload
  obtain ⟨hwrite, htarget, henable, hdisable, hclear, hwear⟩ := crusherAct_tables s payload
  obtain ⟨hfeeder, hline⟩ := parameterAct_tables s payload
  obtain ⟨hread, hreject, hdevice⟩ := readAct_tables s payload
  simp only [requestActs, List.mem_cons, List.not_mem_nil, or_false] at ha
  rcases ha with rfl | rfl | rfl | rfl | rfl | rfl | rfl | rfl | rfl | rfl | rfl | rfl | rfl | rfl | rfl | rfl | rfl |
    rfl | rfl | rfl | rfl | rfl
  · exact h.of_tables rfl
  · exact h.of_tables rfl
  · exact h.of_tables hread
  · exact h.of_tables hwrite
  · exact h.of_tables hfeeder
  · exact h.of_tables hline
  · exact h.of_tables htarget
  · exact h.of_tables henable
  · exact h.of_tables hdisable
  · exact h.of_tables hclear
  · exact h.of_tables hwear
  · exact h.of_tables hstart
  · exact h.of_tables hstop
  · exact h.of_tables hrelease
  · exact h.of_tables hreject
  · exact h.loadOpen payload
  · exact h.commit payload
  · exact h.dryRun payload
  · exact h.of_tables hdevice
  · simp only [warmRestartAct, answered]
    exact h.warmRestart
  · exact h
  · exact h

/-! ### Line time and the whole part -/

theorem TablesHold.cycleStore {s : State} (h : TablesHold q s) : TablesHold q (cycleStore s) := by
  unfold Machine.cycleStore
  dsimp only
  refine TablesHold.of_tables (s := { s with
    store := (indices.filter (agesOut s)).foldl (fun st (i : Fin 32) => st.set i (st[i].map Record.staled)) s.store })
    ⟨⟨h.table.active, h.table.station, h.table.curve, h.table.curves, h.table.session⟩, fun hq => (h.store hq).aged⟩ ?_
  simp [State.tables]

theorem TablesHold.cycleWork {s : State} (h : TablesHold q s) (u : CycleUser) : TablesHold q (cycleWork u s) := by
  cases u
  · exact h.cycleStore
  · exact h.of_tables (by simp [State.tables, Machine.cycleWork])
  · exact h.of_tables (by simp [State.tables, Machine.cycleWork])
  · exact h.of_tables (by simp [State.tables, Machine.cycleWork])
  · exact h.applyCommits

theorem TablesHold.acquireWork {s : State} (h : TablesHold q s) (u : AcquireUser) : TablesHold q (acquireWork u s) := by
  cases u
  · exact h.of_tables (by simp [State.tables, Machine.acquireWork])
  · exact h.of_tables (by simp [State.tables, Machine.acquireWork])
  · exact h.applyCommits

theorem TablesHold.staleAll {s : State} (h : TablesHold q s) : TablesHold q (staleAll s) :=
  ⟨⟨h.table.active, h.table.station, h.table.curve, h.table.curves, h.table.session⟩, fun hq => (h.store hq).staleAll⟩

theorem tablesHold_keptByTime : KeptByTime (TablesHold q) where
  raise _ _ _ h := h.of_tables rfl
  lock _ _ _ h := h.of_tables rfl
  free _ _ h := h.of_tables rfl
  cycle u _ h := h.cycleWork u
  stale _ h := h.staleAll
  acquire u _ h := h.acquireWork u
  lost _ h := h.of_tables (by simp [State.tables])
  onset k _ h := h.of_tables (by simp [State.tables])

theorem tableInv_powerOn (addr : BitVec 7) (rate : BitVec 3) (low : Bool) (s : State) :
    TableInv (powerOn addr rate low s) where
  active := stationFailure_of_unused fun i => by simp [powerOn, State.reset]; rfl
  station h := by cases h
  curve h := by cases h
  curves i := by
    have he : (powerOn addr rate low s).activeCurves[i] = [] := by simp [powerOn, State.reset]
    rw [he]
    exact ⟨.inl rfl, fun _ h => absurd h List.not_mem_nil, .nil⟩
  session x h := by cases h

theorem storeInv_powerOn (addr : BitVec 7) (rate : BitVec 3) (low : Bool) (s : State) :
    StoreInv (powerOn addr rate low s) := by
  refine storeInv_of_sound (fun i => ?_) fun i rec h => ?_
  · simp [powerOn, State.reset]; rfl
  · simp [powerOn, State.reset] at h

theorem tablesHold_keptByBlocks : KeptByBlocks (TablesHold q) where
  ports _ _ _ _ h := h.of_tables rfl
  relay _ _ h := h.of_tables rfl
  rewriter _ _ h := h.of_tables rfl
  waiting _ _ h := h.of_tables rfl
  raise _ _ _ h := h.of_tables rfl
  rollMisses _ _ h := h.of_tables rfl
  timer _ _ h := h.of_tables rfl
  reset s addr rate low _ :=
    (⟨tableInv_powerOn addr rate low s, fun _ => storeInv_powerOn addr rate low s⟩ : TablesHold q _).of_tables
      (by simp [State.tables, powerOnReset])
  pin _ _ h := h.of_tables (by simp [State.tables])
  marker _ payload h := tablesHold_keptByTime.marker h payload
  expiry _ h := tablesHold_keptByTime.expiry h
  reply _ t h := observe_keeps h
    ⟨⟨h.table.active, h.table.station, h.table.curve, h.table.curves, h.table.session⟩, fun hq => (h.store hq).stored t⟩
    fun a _ hu => hu.of_tables (by simp [State.tables])
  session _ how h := ⟨h.table.ended how, fun hq => (h.store hq).ended how⟩
  stream _ fn payload h :=
    ⟨h.table.takeStream fn payload, fun hq => (h.store hq).of_records (by simp) fun i => .inl (by simp)⟩
  request _ ha payload _ h := h.request ha payload

/-- Settles O10: the tables hold at every event of a block; a station commit brings in what validation passed, and the
store is rebuilt to match it. -/
theorem tableInvariantKept : Obligations.TableInvariantKept := fun s t h ht =>
  have hold : TablesHold (StoreInv s) t := tablesHold_keptByBlocks.step ⟨h, id⟩ ht
  ⟨hold.table, hold.store⟩

end Sys2Proof.Machine
end

section
/-!
PROOF. The invariants at reset (O11): each block, as it stands right after reset, holds its own.
-/

namespace Sys2Proof.Machine

theorem crusher_reset (k : Fin 4) : State.reset.crusher k = Crusher.reset := by
  simp [State.crusher, State.reset]

theorem feeder_reset (j : Fin 4) : State.reset.feeder j = Feeder.reset := by
  simp [State.feeder, State.reset]

theorem port_reset (p : PortId) : State.reset.port p = Port.reset := by cases p <;> rfl

theorem hasRole_reset (r : Role) : hasRole State.reset.activeTable r = false := by
  rw [← Bool.not_eq_true, hasRole_iff]
  rintro ⟨i, hi⟩
  have hu : State.reset.activeTable[i].used = false := by simp [State.reset]; rfl
  rw [Entry.holds_iff, hu] at hi
  exact Bool.false_ne_true hi.1

theorem lineInv_reset : LineInv State.reset :=
  ⟨rfl, rfl, rfl, rfl, fun h => (by cases h), fun k h => by rw [crusher_reset] at h; cases h⟩

theorem causeInv_reset : CauseInv State.reset := by
  have he (x : Cause) : State.reset.causes.entry x = { pending := false, count := 0 } := by cases x <;> rfl
  refine ⟨fun x => by rw [he]; simp, fun x => by rw [he]; simp, fun x hx => ?_⟩
  rw [he]
  cases x with
  | crusherFault =>
    rw [eq_comm, ← Bool.not_eq_true, levelHolds_crusherFault]
    rintro ⟨k, hk⟩
    rw [crusher_reset] at hk
    cases hk
  | linerDue =>
    rw [eq_comm, ← Bool.not_eq_true, levelHolds_linerDue]
    rintro ⟨k, hk⟩
    rw [crusher_reset] at hk
    revert hk
    decide
  | trip | diverterMismatch => rfl
  | _ => cases hx

theorem feederInv_reset : FeederInv State.reset := by
  have hdrive (j : Fin 4) : driveValueOf State.reset.activeTable j 0 = none := by
    have hn : roleIndex State.reset.activeTable (.feederDrive j) = none := by
      simpa [hasRole] using hasRole_reset (.feederDrive j)
    simp [driveValueOf, entryOf, hn]
  refine ⟨fun j => ?_, fun j => ?_, fun j => ?_, fun j h => ?_, fun j => ?_⟩ <;> rw [feeder_reset] at *
  · decide
  · decide
  · exact .inl rfl
  · exact absurd rfl h
  · exact (hdrive j).symm

theorem lotsInv_reset : LotsInv State.reset where
  size := by decide
  order := .nil
  placed _ h := absurd h List.not_mem_nil
  tags _ _ h := by cases h
  marks _ h := absurd h List.not_mem_nil
  balance := rfl
  divert := ⟨fun h => (by cases h), fun ⟨_, h, _⟩ => absurd h List.not_mem_nil⟩
  inventory := Nat.zero_le _

theorem trackerInv_reset : TrackerInv State.reset :=
  ⟨by decide, fun _ => by decide, by decide, fun _ h => (by cases h), fun _ h => (by cases h), fun h => (by cases h)⟩

theorem relayInv_reset : RelayInv State.reset where
  fSize := by decide
  mSize := by decide
  fSound _ h := absurd h List.not_mem_nil
  mSound _ h := absurd h List.not_mem_nil
  sending p t h := by rw [port_reset] at h; cases h
  enabled p := by rw [port_reset]; rfl
  space p := by rw [port_reset]; decide
  breaking := by decide

theorem receiverInv_reset : ReceiverInv State.reset := fun p part h => by rw [port_reset] at h; cases h

theorem paramsInv_reset : ParamsInv State.reset :=
  ⟨by decide, by decide, by decide, by decide, by decide, by decide, by decide, by decide, fun _ h => (by cases h)⟩

/-- Settles O11: reset is the power-on reset of the chosen straps, and every block holds its invariant there. -/
theorem resetHoldsInvariants : Obligations.ResetHoldsInvariants :=
  ⟨lineInv_reset, causeInv_reset, crusherInv_powerOn 1 0 false State.reset, feederInv_reset, lotsInv_reset,
    trackerInv_reset, relayInv_reset, receiverInv_reset, storeInv_powerOn 1 0 false State.reset,
    tableInv_powerOn 1 0 false State.reset, paramsInv_reset⟩

end Sys2Proof.Machine
end

section
/-!
PROOF. The bytes of the records (O27): each record of READ_RECORD, written out.
-/

namespace Sys2Proof.Machine

theorem codeOption_eq_elim {α : Type} (f : α → List Byte) (x : Option α) :
    codeOption f x = x.elim [0] fun a => 1 :: f a := by
  cases x <;> rfl

/-- A signed number in two bytes. -/
theorem beInt_two (z : Int) : beInt 2 z = beBytes 2 (z % 65536).toNat := rfl

theorem codeNone_eq {n : Nat} (x : Option (Fin n)) :
    codeNone x = [(x.map Fin.val).elim 0xFF fun v => BitVec.ofNat 8 v] := by
  cases x <;> rfl

theorem indexBelow_val {n : Nat} (i : Fin n) : indexBelow i.val n = some i := dif_pos i.isLt

theorem codeOption_code {α : Type} (f : α → Byte) (x : Option α) :
    codeOption (fun a => [f a]) x = (x.map f).elim [0] fun b => [1, b] := by
  cases x <;> rfl

theorem codeOffset_eq (b : Byte) : codeOffset b = if b = 0xFF then [0] else [1, b] := by
  unfold codeOffset offsetOfCode
  split
  · rfl
  · simp [codeOption, code1, beBytes]

theorem Crusher.due_eq (c : Crusher) : c.due = decide c.isDue := by
  rw [Bool.eq_iff_iff, c.due_iff, decide_eq_true_iff]

theorem codeCrusherParams_eq (p : CrusherParams) :
    codeCrusherParams p = p.wire (p.loadCurve.elim 0xFF fun i => BitVec.ofNat 8 i.val) := by
  unfold codeCrusherParams CrusherParams.wire code1 code2
  cases p.loadCurve <;> simp [codeNone]

/-- The trip inputs of a trip record as one byte and the active lines (R143). -/
theorem codeTripInputs_eq (a : TripInputs) :
    codeTripInputs a =
      [BitVec.ofNat 8 ((if a.pin then 1 else 0) + (if a.unitLine then 2 else 0) + if a.unitStale then 4 else 0),
        a.lines] := by
  unfold codeTripInputs
  rcases a with ⟨_ | _, _ | _, _ | _, lines⟩ <;> simp

/-- The width of a counter's lastRaw is that of the field its role reads (Table 1-2). -/
theorem counterWidth {e : Entry} {r : Role} (hr : e.role? = some r) (hc : r.counterModulus.isSome = true) :
    (e.role?.bind Role.readWidth).getD 2 = if e.role? = some .metal then 1 else 2 := by
  rw [hr]
  cases r <;> simp_all [Role.counterModulus, Role.readWidth]

/-- The record of a used entry, its value by the form it has (R22). -/
theorem observedRecord_eq {s : State} {i : Fin 32} {rec : Record} (hu : s.activeTable[i].used = true)
    (hr : s.store[i] = some rec) :
    observedRecord s i =
      [1, s.activeTable[i].address, s.activeTable[i].roleKind, s.activeTable[i].roleInst, if rec.fresh then 0 else 1] ++
        codeValue rec.value ++ codeOption code4 rec.arrival ++ codeOption (codeAge s.tracker.cycleCount) rec.arrival ++
        codeBaseline s.activeTable[i] rec.value := by
  simp only [observedRecord, hu, hr]

/-- A lot as a range carries it, its source as an optional byte. -/
theorem codeLotInRange_eq (l : Lot) :
    codeLotInRange l =
      [l.tag, l.state.code] ++ beBytes 4 l.tonnage.toNat ++ [if l.reject then 1 else 0] ++
        (l.rejectSource.map RejectSource.code).elim [0] (fun b => [1, b]) ++ [if l.extended then 1 else 0] := by
  simp only [codeLotInRange, codeOption_code, code4, codeFlag]

/-- Settles O27: each record is its fields, coded one after another. -/
theorem recordBytes_fields : Obligations.RecordBytes := by
  intro s q
  refine ⟨fun k => ?_, fun j => ?_, fun n hn => ⟨?_, fun h1 h4 => ?_⟩, fun n => ?_,
    fun i => ⟨fun hu => ?_, fun rec hu hr hinv => ?_⟩, fun i => ⟨?_, ?_⟩, fun i => ⟨?_, ?_⟩, fun n => ?_, fun n => ?_⟩
  · simp only [recordBytes, index4_val, Option.map_some, crusherRecord, codeMove, codeRelief, codeCommand,
      codeOption_eq_elim, beInt_two, code1, code2, code4, codeCrusherParams_eq, Crusher.due_eq, codeFlag,
      List.append_assoc, List.cons_append, List.nil_append]
  · simp only [recordBytes, index4_val, Option.map_some, feederRecord, codeStage, codeOption_eq_elim, beInt_two,
      code1, code2, code4, codeFlag, List.append_assoc, List.cons_append, List.nil_append]
  · simp only [recordBytes, lotTableSize, hn, if_true, lotRowRecord, codeLot, codeOption_eq_elim,
      code4, codeFlag, Option.elim_map, Function.comp_def]
  · have hq : (decide (n < lotTableSize) && inRange 1 4 q) = true := by simp [lotTableSize, inRange, hn, h1, h4]
    have hlot : codeLotInRange = fun l : Lot => _ := funext fun l => codeLotInRange_eq l
    simp only [recordBytes, hq, if_true, lotRangeRecord, hlot]
  · simp only [recordBytes, binRecord, code1, code3, code4, codeFlag]
  · simp only [recordBytes, indexBelow_val, Option.map_some, observedRecord, hu]
  · simp only [recordBytes, indexBelow_val, Option.map_some, observedRecord_eq hu hr]
    obtain ⟨r, hrole, hfits⟩ := hinv.form i rec hr
    cases hv : rec.value with
    | counter last based =>
      rw [hv] at hfits
      have hw := counterWidth hrole (Bool.and_eq_true_iff.1 hfits).1
      simp only [codeValue, codeBaseline, hw, codeOption_eq_elim, code1, code4, codeAge, ageOf, codeFlag,
        Option.elim_map, Function.comp_def, List.append_assoc]
    | nothing =>
      simp only [codeValue, codeBaseline, codeOption_eq_elim, code1, code4, codeAge, ageOf, Option.elim_map,
        Function.comp_def, List.append_assoc]
    | _ =>
      simp only [codeValue, codeBaseline, codeStatus, codeOption_eq_elim, code1, code2,
        code4, codeAge, ageOf, codeFlag, Option.elim_map, Function.comp_def, List.append_assoc, List.cons_append,
        List.nil_append]
  · simp only [recordBytes, indexBelow_val, Option.bind_some, byBank, if_true, entryRecord, codeOffset_eq, code2]
  · simp only [recordBytes, indexBelow_val, Option.bind_some, byBank, one_ne_zero, if_false, if_true, entryRecord,
      codeOffset_eq, code2]
  · simp only [recordBytes, indexBelow_val, Option.bind_some, byBank, if_true, activeCurveRecord, code1, code2]
  · simp only [recordBytes, indexBelow_val, Option.bind_some, byBank, one_ne_zero, if_false, if_true,
      stagedCurveRecord, code2]
  · simp only [recordBytes, lineRecord, codeLineParams, codeSession, codeLastSession, codeOption_eq_elim,
      codeNone_eq, code1, code2, code3, codeFlag, State.params] <;> rfl
  · simp only [recordBytes, countersRecord, codeTracker, codePort, codeLineControl, codeStop, codeTrip,
      codeTripInputs_eq, codeOption_eq_elim, code1, code2, code4, List.append_assoc,
      List.cons_append, List.nil_append]

end Sys2Proof.Machine
end

section
/-!
PROOF. Causes raised several at a time (R186, R187, R190), and what DEVICE_CLEAR makes of them (O44).
-/

namespace Sys2Proof.Machine

/-! ### Raisings one after another -/

theorem length_filter_disjoint {α : Type} {p q : α → Bool} (h : ∀ x, p x = true → q x = false) (l : List α) :
    (l.filter fun x => p x || q x).length = (l.filter p).length + (l.filter q).length := by
  induction l with
  | nil => rfl
  | cons a l ih =>
    cases hp : p a with
    | true => simp [hp, h a hp, ih]; omega
    | false => cases hq : q a <;> simp [hp, hq, ih]; omega

/-- Among all causes, those equal to one. -/
theorem filter_allCauses_eq (x : Cause) (p : Cause → Bool) :
    (allCauses.filter fun y => decide (y = x) && p y) = if p x then [x] else [] := by
  have hx : allCauses.filter (fun y => decide (y = x)) = [x] := by cases x <;> rfl
  have hand : (allCauses.filter fun y => decide (y = x) && p y) =
      (allCauses.filter fun y => decide (y = x)).filter p := by
    rw [List.filter_filter]
    exact List.filter_congr fun y _ => Bool.and_comm _ _
  rw [hand, hx]
  cases h : p x <;> simp [h]

theorem any_allCauses_eq (x : Cause) (p : Cause → Bool) :
    (allCauses.any fun y => decide (y = x) && p y) = p x := by
  rw [Bool.eq_iff_iff, List.any_eq_true]
  constructor
  · rintro ⟨y, -, hy⟩
    simp only [Bool.and_eq_true, decide_eq_true_eq] at hy
    exact hy.1 ▸ hy.2
  · exact fun h => ⟨x, Cause.mem_all x, by simp [h]⟩

theorem raisedOnce_raise (mask : BitVec 14) (x : Cause) (u : CauseUnit) : RaisedOnce mask x u (u.raise mask x) := by
  refine ⟨?_, ?_, fun y hy => ?_, ?_, ?_, by simp⟩
  · rw [CauseUnit.entry_raise, if_pos rfl]
  · rw [CauseUnit.entry_raise, if_pos rfl]; rfl
  · rw [CauseUnit.entry_raise, if_neg hy]
  · unfold CauseUnit.raise; split <;> rfl
  · unfold CauseUnit.raise; split <;> rfl

theorem raisedEach_none (mask : BitVec 14) (u : CauseUnit) : RaisedEach mask (fun _ => 0) u u :=
  ⟨fun _ h => absurd h (by decide), fun _ _ => rfl, by simp, by simp, rfl⟩

variable {mask : BitVec 14} {x : Cause} {n m : Cause → Nat} {u v w : CauseUnit}

/-- One raising is a raising of each cause, once of one and never of the others. -/
theorem RaisedOnce.each (h : RaisedOnce mask x u v) (hn : ∀ y, n y = if y = x then 1 else 0) :
    RaisedEach mask n u v := by
  have hpos (y : Cause) : decide (0 < n y) = decide (y = x) := by rw [hn]; split <;> simp_all
  refine ⟨fun y hy => ?_, fun y hy => ?_, ?_, ?_, h.rollMisses⟩
  · obtain rfl : y = x := by simpa [hpos] using decide_eq_true hy
    have hp := h.pending
    have hc := h.count
    rcases hv : v.entry y with ⟨p, c⟩
    rw [hv] at hp hc
    dsimp only at hp hc
    subst hp hc
    rw [hn, if_pos rfl]
    split <;> rfl
  · refine h.others y fun he => ?_
    rw [hn, if_pos he] at hy
    cases hy
  · simp only [hpos, filter_allCauses_eq x fun y => !(u.entry y).pending, h.sequence]
    cases (u.entry x).pending <;> simp
  · simp only [hpos, Bool.and_assoc, any_allCauses_eq x fun y => !(u.entry y).pending && mask.getLsbD y.index.val,
      h.attention]
    cases (u.entry x).pending <;> simp

theorem RaisedEach.pending (h : RaisedEach mask n u v) (y : Cause) :
    (v.entry y).pending = (decide (0 < n y) || (u.entry y).pending) := by
  rcases Nat.eq_zero_or_pos (n y) with hn | hn
  · rw [h.others y hn, hn]; rfl
  · rw [h.raised y hn, decide_eq_true hn]; rfl

/-- Raisings after raisings are as many as both together. -/
theorem RaisedEach.trans (h : RaisedEach mask n u v) (g : RaisedEach mask m v w) :
    RaisedEach mask (fun y => n y + m y) u w := by
  have hsplit (y : Cause) : (decide (0 < n y + m y) && !(u.entry y).pending) =
      (decide (0 < n y) && !(u.entry y).pending || decide (0 < m y) && !(v.entry y).pending) := by
    rw [h.pending]
    rcases Nat.eq_zero_or_pos (n y) with hn | hn
    · simp [hn]
    · simp [hn, Nat.add_pos_left hn]
  have hdisjoint (y : Cause) (hy : (decide (0 < n y) && !(u.entry y).pending) = true) :
      (decide (0 < m y) && !(v.entry y).pending) = false := by
    rw [h.pending]
    simp only [Bool.and_eq_true] at hy
    simp [hy.1]
  refine ⟨fun y hy => ?_, fun y hy => ?_, ?_, ?_, g.rollMisses.trans h.rollMisses⟩
  · rcases Nat.eq_zero_or_pos (m y) with hm | hm
    · have hn : 0 < n y := by omega
      rw [g.others y hm, h.raised y hn, hm]
      rfl
    · rw [g.raised y hm, h.pending]
      rcases Nat.eq_zero_or_pos (n y) with hn | hn
      · rw [h.others y hn, hn]; simp
      · rw [h.raised y hn]; simp only [hn, decide_true, Bool.true_or, if_true]; congr 1; omega
  · rw [g.others y (by omega), h.others y (by omega)]
  · simp only [hsplit]
    rw [length_filter_disjoint hdisjoint, g.sequence, h.sequence, BitVec.ofNat_add, BitVec.add_assoc]
  · simp only [hsplit, Bool.and_or_distrib_right]
    rw [g.attention, h.attention, Bool.or_assoc, Bool.eq_iff_iff]
    simp only [Bool.or_eq_true, List.any_eq_true]
    exact or_congr_right (by simp only [← exists_or, ← and_or_left])

theorem RaisedEach.congr (h : RaisedEach mask n u v) (he : ∀ y, m y = n y) : RaisedEach mask m u v :=
  (funext he : m = n) ▸ h

/-- A list of raisings raises each cause as often as it stands there. -/
theorem raisedEach_foldl (mask : BitVec 14) (l : List Cause) (u : CauseUnit) :
    RaisedEach mask (fun y => l.count y) u (l.foldl (fun v c => v.raise mask c) u) := by
  induction l generalizing u with
  | nil => exact raisedEach_none mask u
  | cons c l ih =>
    have hc := (raisedOnce_raise mask c u).each (n := fun y => if y = c then 1 else 0) fun _ => rfl
    refine (hc.trans (ih _)).congr fun y => ?_
    rw [List.count_cons, Nat.add_comm]
    congr 1
    by_cases hy : y = c
    · simp [hy]
    · simp [hy, Ne.symm hy]

theorem raiseTimes_eq (x : Cause) (k : Nat) (s : State) :
    raiseTimes x k s =
      { s with causes := (List.replicate k x).foldl (fun u c => u.raise s.params.causeMask c) s.causes } := by
  induction k generalizing s with
  | zero => rfl
  | succ k ih => rw [raiseTimes, ih]; rfl

/-! ### The causes cleared (R190) -/

/-- The unit with every cause cleared (R190). -/
def CauseUnit.cleared (rollMisses : Nat) : CauseUnit := { CauseUnit.reset with rollMisses := rollMisses }

theorem levelHolds_of_causes (x : Cause) (s : State) (u : CauseUnit) :
    levelHolds x { s with causes := u } = levelHolds x s := by
  cases x <;> rfl

/-- The causes cleared, and each level cause that holds raised again. -/
theorem clearCauses_eq (s : State) :
    clearCauses s =
      { s with
        causes :=
          (levelCauses.filter fun x => levelHolds x s).foldl (fun u c => u.raise s.params.causeMask c)
            (.cleared s.causes.rollMisses) } := by
  have hall (l : List Cause) (u : CauseUnit) :
      l.foldl (fun t c => raiseIf (levelHolds c t) c t) { s with causes := u } =
        { s with
          causes := (l.filter fun x => levelHolds x s).foldl (fun u c => u.raise s.params.causeMask c) u } := by
    induction l generalizing u with
    | nil => rfl
    | cons c l ih =>
      rw [List.foldl_cons, levelHolds_of_causes, List.filter_cons]
      cases levelHolds c s with
      | false => exact ih u
      | true => exact ih _
  exact hall _ _

theorem CauseUnit.entry_cleared (x : Cause) (n : Nat) :
    (CauseUnit.cleared n).entry x = { pending := false, count := 0 } := by
  cases x <;> rfl

/-- The unit once the causes are cleared: each level cause that holds raised once, and no other. -/
structure ClearedFor (s : State) (u : CauseUnit) : Prop where
  entry : ∀ x : Cause,
    u.entry x =
      if x.isLevel = true ∧ levelHolds x s = true then { pending := true, count := 1 }
      else { pending := false, count := 0 }
  sequence : u.sequence = BitVec.ofNat 8 (levelCauses.filter fun x => levelHolds x s).length
  attention : u.attention = true ↔
    ∃ x ∈ levelCauses, levelHolds x s = true ∧ s.params.causeMask.getLsbD x.index.val = true
  rollMisses : u.rollMisses = s.causes.rollMisses

theorem clearCauses_cleared (s : State) : ClearedFor s (clearCauses s).causes := by
  let l := levelCauses.filter fun x => levelHolds x s
  have hr := raisedEach_foldl s.params.causeMask l (.cleared s.causes.rollMisses)
  rw [show l.foldl _ _ = (clearCauses s).causes from (congrArg State.causes (clearCauses_eq s)).symm] at hr
  have hmem (x : Cause) : x ∈ l ↔ x.isLevel = true ∧ levelHolds x s = true := by
    simp [l, Cause.isLevel]
  have hnodup : l.Nodup := List.Nodup.filter _ (by decide)
  have hcount (x : Cause) : l.count x = if x.isLevel = true ∧ levelHolds x s = true then 1 else 0 := by
    rw [← if_congr (hmem x) rfl rfl]
    exact List.Nodup.count hnodup
  refine ⟨fun x => ?_, ?_, ?_, hr.rollMisses⟩
  · by_cases hx : x.isLevel = true ∧ levelHolds x s = true
    · rw [hr.raised x (by rw [hcount, if_pos hx]; decide), hcount, if_pos hx, if_pos hx, CauseUnit.entry_cleared]
      rfl
    · rw [hr.others x (by rw [hcount, if_neg hx]), if_neg hx, CauseUnit.entry_cleared]
  · rw [hr.sequence]
    have hlevel : levelCauses = allCauses.filter Cause.isLevel := by decide
    have hfilter : (allCauses.filter fun x => decide (0 < l.count x) &&
        !((CauseUnit.cleared s.causes.rollMisses).entry x).pending) =
        levelCauses.filter fun x => levelHolds x s := by
      rw [hlevel, List.filter_filter]
      refine List.filter_congr fun x _ => ?_
      rw [CauseUnit.entry_cleared, hcount]
      cases x.isLevel <;> cases levelHolds x s <;> rfl
    rw [hfilter]
    simp [CauseUnit.cleared, CauseUnit.reset]
  · rw [hr.attention]
    have ha : (CauseUnit.cleared s.causes.rollMisses).attention = false := rfl
    simp only [CauseUnit.entry_cleared, ha, Bool.false_or, Bool.not_false, Bool.and_true, List.any_eq_true,
      Bool.and_eq_true, decide_eq_true_eq, List.count_pos_iff, hmem]
    constructor
    · rintro ⟨x, -, ⟨hx, hh⟩, hm⟩
      exact ⟨x, by simpa [Cause.isLevel] using hx, hh, hm⟩
    · rintro ⟨x, hx, hh, hm⟩
      exact ⟨x, Cause.mem_all x, ⟨by simpa [Cause.isLevel] using hx, hh⟩, hm⟩

theorem clearCauses_eq_causes (s : State) : clearCauses s = { s with causes := (clearCauses s).causes } := by
  rw [clearCauses_eq]

/-- A request at the own address, answered where the M-bound queue still has room (R155). -/
theorem serve_own_answer {s t : State} {own : Byte} {payload : List Byte} (h : Consumes s own payload) {fn src : Byte}
    {handed : Bool} {act : List Byte → State → Served} {r : Result} {data : List Byte}
    (ha : act payload s.asked = { state := t, result := r, data := data }) (ht : t.relay.mBound = s.relay.mBound) :
    receiveAt .m payload (serveRequest fn handed act own src payload) s = t.answer own fn r data := by
  rw [serve_own h, ha]
  exact joinReply_of_room _ (ht ▸ h.room)

/-- Settles O44: the counters are cleared, then the causes, with each level cause that holds raised again. -/
theorem deviceClear : Obligations.DeviceClear := by
  intro s own src payload h
  have hlevel (x : Cause) : levelHolds x (clearCounters s.asked) = levelHolds x s :=
    levelHolds_congr (congrArg LineControl.lineMode s.asked_line) (congrArg LotTracker.mismatch s.asked_lots)
      (fun k => congrArg Crusher.state (s.asked_crusher k)) (fun k => congrArg Crusher.due (s.asked_crusher k)) x
  have hmask : (clearCounters s.asked).params = s.params := s.asked_params
  obtain ⟨hentry, hsequence, hattention, hroll⟩ := clearCauses_cleared (clearCounters s.asked)
  simp only [hlevel, hmask] at hentry hsequence hattention
  refine ⟨(clearCauses (clearCounters s.asked)).causes, ?_, hroll, hentry, hsequence, hattention⟩
  have hrelay : (clearCauses (clearCounters s.asked)).relay.mBound = s.relay.mBound := by
    simp [clearCounters]
  refine congrArg Host.Outcome.next ((serve_own_answer h (act := deviceClearAct) rfl hrelay).trans ?_)
  rw [clearCauses_eq_causes]
  simp only [clearCounters, State.asked_tracker, State.asked_lots, State.asked_line, State.asked_relay,
    State.asked_portF, Port.clearCounters, Rewriter.reset, State.asked_causes]

end Sys2Proof.Machine
end

section
/-!
PROOF. What an operation over the four crushers, or over actors in a free order, does to one of them.
-/

namespace Sys2Proof.Machine

/-- Two states that agree in every field are one. -/
theorem State.ext_fields {s t : State}
    (h : s.straps = t.straps ∧ s.pins = t.pins ∧ s.portM = t.portM ∧ s.portF = t.portF ∧
      s.breakPending = t.breakPending ∧ s.relay = t.relay ∧ s.tracker = t.tracker ∧ s.activeTable = t.activeTable ∧
      s.stagedTable = t.stagedTable ∧ s.store = t.store ∧ s.shortFields = t.shortFields ∧ s.badFields = t.badFields ∧
      s.activeCurves = t.activeCurves ∧ s.stagedCurves = t.stagedCurves ∧ s.crushers = t.crushers ∧
      s.feeders = t.feeders ∧ s.lots = t.lots ∧ s.line = t.line ∧ s.rewriter = t.rewriter ∧ s.handler = t.handler ∧
      s.causes = t.causes ∧ s.freeCount = t.freeCount ∧ s.pending = t.pending) : s = t := by
  cases s
  cases t
  simpa only [State.mk.injEq] using h

/-! ### What one actor of several does -/

/-- Actors of which one alone changes a part, in a way that what they all keep decides: the part is changed once,
whatever the place of that one among them. -/
theorem foldl_once {α β : Type} (P : State → Prop) (f : State → β) (G : β → β) {act : State → α → State} {l : List α}
    {a : α} (hl : l.Nodup) (ha : a ∈ l) (hP : ∀ x ∈ l, ∀ t, P t → P (act t x))
    (hown : ∀ t, P t → f (act t a) = G (f t)) (hother : ∀ x ∈ l, ∀ t, P t → x ≠ a → f (act t x) = f t) {s : State}
    (h0 : P s) : f (l.foldl act s) = G (f s) := by
  induction l generalizing s with
  | nil => cases ha
  | cons b l ih =>
    obtain ⟨hb, hl⟩ := List.nodup_cons.1 hl
    have hrest (x : α) (hx : x ∈ l) := List.mem_cons_of_mem b hx
    have h1 := hP b List.mem_cons_self s h0
    rw [List.foldl_cons]
    rcases List.mem_cons.1 ha with rfl | hmem
    · have hkeep : ∀ l' ⊆ l, ∀ u, P u → f (l'.foldl act u) = f u := by
        intro l' hsub
        induction l' with
        | nil => exact fun _ _ => rfl
        | cons c l' ih' =>
          intro u hu
          have hc : c ∈ l := hsub List.mem_cons_self
          rw [List.foldl_cons, ih' (fun x hx => hsub (List.mem_cons_of_mem c hx)) _ (hP c (hrest c hc) u hu),
            hother c (hrest c hc) u hu fun hca => hb (hca ▸ hc)]
      rw [hkeep l (List.Subset.refl l) _ h1, hown s h0]
    · rw [ih hl hmem (fun x hx => hP x (hrest x hx)) (fun x hx => hother x (hrest x hx)) h1,
        hother b List.mem_cons_self s h0 fun hba => hb (hba ▸ hmem)]

theorem forFour_once {β γ : Type} (f : State → β) (e : State → γ) (G : γ → β → β) {act : Fin 4 → State → State}
    {k : Fin 4} (he : ∀ j t, e (act j t) = e t) (hown : ∀ t, f (act k t) = G (e t) (f t))
    (hother : ∀ j t, j ≠ k → f (act j t) = f t) (s : State) : f (forFour act s) = G (e s) (f s) :=
  foldl_once (fun t => e t = e s) f (G (e s)) (List.nodup_finRange 4) (mem_four k) (fun j _ t ht => (he j t).trans ht)
    (fun t ht => by rw [hown, ht]) (fun j _ t _ => hother j t) rfl

theorem inFreeOrder_once {α β : Type} (P : State → Prop) (f : State → β) (G : β → β) {actors : List α}
    {act : α → State → State} {a : α} (hl : actors.Nodup) (ha : a ∈ actors)
    (hP : ∀ x ∈ actors, ∀ t, P t → P (act x t)) (hown : ∀ t, P t → f (act a t) = G (f t))
    (hother : ∀ x ∈ actors, ∀ t, P t → x ≠ a → f (act x t) = f t) {s : State}
    (h0 : P { s with freeCount := s.freeCount + 1 }) (hf : f { s with freeCount := s.freeCount + 1 } = f s) :
    f (inFreeOrder actors act s) = G (f s) := by
  have hp := shuffle_perm (Config.freeOrder s.freeCount) actors
  unfold inFreeOrder
  rw [foldl_once P f G (hp.nodup_iff.2 hl) (hp.mem_iff.2 ha) (fun x hx => hP x (hp.mem_iff.1 hx)) hown
    (fun x hx => hother x (hp.mem_iff.1 hx)) h0, hf]

/-! ### One crusher and its feeder -/

/-- A feeder at 0, its drive value with it (R81, R93). -/
def Feeder.zeroed (tab : Vector Entry 32) (j : Fin 4) (f : Feeder) : Feeder :=
  { f with output := 0, driveValue := driveValueOf tab j 0 }

theorem State.feeder_zeroFeeder (s : State) (i j : Fin 4) :
    (zeroFeeder i s).feeder j = if i = j then (s.feeder i).zeroed s.activeTable i else s.feeder j :=
  State.feeder_setFeeder s i j _

/-- A change of a crusher's context zeroes its feeder where it leaves the run states (R92). -/
theorem State.feeder_changeCrusher (s : State) (k j : Fin 4) (ch : Change) :
    (changeCrusher k ch s).feeder j =
      if k = j ∧ ((s.crusher k).state.isRun && !ch.crusher.state.isRun) = true then
        (s.feeder k).zeroed s.activeTable k
      else s.feeder j := by
  rw [changeCrusher_eq]
  by_cases hz : ((s.crusher k).state.isRun && !ch.crusher.state.isRun) = true
  · have hf : feedersAfter s k ch.crusher = (s.setFeeder k ((s.feeder k).zeroed s.activeTable k)).feeders := if_pos hz
    rw [hf]
    simp only [hz, and_true]
    exact State.feeder_setFeeder s k j _
  · have hf : feedersAfter s k ch.crusher = s.feeders := if_neg hz
    rw [hf, if_neg fun h => hz h.2]
    rfl

/-- Each of the four contexts changes by itself. -/
theorem crusher_forFour {act : Fin 4 → State → State} (ch : Vector Entry 32 → Fin 4 → Crusher → Change)
    (h : ∀ k t, act k t = changeCrusher k (ch t.activeTable k (t.crusher k)) t) (s : State) (k : Fin 4) :
    (forFour act s).crusher k = (ch s.activeTable k (s.crusher k)).crusher :=
  forFour_once (fun t => t.crusher k) State.activeTable (fun tab x => (ch tab k x).crusher)
    (act := act) (k := k) (fun j t => by rw [h]; simp) (fun t => by rw [h]; simp) (fun j t hj => by rw [h]; simp [hj]) s

/-- Each of the four feeders is zeroed where its crusher's context leaves the run states. -/
theorem feeder_forFour {act : Fin 4 → State → State} (ch : Vector Entry 32 → Fin 4 → Crusher → Change)
    (h : ∀ k t, act k t = changeCrusher k (ch t.activeTable k (t.crusher k)) t) (s : State) (k : Fin 4) :
    (forFour act s).feeder k =
      if ((s.crusher k).state.isRun && !(ch s.activeTable k (s.crusher k)).crusher.state.isRun) = true then
        (s.feeder k).zeroed s.activeTable k
      else s.feeder k := by
  have hboth := forFour_once (fun t => (t.crusher k, t.feeder k)) State.activeTable
    (fun tab x => ((ch tab k x.1).crusher,
      if (x.1.state.isRun && !(ch tab k x.1).crusher.state.isRun) = true then x.2.zeroed tab k else x.2))
    (act := act) (k := k) (fun j t => by rw [h]; simp)
    (fun t => by rw [h]; simp [State.feeder_changeCrusher])
    (fun j t hj => by rw [h]; simp [State.feeder_changeCrusher, hj]) s
  exact congrArg Prod.snd hboth

theorem crusher_signalCrushers (s : State) (k : Fin 4) :
    (signalCrushers s).crusher k = standDown (governed s.activeTable k) (s.crusher k) :=
  crusher_forFour (fun tab k x => quiet (standDown (governed tab k) x)) (fun _ _ => rfl) s k

theorem crusher_restartCrushers (s : State) (k : Fin 4) :
    (restartCrushers s).crusher k = restartCrusher (governed s.activeTable k) (s.crusher k) :=
  crusher_forFour (fun tab k x => quiet (restartCrusher (governed tab k) x)) (fun _ _ => rfl) s k

theorem crusher_cycleCrushers (s : State) (k : Fin 4) :
    (cycleCrushers s).crusher k = (cycleCrusher (governed s.activeTable k) (s.crusher k)).crusher :=
  crusher_forFour (fun tab k x => cycleCrusher (governed tab k) x) (fun _ _ => rfl) s k

/-- Signalled crushers zero their feeders as they leave the run states (R45, R92). -/
theorem feeder_signalCrushers (s : State) (j : Fin 4) :
    (signalCrushers s).feeder j =
      if ((s.crusher j).state.isRun && !(standDown (governed s.activeTable j) (s.crusher j)).state.isRun) = true then
        (s.feeder j).zeroed s.activeTable j
      else s.feeder j :=
  feeder_forFour (fun tab k x => quiet (standDown (governed tab k) x)) (fun _ _ => rfl) s j

theorem feeder_restartCrushers (s : State) (j : Fin 4) :
    (restartCrushers s).feeder j =
      if ((s.crusher j).state.isRun &&
          !(restartCrusher (governed s.activeTable j) (s.crusher j)).state.isRun) = true then
        (s.feeder j).zeroed s.activeTable j
      else s.feeder j :=
  feeder_forFour (fun tab k x => quiet (restartCrusher (governed tab k) x)) (fun _ _ => rfl) s j

theorem feeder_cycleCrushers (s : State) (j : Fin 4) :
    (cycleCrushers s).feeder j =
      if ((s.crusher j).state.isRun &&
          !(cycleCrusher (governed s.activeTable j) (s.crusher j)).crusher.state.isRun) = true then
        (s.feeder j).zeroed s.activeTable j
      else s.feeder j :=
  feeder_forFour (fun tab k x => cycleCrusher (governed tab k) x) (fun _ _ => rfl) s j

theorem feeder_zeroFeeders (s : State) (j : Fin 4) :
    (zeroFeeders s).feeder j = (s.feeder j).zeroed s.activeTable j :=
  forFour_once (fun t => t.feeder j) State.activeTable (fun tab x => x.zeroed tab j) (fun i t => by simp)
    (fun t => by rw [State.feeder_zeroFeeder, if_pos rfl])
    (fun i t hi => by rw [State.feeder_zeroFeeder, if_neg hi]) s

/-! ### A change of line mode (R131) -/

theorem State.crusher_congr {s t : State} (h : t.crushers = s.crushers) (k : Fin 4) : t.crusher k = s.crusher k := by
  simp only [State.crusher, h]

theorem State.feeder_congr {s t : State} (h : t.feeders = s.feeders) (j : Fin 4) : t.feeder j = s.feeder j := by
  simp only [State.feeder, h]

@[simp] theorem crusher_raiseIf (b : Bool) (x : Cause) (s : State) (k : Fin 4) :
    (raiseIf b x s).crusher k = s.crusher k :=
  State.crusher_congr (by simp) k

@[simp] theorem crusher_settleLevel (x : Cause) (s : State) (k : Fin 4) : (settleLevel x s).crusher k = s.crusher k :=
  State.crusher_congr (by simp) k

@[simp] theorem crusher_zeroFeeders (s : State) (k : Fin 4) : (zeroFeeders s).crusher k = s.crusher k :=
  State.crusher_congr (by simp) k

@[simp] theorem feeder_raiseIf (b : Bool) (x : Cause) (s : State) (j : Fin 4) :
    (raiseIf b x s).feeder j = s.feeder j :=
  State.feeder_congr (by simp) j

@[simp] theorem feeder_settleLevel (x : Cause) (s : State) (j : Fin 4) : (settleLevel x s).feeder j = s.feeder j :=
  State.feeder_congr (by simp) j

theorem changeMode_line (mode : LineMode) (s : State) :
    (changeMode mode s).line = { s.line with lineMode := mode } ∧
      (changeMode mode s).pins = { s.pins with tripOut := mode == .tripped } := by
  unfold changeMode
  dsimp only
  split <;> split <;> simp

/-- A state with only its line mode and the TRIP_OUT pin changed has the crushers and feeders it had. -/
theorem crusher_withMode (s : State) (x : LineControl) (p : Pins) (k : Fin 4) :
    State.crusher { s with line := x, pins := p } k = s.crusher k := rfl

theorem feeder_withMode (s : State) (x : LineControl) (p : Pins) (j : Fin 4) :
    State.feeder { s with line := x, pins := p } j = s.feeder j := rfl

theorem crusher_changeMode (mode : LineMode) (s : State) (k : Fin 4) :
    (changeMode mode s).crusher k =
      if signalsCrushers s.line.lineMode mode then standDown (governed s.activeTable k) (s.crusher k)
      else s.crusher k := by
  unfold changeMode
  dsimp only
  rw [crusher_settleLevel, crusher_raiseIf]
  split <;> split <;> simp [crusher_signalCrushers, crusher_withMode]

/-- A feeder at a change of mode: zeroed with every feeder, or by its crusher as that stands down (R92, R93). -/
theorem feeder_changeMode (mode : LineMode) (s : State) (j : Fin 4) :
    (changeMode mode s).feeder j =
      if (zeroesFeeders s.line.lineMode mode ||
          signalsCrushers s.line.lineMode mode && ((s.crusher j).state.isRun &&
            !(standDown (governed s.activeTable j) (s.crusher j)).state.isRun)) = true then
        (s.feeder j).zeroed s.activeTable j
      else s.feeder j := by
  have htwice (f : Feeder) : (f.zeroed s.activeTable j).zeroed s.activeTable j = f.zeroed s.activeTable j := rfl
  unfold changeMode
  dsimp only
  rw [feeder_settleLevel, feeder_raiseIf]
  cases hs : signalsCrushers s.line.lineMode mode <;> cases hz : zeroesFeeders s.line.lineMode mode <;>
    simp only [Bool.false_eq_true, if_false, if_true, feeder_signalCrushers, feeder_zeroFeeders, zeroFeeders_frame,
      crusher_zeroFeeders, crusher_withMode, feeder_withMode, htwice, ite_self, Bool.true_or, Bool.false_or,
      Bool.false_and, Bool.true_and]
  rfl

end Sys2Proof.Machine
end

section
/-!
PROOF. WARM_RESTART (O45): what the part is once every block has taken it.
-/

namespace Sys2Proof.Machine

/-- The part at warm restart with every block but the controller and the cause unit restarted (R36, R63, R100, R126). -/
def restartedBlocks (s : State) : State :=
  restartLots (zeroFeeders (restartCrushers (staleAll (restartTracker (endSession .restart s)))))

theorem warmRestart_eq (s : State) : warmRestart s = clearCauses (lineRestart (restartedBlocks s)) := rfl

theorem Record.lapsed_eq (rec : Record) : rec.staled.unbased = rec.lapsed := by
  unfold Record.unbased Record.lapsed
  cases h : rec.value <;> simp_all [Record.staled]

/-- A context that has restarted is in STANDBY or ABSENT, and stands down no further. -/
theorem standDown_restartCrusher (g governed : Bool) (x : Crusher) :
    standDown g (restartCrusher governed x) = restartCrusher governed x := by
  unfold standDown restartCrusher
  dsimp only
  by_cases h : x.state = .absent <;> simp [h, CrusherState.isEnabled]

theorem restartedBlocks_frame (s : State) :
    (restartedBlocks s).straps = s.straps ∧ (restartedBlocks s).portM = s.portM ∧
      (restartedBlocks s).portF = s.portF ∧ (restartedBlocks s).breakPending = s.breakPending ∧
      (restartedBlocks s).relay = s.relay ∧ (restartedBlocks s).activeTable = s.activeTable ∧
      (restartedBlocks s).line = s.line ∧ (restartedBlocks s).params = s.params ∧
      (restartedBlocks s).handler = (endSession .restart s).handler ∧
      (restartedBlocks s).lots = { s.lots with mismatchCount := 0, mismatch := false } ∧
      (restartedBlocks s).pins = { s.pins with lock := false } ∧
      (restartedBlocks s).tracker =
        { s.tracker with
          lockState := .search, runCount := 0, expected := none, supervision := none, slipRun := 0 } := by
  simp [restartedBlocks, restartLots, restartTracker, State.params]

theorem crusher_restartedBlocks (s : State) (k : Fin 4) :
    (restartedBlocks s).crusher k = restartCrusher (governed s.activeTable k) (s.crusher k) := by
  have h : (restartedBlocks s).crusher k =
      (restartCrushers (staleAll (restartTracker (endSession .restart s)))).crusher k :=
    State.crusher_congr (by simp [restartedBlocks, restartLots]) k
  rw [h, crusher_restartCrushers]
  simp [restartTracker, State.crusher]

theorem feeder_restartedBlocks (s : State) (j : Fin 4) :
    (restartedBlocks s).feeder j = (s.feeder j).zeroed s.activeTable j := by
  have h : (restartedBlocks s).feeder j =
      (zeroFeeders (restartCrushers (staleAll (restartTracker (endSession .restart s))))).feeder j :=
    State.feeder_congr (by simp only [restartedBlocks, restartLots]) j
  have hf : (staleAll (restartTracker (endSession .restart s))).feeder j = s.feeder j :=
    State.feeder_congr (by simp [restartTracker]) j
  have ht : (staleAll (restartTracker (endSession .restart s))).activeTable = s.activeTable := by simp [restartTracker]
  have hc : (restartCrushers (staleAll (restartTracker (endSession .restart s)))).activeTable = s.activeTable := by
    simp [restartTracker]
  rw [h, feeder_zeroFeeders, feeder_restartCrushers, hf, hc, ht]
  split <;> rfl

theorem store_restartedBlocks (s : State) (i : Fin 32) :
    (restartedBlocks s).store[i] = s.store[i].map Record.lapsed := by
  have h : (restartedBlocks s).store = (staleAll s).store := by
    simp [restartedBlocks, restartLots, restartTracker, staleAll]
  rw [h]
  simp [staleAll, Record.lapsed_eq]

/-! ### The controller over settled blocks (R144) -/

/-- No crusher has anything to stand down from, and every feeder is at 0. -/
structure Settled (s : State) : Prop where
  crusher : ∀ (k : Fin 4) (g : Bool), standDown g (s.crusher k) = s.crusher k
  feeder : ∀ j : Fin 4, (s.feeder j).zeroed s.activeTable j = s.feeder j

/-- What crushers, feeders and the roll-call counter are stays. -/
structure SamePlant (s t : State) : Prop where
  crusher : ∀ k : Fin 4, t.crusher k = s.crusher k
  feeder : ∀ j : Fin 4, t.feeder j = s.feeder j
  table : t.activeTable = s.activeTable
  rollMisses : t.causes.rollMisses = s.causes.rollMisses

theorem SamePlant.trans {s t u : State} (h : SamePlant s t) (g : SamePlant t u) : SamePlant s u :=
  ⟨fun k => (g.crusher k).trans (h.crusher k), fun j => (g.feeder j).trans (h.feeder j), g.table.trans h.table,
    g.rollMisses.trans h.rollMisses⟩

theorem Settled.same {s t : State} (h : Settled s) (g : SamePlant s t) : Settled t :=
  ⟨fun k b => by rw [g.crusher]; exact h.crusher k b, fun j => by rw [g.feeder, g.table]; exact h.feeder j⟩

theorem rollMisses_changeCrusher (k : Fin 4) (ch : Change) (s : State) :
    (changeCrusher k ch s).causes.rollMisses = s.causes.rollMisses := by
  have hfold (l : List Cause) (u : CauseUnit) (mask : BitVec 14) :
      (l.foldl (fun u c => u.raise mask c) u).rollMisses = u.rollMisses :=
    (raisedEach_foldl mask l u).rollMisses
  rw [changeCrusher_eq]
  simp only [causesAfter, apply_ite CauseUnit.rollMisses, CauseUnit.rollMisses_cease, CauseUnit.rollMisses_raise, hfold,
    ite_self]

theorem rollMisses_changeMode (mode : LineMode) (s : State) :
    (changeMode mode s).causes.rollMisses = s.causes.rollMisses := by
  have hsignal (t : State) : (signalCrushers t).causes.rollMisses = t.causes.rollMisses := by
    unfold signalCrushers
    exact forFour_keeps (fun u => u.causes.rollMisses) (fun k u => rollMisses_changeCrusher k _ u) t
  have hzero (t : State) : (zeroFeeders t).causes.rollMisses = t.causes.rollMisses :=
    congrArg CauseUnit.rollMisses (by simp)
  have hsettle (x : Cause) (t : State) : (settleLevel x t).causes.rollMisses = t.causes.rollMisses := by
    rw [settleLevel_eq]
    simp only [apply_ite CauseUnit.rollMisses, CauseUnit.rollMisses_cease, ite_self]
  have hraise (b : Bool) (x : Cause) (t : State) : (raiseIf b x t).causes.rollMisses = t.causes.rollMisses := by
    rw [raiseIf_eq]
    simp only [apply_ite CauseUnit.rollMisses, CauseUnit.rollMisses_raise, ite_self]
  unfold changeMode
  dsimp only
  rw [hsettle, hraise]
  cases signalsCrushers s.line.lineMode mode <;> cases zeroesFeeders s.line.lineMode mode <;>
    simp only [Bool.false_eq_true, if_false, if_true, hsignal, hzero]

theorem Settled.changeMode {s : State} (h : Settled s) (mode : LineMode) : SamePlant s (changeMode mode s) :=
  ⟨fun k => by rw [crusher_changeMode, h.crusher, ite_self], fun j => by rw [feeder_changeMode, h.feeder, ite_self],
    by simp, rollMisses_changeMode mode s⟩

theorem SamePlant.discardStop (how : StopEnd) (s : State) : SamePlant s (discardStop how s) := by
  unfold Machine.discardStop
  split <;> exact ⟨fun _ => rfl, fun _ => rfl, rfl, rfl⟩

theorem Settled.takeTripInputs {s : State} (h : Settled s) (a : TripInputs) : SamePlant s (takeTripInputs a s) := by
  unfold Machine.takeTripInputs
  split
  · split
    · exact ⟨fun _ => rfl, fun _ => rfl, rfl, rfl⟩
    · have hd := SamePlant.discardStop .tripped s
      have hl (x : LineControl) : SamePlant s { Machine.discardStop .tripped s with line := x } :=
        ⟨hd.crusher, hd.feeder, hd.table, hd.rollMisses⟩
      exact (hl _).trans ((h.same (hl _)).changeMode .tripped)
  · exact ⟨fun _ => rfl, fun _ => rfl, rfl, rfl⟩

theorem Settled.lineRestart {s : State} (h : Settled s) : SamePlant s (lineRestart s) := by
  unfold Machine.lineRestart
  dsimp only
  split
  · exact h.takeTripInputs _
  · have hd := SamePlant.discardStop .restart s
    have hm := hd.trans ((h.same hd).changeMode .idle)
    exact hm.trans ((h.same hm).takeTripInputs _)

theorem pinInput_any (s : State) : (pinInput s).any = s.pins.tripInLow := by
  simp [pinInput, TripInputs.any, TripInputs.none]

/-- What the controller becomes at a warm restart, from the modes and records that go together (R144). -/
def restartedLine (x : LineControl) (low : Bool) (now : Long) : LineControl :=
  let wasTripped := decide (x.lineMode = .tripped)
  { lineMode := if wasTripped || low then .tripped else .idle
    stopRec := none
    lastStopEnd := if x.stopRec.isSome then .restart else x.lastStopEnd
    tripRec :=
      if wasTripped then
        x.tripRec.map fun (r : TripRec) => { r with inputs := { r.inputs with pin := r.inputs.pin || low } }
      else if low then
        some
          { fromMode := .idle, entryCycle := now
            inputs := { pin := true, unitLine := false, unitStale := false, lines := 0 } }
      else none
    tripEntries := if !wasTripped && low then min 65535 (x.tripEntries + 1) else x.tripEntries }

theorem line_lineRestart {s : State} (hstop : s.line.stopRec.isSome = (s.line.lineMode == .stopping))
    (htrip : s.line.tripRec.isSome = (s.line.lineMode == .tripped))
    (hout : s.pins.tripOut = (s.line.lineMode == .tripped)) :
    (lineRestart s).line = restartedLine s.line s.pins.tripInLow s.tracker.cycleCount ∧
      (lineRestart s).pins =
        { s.pins with tripOut := decide (s.line.lineMode = .tripped) || s.pins.tripInLow } := by
  unfold lineRestart
  dsimp only
  by_cases ht : s.line.lineMode = .tripped
  · rw [if_pos ht]
    have hs : s.line.stopRec = none := by
      rw [ht] at hstop
      exact Option.isSome_eq_false_iff.1 hstop |> Option.isNone_iff_eq_none.1
    have ho : s.pins.tripOut = true := by rw [hout, ht]; rfl
    unfold takeTripInputs
    rw [pinInput_any]
    cases hlow : s.pins.tripInLow with
    | false =>
      rw [if_neg (by decide)]
      refine ⟨?_, ?_⟩
      · cases hx : s.line
        simp_all [restartedLine]
      · cases hx : s.pins
        simp_all
    | true =>
      rw [if_pos rfl, if_pos ht]
      refine ⟨?_, ?_⟩
      · simp [restartedLine, ht, hs, addTripInputs, pinInput, TripInputs.union, TripInputs.none, hlow]
      · cases hx : s.pins
        simp_all [addTripInputs]
  · rw [if_neg ht]
    have hr : s.line.tripRec = none := by
      rw [beq_eq_false_iff_ne.2 ht] at htrip
      exact Option.isNone_iff_eq_none.1 (Option.isSome_eq_false_iff.1 htrip)
    have hd : (discardStop .restart s).line =
        { s.line with
          stopRec := none
          lastStopEnd := if s.line.stopRec.isSome then .restart else s.line.lastStopEnd } := by
      unfold discardStop
      cases hx : s.line
      split <;> simp_all
    obtain ⟨hl, hp⟩ := changeMode_line .idle (discardStop .restart s)
    have hn : (changeMode .idle (discardStop .restart s)).tracker = s.tracker := by simp
    have hq : (discardStop .restart s).pins = s.pins := by simp
    generalize changeMode .idle (discardStop .restart s) = u at hl hp hn
    rw [hd] at hl
    rw [hq] at hp
    have hpin : u.pins.tripInLow = s.pins.tripInLow := by rw [hp]
    have hmode : u.line.lineMode = .idle := by rw [hl]
    have hstop : u.line.stopRec = none := by rw [hl]
    unfold takeTripInputs
    rw [pinInput_any, hpin]
    cases hlow : s.pins.tripInLow with
    | false =>
      rw [if_neg (by decide), hl, hp]
      simp [restartedLine, ht, hr, hlow]
    | true =>
      rw [if_pos rfl, if_neg (by rw [hmode]; decide)]
      have hdiscard : discardStop .tripped u = u := by unfold discardStop; rw [hstop]; rfl
      unfold enterTripped
      rw [hdiscard]
      dsimp only
      refine ⟨(changeMode_line .tripped _).1.trans ?_, (changeMode_line .tripped _).2.trans ?_⟩
      · simp [restartedLine, ht, hn, hl, pinInput, TripInputs.none, hpin, hlow, countUp]
      · simp [hp, ht, hlow]

/-! ### The whole part (R178) -/

theorem settled_restartedBlocks (s : State) : Settled (restartedBlocks s) := by
  refine ⟨fun k g => ?_, fun j => ?_⟩
  · rw [crusher_restartedBlocks]; exact standDown_restartCrusher g _ _
  · have ht : (restartedBlocks s).activeTable = s.activeTable := (restartedBlocks_frame s).2.2.2.2.2.1
    rw [feeder_restartedBlocks, ht]
    rfl

theorem rollMisses_restartedBlocks (s : State) : (restartedBlocks s).causes.rollMisses = s.causes.rollMisses := by
  have hrestart (t : State) : (restartCrushers t).causes.rollMisses = t.causes.rollMisses := by
    unfold restartCrushers
    exact forFour_keeps (fun u => u.causes.rollMisses) (fun k u => rollMisses_changeCrusher k _ u) t
  have h : (restartedBlocks s).causes =
      (restartCrushers (staleAll (restartTracker (endSession .restart s)))).causes := by
    simp [restartedBlocks, restartLots]
  rw [h, hrestart]
  simp [restartTracker]

/-- The level causes that hold once every block has restarted: TRIP in TRIPPED, and LINER_DUE (R190). -/
theorem levelHolds_lineRestart {s : State} (hs : ∀ k, (s.crusher k).state ≠ .fault) (hset : Settled s)
    (hm : s.lots.mismatch = false) (x : Cause) :
    levelHolds x (lineRestart s) = true ↔
      (x = .trip ∧ (lineRestart s).line.lineMode = .tripped) ∨ (x = .linerDue ∧ ∃ k, (s.crusher k).due = true) := by
  have hsame := hset.lineRestart
  cases x with
  | trip => simp [levelHolds]
  | crusherFault => simp [levelHolds_crusherFault, hsame.crusher, hs]
  | linerDue => simp [levelHolds_linerDue, hsame.crusher]
  | diverterMismatch => simp [levelHolds, hm]
  | _ => simp [levelHolds]

/-- Settles O45: each block restarts by its own rule, the controller last, and the causes are cleared over the
result. -/
theorem warmRestart_blocks : Obligations.WarmRestart := by
  intro s own src payload hline h
  have hframe := restartedBlocks_frame s.asked
  have hset := settled_restartedBlocks s.asked
  have hcrusher := crusher_restartedBlocks s.asked
  have hfeeder := feeder_restartedBlocks s.asked
  have hstore := store_restartedBlocks s.asked
  have hroll := rollMisses_restartedBlocks s.asked
  have hwarm := warmRestart_eq s.asked
  generalize restartedBlocks s.asked = u at hframe hset hcrusher hfeeder hstore hroll hwarm
  obtain ⟨-, -, -, -, -, htable, hl, hparams, hhandler, hlots, hpins, htracker⟩ := hframe
  rw [endSession_of_none _ (State.asked_session s)] at hhandler
  simp only [State.asked_line, State.asked_pins, State.asked_lots, State.asked_tracker, State.asked_activeTable,
    State.asked_crusher, State.asked_feeder, State.asked_store, State.asked_causes, State.asked_params]
    at hl hpins hlots htracker htable hcrusher hfeeder hstore hroll hparams
  have hsame := hset.lineRestart
  obtain ⟨hline2, hpins2⟩ := line_lineRestart (s := u) (by rw [hl]; exact hline.stop) (by rw [hl]; exact hline.trip)
    (by rw [hpins, hl]; exact hline.tripOut)
  have hcleared := clearCauses_cleared (lineRestart u)
  refine ⟨warmRestart s.asked, ?_, State.ext_fields ?_, fun i => ?_, fun j => ?_, fun k => ?_, ?_⟩
  · have hact : warmRestartAct payload s.asked = { state := warmRestart s.asked, result := .done, data := [] } := by
      simp only [warmRestartAct, answered]
    have hroom : (warmRestart s.asked).relay.mBound = s.relay.mBound := by simp
    show Host.Outcome.next (receiveAt .m payload (serveRequest 0x14 true warmRestartAct own src payload) s) = _
    rw [serve_own_answer h hact hroom]
  · refine ⟨by simp, ?_, by simp, by simp, by simp, by simp, ?_, by simp, by simp, by dsimp only, by simp, by simp,
      by simp, by simp, by dsimp only, by dsimp only, ?_, ?_, by simp, ?_, by dsimp only, by simp, by simp⟩ <;>
      rw [hwarm]
    · simp [hpins2, hl, hpins]
    · simp [htracker]
    · simp [hlots]
    · simp only [clearCauses_frame, hline2, hl, hpins, htracker]
      rfl
    · simp [hhandler]
  · rw [hwarm]
    simpa using hstore i
  · rw [hwarm]
    have hc : (clearCauses (lineRestart u)).feeder j = (lineRestart u).feeder j := State.feeder_congr (by simp) j
    rw [hc, hsame.feeder, hfeeder]
    rfl
  · rw [hwarm]
    have hc : (clearCauses (lineRestart u)).crusher k = (lineRestart u).crusher k := State.crusher_congr (by simp) k
    rw [hc, hsame.crusher, hcrusher]
    unfold restartCrusher
    by_cases ho : (s.crusher k).state ≠ .absent ∧ governed s.activeTable k = false
    · simp only [if_pos ho, Crusher.holdCommand]
      rfl
    · simp only [if_neg ho, Crusher.stopCommand]
      rfl
  · have hfault (k : Fin 4) : (u.crusher k).state ≠ .fault := by
      rw [hcrusher]
      unfold restartCrusher
      dsimp only
      split <;> decide
    have hmode : ((lineRestart u).line.lineMode = .tripped) ↔
        (decide (s.line.lineMode = .tripped) || s.pins.tripInLow) = true := by
      rw [hline2, hl, hpins]
      unfold restartedLine
      dsimp only
      split <;> simp_all
    have hdue (k : Fin 4) : (u.crusher k).due = true ↔ (s.crusher k).isDue := by
      rw [hcrusher, Crusher.due_iff]
      rfl
    have hlevel (x : Cause) := levelHolds_lineRestart hfault hset (by rw [hlots]) x
    simp only [hmode, hdue] at hlevel
    rw [hwarm]
    have htrip : levelHolds .trip (lineRestart u) = (decide (s.line.lineMode = .tripped) || s.pins.tripInLow) := by
      rw [Bool.eq_iff_iff, hlevel]; simp
    have hnofault : levelHolds .crusherFault (lineRestart u) = false := by rw [← Bool.not_eq_true, hlevel]; simp
    have hnomismatch : levelHolds .diverterMismatch (lineRestart u) = false := by rw [← Bool.not_eq_true, hlevel]; simp
    have hliner : levelHolds .linerDue (lineRestart u) = decide (∃ k, (s.crusher k).isDue) := by
      rw [Bool.eq_iff_iff, hlevel]; simp
    have hmask : (lineRestart u).params = s.params := by
      have hh : (lineRestart u).handler = u.handler := by simp
      exact (congrArg Handler.params hh).trans hparams
    refine ⟨fun x => ?_, ?_, ?_, ?_⟩
    · rw [hcleared.entry]
      refine if_congr ⟨fun ⟨_, hx⟩ => ?_, fun hx => ⟨?_, (hlevel x).2 ?_⟩⟩ rfl rfl
      · simpa using (hlevel x).1 hx
      · rcases hx with ⟨rfl, -⟩ | ⟨rfl, -⟩ <;> decide
      · simpa using hx
    · rw [hcleared.sequence]
      simp only [levelCauses, List.filter_cons, htrip, hnofault, hnomismatch, hliner, List.filter_nil]
      cases (decide (s.line.lineMode = .tripped) || s.pins.tripInLow) <;>
        cases decide (∃ k, (s.crusher k).isDue) <;> rfl
    · rw [hcleared.attention, hmask]
      simp only [levelCauses, List.mem_cons, List.not_mem_nil, or_false, exists_eq_or_imp, exists_eq_left, htrip,
        hnofault, hnomismatch, hliner, Bool.false_eq_true, false_and, false_or]
      rfl
    · rw [hcleared.rollMisses, hsame.rollMisses, hroll]

end Sys2Proof.Machine
end

section
/-!
PROOF. The acquiring marker (O15): what the blocks signalled at an acquisition make of the line, in whatever order they
act.
-/

namespace Sys2Proof.Machine

/-! ### Trips and the line mode (R132, R133) -/

/-- With every record STALE, a trip input is active where the pin is low or a trip unit is configured. -/
theorem tripInputs_any_of_stale {s : State}
    (h : ∀ (i : Fin 32) (rec : Record), s.store[i] = some rec → rec.fresh = false) :
    (tripInputs s).any = true ↔ s.pins.tripInLow = true ∨ hasRole s.activeTable .tripUnit = true := by
  unfold tripInputs
  split
  · split
    · rename_i rec hr
      have hf : rec.fresh = false := by
        unfold State.recordOf at hr
        obtain ⟨i, -, hi⟩ := Option.bind_eq_some_iff.1 hr
        exact h i rec hi
      simp_all [TripInputs.any]
    · simp_all [TripInputs.any]
  · simp_all [TripInputs.any, TripInputs.none]

/-- An evaluation leaves the line mode, or takes it to TRIPPED; of the pins it drives TRIP_OUT alone. -/
theorem takeTripInputs_mode (a : TripInputs) (s : State) :
    (takeTripInputs a s).line.lineMode = (if a.any then .tripped else s.line.lineMode) ∧
      (takeTripInputs a s).pins.lock = s.pins.lock ∧ (takeTripInputs a s).pins.tripInLow = s.pins.tripInLow := by
  unfold takeTripInputs
  cases a.any
  · simp
  · simp only [if_true]
    split
    · rename_i ht; exact ⟨ht, rfl, rfl⟩
    · unfold enterTripped
      refine ⟨?_, ?_, ?_⟩
      · rw [(changeMode_line _ _).1]
      · rw [(changeMode_line _ _).2]; simp
      · rw [(changeMode_line _ _).2]; simp

/-! ### The signals of an acquisition (R28) -/

/-- What stays of a part while the blocks act on an acquired lock: all but the controller, the crushers, the feeders,
the causes and TRIP_OUT. -/
structure Acquired (s t : State) : Prop where
  tracker : t.tracker = s.tracker
  store : t.store = s.store
  table : t.activeTable = s.activeTable
  handler : t.handler = s.handler
  lock : t.pins.lock = s.pins.lock
  low : t.pins.tripInLow = s.pins.tripInLow

theorem Acquired.trans {s t u : State} (h : Acquired s t) (g : Acquired t u) : Acquired s u :=
  ⟨g.tracker.trans h.tracker, g.store.trans h.store, g.table.trans h.table, g.handler.trans h.handler,
    g.lock.trans h.lock, g.low.trans h.low⟩

/-- Whether a trip input is active while every record is STALE: the pin, or a trip unit with nothing to say. -/
def State.tripsUnheard (s : State) : Prop := s.pins.tripInLow = true ∨ hasRole s.activeTable .tripUnit = true

/-- A line that has been in IDLE at the acquisition, and TRIPPED only with reason. -/
structure Acquiring (s t : State) : Prop extends Acquired s t where
  mode : t.line.lineMode = .idle ∨ t.line.lineMode = .ready ∨ t.line.lineMode = .tripped ∧ s.tripsUnheard

/-- The line once its controller has acted. -/
def Answered (s t : State) : Prop := t.line.lineMode ≠ .idle ∧ (s.tripsUnheard → t.line.lineMode = .tripped)

variable {s t : State}

/-- What leaves the controller and what it reads leaves the line as it is. -/
theorem Acquiring.of_line (h : Acquiring s t) {u : State} (hu : Acquired t u) (hl : u.line = t.line) : Acquiring s u :=
  ⟨h.toAcquired.trans hu, by rw [hl]; exact h.mode⟩

theorem Acquired.evaluateTrip (t : State) : Acquired t (evaluateTrip t) :=
  have hmode := takeTripInputs_mode (tripInputs t) t
  ⟨by simp, by simp, by simp, by simp, hmode.2.1, hmode.2.2⟩

theorem Acquiring.trips (h : Acquired s t)
    (hs : ∀ (i : Fin 32) (rec : Record), s.store[i] = some rec → rec.fresh = false) :
    (tripInputs t).any = true ↔ s.tripsUnheard := by
  rw [tripInputs_any_of_stale (by rw [h.store]; exact hs), h.low, h.table]
  rfl

theorem Acquiring.evaluateTrip (hs : ∀ (i : Fin 32) (rec : Record), s.store[i] = some rec → rec.fresh = false)
    (h : Acquiring s t) :
    Acquiring s (evaluateTrip t) ∧ (s.tripsUnheard → (Machine.evaluateTrip t).line.lineMode = .tripped) ∧
      (t.line.lineMode ≠ .idle → (Machine.evaluateTrip t).line.lineMode ≠ .idle) := by
  have ht := Acquiring.trips h.toAcquired hs
  have hmode : (Machine.evaluateTrip t).line.lineMode = if (tripInputs t).any then .tripped else t.line.lineMode :=
    (takeTripInputs_mode (tripInputs t) t).1
  have hsame := h.toAcquired.trans (Acquired.evaluateTrip t)
  by_cases hu : s.tripsUnheard
  · rw [if_pos (ht.2 hu)] at hmode
    exact ⟨⟨hsame, .inr (.inr ⟨hmode, hu⟩)⟩, fun _ => hmode, fun _ => by rw [hmode]; decide⟩
  · rw [if_neg fun hany => hu (ht.1 hany)] at hmode
    exact ⟨⟨hsame, by rw [hmode]; exact h.mode⟩, fun hyes => absurd hyes hu, fun hne => by rwa [hmode]⟩

/-- The notice of a stale record lets a feeder compute, or the controller evaluate (R82, R133). -/
theorem Acquiring.noticeStale (hs : ∀ (i : Fin 32) (rec : Record), s.store[i] = some rec → rec.fresh = false)
    (i : Fin 32) (h : Acquiring s t) :
    Acquiring s (noticeStale i t) ∧ (Answered s t → Answered s (noticeStale i t)) := by
  unfold Machine.noticeStale
  split
  · split
    · rename_i k _
      have hl : (computeFeeder k t).line = t.line := by simp
      refine ⟨h.of_line ⟨by simp, by simp, by simp, by simp, by simp, by simp⟩ hl, fun ha => ?_⟩
      unfold Answered
      rw [hl]
      exact ha
    · obtain ⟨he, htrip, hidle⟩ := h.evaluateTrip hs
      exact ⟨he, fun ha => ⟨hidle ha.1, htrip⟩⟩
    · exact ⟨h, id⟩
  · exact ⟨h, id⟩

theorem Acquiring.noticeAll (hs : ∀ (i : Fin 32) (rec : Record), s.store[i] = some rec → rec.fresh = false)
    (h : Acquiring s t) : Acquiring s (noticeAll t) ∧ (Answered s t → Answered s (noticeAll t)) :=
  inFreeOrder_induct (fun u => Acquiring s u ∧ (Answered s t → Answered s u))
    ⟨h.of_line ⟨rfl, rfl, rfl, rfl, rfl, rfl⟩ rfl, id⟩
    fun i _ _ hu => have hi := hu.1.noticeStale hs i; ⟨hi.1, fun ha => hi.2 (hu.2 ha)⟩

theorem Acquiring.lineAcquired (hs : ∀ (i : Fin 32) (rec : Record), s.store[i] = some rec → rec.fresh = false)
    (h : Acquiring s t) : Acquiring s (lineAcquired t) ∧ Answered s (lineAcquired t) := by
  unfold Machine.lineAcquired
  split
  · have hm : (changeMode .ready t).line.lineMode = .ready := by rw [(changeMode_line _ _).1]
    have hp := (changeMode_line .ready t).2
    have hr : Acquiring s (changeMode .ready t) :=
      ⟨h.toAcquired.trans ⟨by simp, by simp, by simp, by simp, by rw [hp], by rw [hp]⟩, .inr (.inl hm)⟩
    obtain ⟨he, htrip, hidle⟩ := hr.evaluateTrip hs
    exact ⟨he, hidle (by rw [hm]; decide), htrip⟩
  · rename_i hi
    obtain ⟨he, htrip, hidle⟩ := h.evaluateTrip hs
    exact ⟨he, hidle hi, htrip⟩

/-- With no commit pending the handler has nothing to apply. -/
theorem Acquiring.applyCommits (hstation : s.handler.pendingStation = false) (hcurve : s.handler.pendingCurve = false)
    (h : Acquiring s t) : Acquiring s (applyCommits t) ∧ (Answered s t → Answered s (applyCommits t)) :=
  inFreeOrder_induct (fun u => Acquiring s u ∧ (Answered s t → Answered s u))
    ⟨h.of_line ⟨rfl, rfl, rfl, rfl, rfl, rfl⟩ rfl, id⟩
    fun b _ u hu => by
      have hb : applyPending b u = u := by
        cases b <;> simp [applyPending, hu.1.handler, hstation, hcurve]
      rw [hb]
      exact hu

theorem getElem_staleAll (s : State) (i : Fin 32) : (staleAll s).store[i] = s.store[i].map Record.lapsed := by
  simp [staleAll, Record.lapsed_eq]

/-- Lock acquired with the line in IDLE and no commit pending: the line ends in READY, or in TRIPPED where a trip input
is active with every record STALE (R28, R128). -/
theorem acquireLock_mode {s : State} (hidle : s.line.lineMode = .idle) (hstation : s.handler.pendingStation = false)
    (hcurve : s.handler.pendingCurve = false) :
    (acquireLock s).tracker = { s.tracker with lockState := .locked, slipRun := 0 } ∧
      (acquireLock s).pins.lock = true ∧ (acquireLock s).store = (staleAll s).store ∧
      (s.tripsUnheard → (acquireLock s).line.lineMode = .tripped) ∧
      (¬s.tripsUnheard → (acquireLock s).line.lineMode = .ready) := by
  let s1 : State :=
    staleAll
      { s with
        tracker := { s.tracker with lockState := .locked, slipRun := 0 }
        pins := { s.pins with lock := true } }
  have hs : ∀ (i : Fin 32) (rec : Record), s1.store[i] = some rec → rec.fresh = false := by
    intro i rec hr
    rw [getElem_staleAll] at hr
    obtain ⟨old, -, rfl⟩ := Option.map_eq_some_iff.1 hr
    rfl
  have hwork (u : AcquireUser) (t : State) (h : Acquiring s1 t) :
      Acquiring s1 (acquireWork u t) ∧ (Answered s1 t → Answered s1 (acquireWork u t)) := by
    cases u with
    | store => exact h.noticeAll hs
    | line => exact ⟨(h.lineAcquired hs).1, fun _ => (h.lineAcquired hs).2⟩
    | handler => exact h.applyCommits hstation hcurve
  have h0 : Acquiring s1 { s1 with freeCount := s1.freeCount + 1 } := ⟨⟨rfl, rfl, rfl, rfl, rfl, rfl⟩, .inl hidle⟩
  have hP : Acquiring s1 (acquireLock s) := inFreeOrder_induct (Acquiring s1) h0 fun u _ t ht => (hwork u t ht).1
  have hQ : Answered s1 (acquireLock s) :=
    inFreeOrder_establishes (Acquiring s1) (Answered s1) h0 (fun u _ t ht => (hwork u t ht).1)
      (fun u _ t ht => (hwork u t ht).2) (b := .line) (by decide) fun t ht => (ht.lineAcquired hs).2
  refine ⟨hP.tracker, hP.lock, hP.store, hQ.2, fun hn => ?_⟩
  rcases hP.mode with hm | hm | ⟨-, ht⟩
  · exact absurd hm hQ.1
  · exact hm
  · exact absurd ht hn

/-- Settles O15: the marker that completes the run acquires lock, whatever order the signalled blocks act in. -/
theorem markerAcquiresLock : Obligations.MarkerAcquiresLock := by
  intro s dst src fn n p hsearch hidle hstation hcurve hp2 hp250 run hrun
  let s1 : State :=
    { setRx .m .idle s with
      tracker := { (setRx .m .idle s).tracker.noteMarker n p.toNat with runCount := run } }
  have hvalid : validMarker [n, p] = some (n, p.toNat) := by
    simp [validMarker, inRange, hp2, hp250]
  have hmarker : takeMarker [n, p] (setRx .m .idle s) = acquireLock s1 := by
    have hlock : (setRx .m .idle s).tracker.lockState = .search := by simpa using hsearch
    have hthreshold : (setRx .m .idle s).params.lockThreshold ≤ run := by simpa [State.params] using hrun
    have hafter : (setRx .m .idle s).tracker.runAfter n = run := by simp [Tracker.runAfter, run]
    simp only [takeMarker, hvalid, hlock, markerInSearch, hafter, hthreshold, if_true, s1]
  obtain ⟨htracker, hpin, hstore, htripped, hready⟩ :=
    acquireLock_mode (s := s1) (by simpa [s1] using hidle) (by simpa [s1] using hstation) (by simpa [s1] using hcurve)
  refine ⟨joinF (Telegram.make .cycle dst src fn [n, p]) (acquireLock s1), ?_, ?_, ?_, fun i => ?_, ?_⟩
  · rw [← hmarker]
    rfl
  · have hj : (joinF (Telegram.make .cycle dst src fn [n, p]) (acquireLock s1)).tracker = (acquireLock s1).tracker := by
      simp
    rw [hj, htracker]
    simp [s1, Tracker.noteMarker]
  · simpa using hpin
  · have hj : (joinF (Telegram.make .cycle dst src fn [n, p]) (acquireLock s1)).store = (staleAll s1).store := by
      simpa using hstore
    rw [hj, getElem_staleAll]
    simp [s1]
  · have htrips : s1.tripsUnheard ↔ s.pins.tripInLow = true ∨ hasRole s.activeTable .tripUnit = true := by
      simp [State.tripsUnheard, s1]
    have hj : (joinF (Telegram.make .cycle dst src fn [n, p]) (acquireLock s1)).line = (acquireLock s1).line := by simp
    rw [hj]
    by_cases hu : s1.tripsUnheard
    · rw [htripped hu, if_pos (htrips.1 hu)]
    · rw [hready hu, if_neg fun h => hu (htrips.2 h)]

end Sys2Proof.Machine
end

section
/-!
PROOF. A reply from the field (O20): what no arrival touches, the arrivals of a reply and their order, and the reply on
its way to the master.
-/

namespace Sys2Proof.Machine

/-! ### What no arrival writes (R18) -/

/-- The parameters of a feeder governor (Table 5-1). -/
def Feeder.rates (f : Feeder) : Nat × Nat × Nat × Nat := (f.slewUp, f.slewDown, f.minRun, f.staleCap)

/-- Parameters and targets stay, and of the pins TRIP_OUT alone changes. -/
structure SameSettings (s t : State) : Prop where
  params : ∀ k : Fin 4, (t.crusher k).params = (s.crusher k).params
  target : ∀ k : Fin 4, (t.crusher k).cssTarget = (s.crusher k).cssTarget
  rates : ∀ j : Fin 4, (t.feeder j).rates = (s.feeder j).rates
  lock : t.pins.lock = s.pins.lock
  low : t.pins.tripInLow = s.pins.tripInLow

theorem SameSettings.of_eq {s t : State} (hc : t.crushers = s.crushers) (hf : t.feeders = s.feeders)
    (hp : t.pins = s.pins) : SameSettings s t :=
  ⟨fun k => by rw [State.crusher_congr hc], fun k => by rw [State.crusher_congr hc], fun j => by
    rw [State.feeder_congr hf], by rw [hp], by rw [hp]⟩

theorem SameSettings.trans {s t u : State} (h : SameSettings s t) (g : SameSettings t u) : SameSettings s u :=
  ⟨fun k => (g.params k).trans (h.params k), fun k => (g.target k).trans (h.target k),
    fun j => (g.rates j).trans (h.rates j), g.lock.trans h.lock, g.low.trans h.low⟩

/-- A context that keeps its parameters and its target. -/
def SameTarget (x y : Crusher) : Prop := y.params = x.params ∧ y.cssTarget = x.cssTarget

theorem SameTarget.trans {x y z : Crusher} (h : SameTarget x y) (g : SameTarget y z) : SameTarget x z :=
  ⟨g.1.trans h.1, g.2.trans h.2⟩

theorem issueCheck_sameTarget (v : View) (x : Crusher) : SameTarget x (issueCheck v x) := by
  unfold issueCheck issue
  dsimp only
  repeat' split
  all_goals exact ⟨rfl, rfl⟩

theorem gapArrival_sameTarget (v : View) (x : Crusher) : SameTarget x (gapArrival v x) := by
  unfold gapArrival
  split
  · exact issueCheck_sameTarget v x
  · split
    · exact ⟨rfl, rfl⟩
    · split
      · split
        · split
          · unfold proposeRun
            dsimp only
            repeat' split
            all_goals exact ⟨rfl, rfl⟩
          · unfold evaluateRun
            dsimp only
            split
            · exact ⟨rfl, rfl⟩
            · split
              · exact ⟨rfl, rfl⟩
              · exact SameTarget.trans ⟨rfl, rfl⟩ (issueCheck_sameTarget v _)
        · split
          · unfold proposeRecover
            dsimp only
            repeat' split
            all_goals exact ⟨rfl, rfl⟩
          · unfold evaluateRecover
            dsimp only
            split
            · exact ⟨rfl, rfl⟩
            · split
              · exact ⟨rfl, rfl⟩
              · exact SameTarget.trans ⟨rfl, rfl⟩ (issueCheck_sameTarget v _)
        all_goals exact ⟨rfl, rfl⟩
      · exact ⟨rfl, rfl⟩

theorem statusOnMove_sameTarget (st : ActStatus) (x : Crusher) : SameTarget x (statusOnMove st x).crusher := by
  unfold statusOnMove complete
  dsimp only
  repeat' split
  all_goals exact ⟨rfl, rfl⟩

theorem standDown_sameTarget (g : Bool) (x : Crusher) : SameTarget x (standDown g x) := by
  unfold standDown
  dsimp only
  repeat' split
  all_goals exact ⟨rfl, rfl⟩

theorem takeSample_sameTarget (now : Long) (smp : Sample) (x : Crusher) :
    SameTarget x (takeSample now smp x).crusher := by
  have honset : SameTarget x (if smp = .onset then onset now x else quiet x).crusher := by
    unfold onset
    dsimp only
    repeat' split
    all_goals exact ⟨rfl, rfl⟩
  have hstandby : SameTarget x (if smp = .onset then standbyOnset now x else quiet x).crusher := by
    split <;> exact ⟨rfl, rfl⟩
  have hopen (r : Relief) : SameTarget x (sampleOpen smp r x) := by
    unfold sampleOpen reliefCleared
    dsimp only
    repeat' split
    all_goals exact ⟨rfl, rfl⟩
  unfold takeSample
  split
  case h_1 | h_2 | h_3 => exact honset
  case h_4 =>
    split
    · split
      · exact hopen _
      · exact ⟨rfl, rfl⟩
    · exact ⟨rfl, rfl⟩
  case h_5 =>
    split
    · split
      · exact hopen _
      · exact hstandby
    · exact hstandby
  all_goals exact ⟨rfl, rfl⟩

namespace SameSettings

variable {s : State}

theorem change {k : Fin 4} {ch : Change} (h : SameTarget (s.crusher k) ch.crusher) :
    SameSettings s (changeCrusher k ch s) := by
  refine ⟨fun j => ?_, fun j => ?_, fun j => ?_, by simp, by simp⟩
  · rw [State.crusher_changeCrusher]; split
    · subst_vars; exact h.1
    · rfl
  · rw [State.crusher_changeCrusher]; split
    · subst_vars; exact h.2
    · rfl
  · rw [State.feeder_changeCrusher]; split
    · rename_i hj; rw [hj.1]; rfl
    · rfl

theorem computeFeeder (k : Fin 4) : SameSettings s (computeFeeder k s) := by
  have hc : (Machine.computeFeeder k s).crushers = s.crushers := by simp
  refine ⟨fun j => by rw [State.crusher_congr hc], fun j => by rw [State.crusher_congr hc], fun j => ?_, by simp,
    by simp⟩
  unfold Machine.computeFeeder
  dsimp only
  rw [raiseTimes_eq]
  show (State.feeder (State.setFeeder s k _) j).rates = _
  rw [State.feeder_setFeeder]
  split
  · subst_vars; rfl
  · rfl

theorem changeMode (mode : LineMode) : SameSettings s (changeMode mode s) := by
  have hp := (changeMode_line mode s).2
  refine ⟨fun k => ?_, fun k => ?_, fun j => ?_, by rw [hp], by rw [hp]⟩
  · rw [crusher_changeMode]; split
    · exact (standDown_sameTarget _ _).1
    · rfl
  · rw [crusher_changeMode]; split
    · exact (standDown_sameTarget _ _).2
    · rfl
  · rw [feeder_changeMode]; split <;> rfl

theorem takeTripInputs (a : TripInputs) : SameSettings s (takeTripInputs a s) := by
  unfold Machine.takeTripInputs
  split
  · split
    · exact .of_eq rfl rfl rfl
    · have h1 (x : LineControl) : SameSettings s { discardStop .tripped s with line := x } :=
        .of_eq (by simp) (by simp) (by simp)
      exact (h1 _).trans (changeMode .tripped)
  · exact .of_eq rfl rfl rfl

theorem travelArrival (d : Nat) : SameSettings s (travelArrival d s) := by
  unfold Machine.travelArrival
  split
  · exact .of_eq rfl rfl rfl
  · split
    · exact .of_eq rfl rfl rfl
    · unfold lotEvents
      dsimp only
      split
      · unfold retirementTest
        split
        · unfold endStop
          refine SameSettings.trans ?_ (changeMode .stopped)
          exact .of_eq (by simp) (by simp) (by simp)
        · exact .of_eq (by simp) (by simp) (by simp)
      · exact .of_eq (by simp) (by simp) (by simp)

/-- No arrival writes a parameter or a target (Table 1-6). -/
theorem deliverArrival (a : Arrival) : SameSettings s (deliverArrival a s) := by
  unfold Machine.deliverArrival
  split
  case h_1 => exact takeTripInputs _
  case h_2 k _ =>
    unfold pressureArrival
    split
    · exact change (takeSample_sameTarget _ _ _)
    · exact .of_eq rfl rfl rfl
  case h_3 k _ =>
    unfold actuatorArrival
    split
    · exact (change (takeSample_sameTarget _ _ _)).trans (change (statusOnMove_sameTarget _ _))
    · exact .of_eq rfl rfl rfl
  case h_4 k _ => exact change (gapArrival_sameTarget _ _)
  case h_5 k _ => exact (computeFeeder k).trans (change (issueCheck_sameTarget _ _))
  case h_8 => exact travelArrival _
  all_goals exact .of_eq (by simp) (by simp) (by simp)

end SameSettings

/-! ### The arrivals of a reply (R15, R17, R18) -/

theorem readField_eq_some {s : State} {src : Byte} {payload : List Byte} {i : Fin 32} {r : Role}
    {o : Option (List Byte)}
    (h : s.readField src payload i = some (r, o)) :
    s.activeTable[i].used = true ∧ s.activeTable[i].role? = some r := by
  unfold State.readField at h
  dsimp only at h
  split at h
  · rename_i hu
    split at h
    · rename_i q hq
      split at h
      · obtain ⟨rfl, -⟩ := Prod.mk.inj (Option.some.inj h)
        exact ⟨hu.1, hq⟩
      · cases h
    · cases h
  · cases h

/-- The value that a reply brings for entry i: that of a field which fits and decodes. -/
def State.readValue (s : State) (src : Byte) (payload : List Byte) (i : Fin 32) : Option Value :=
  (s.readField src payload i).bind fun x => x.2.bind fun bytes => storedValue s.activeTable[i] x.1 bytes

theorem readValue_of_read {s : State} {src : Byte} {payload : List Byte} {i : Fin 32} {r : Role} {bytes : List Byte}
    (h : s.readField src payload i = some (r, some bytes)) :
    s.readValue src payload i = storedValue s.activeTable[i] r bytes := by
  rw [State.readValue, h]
  rfl

theorem readValue_of_unread {s : State} {src : Byte} {payload : List Byte} {i : Fin 32}
    (h : ∀ r bytes, s.readField src payload i ≠ some (r, some bytes)) : s.readValue src payload i = none := by
  unfold State.readValue
  rcases hr : s.readField src payload i with _ | ⟨r, _ | bytes⟩
  · rfl
  · rfl
  · exact absurd hr (h r bytes)

/-- What the observer does with an entry, by the field the reply holds for it and the value that brings. -/
theorem takeAt_of_read {s : State} (hs : StoreInv s) (t : Telegram) (i : Fin 32) :
    (takeAt s t i = .short ↔ (s.readField t.src t.payload i).any (fun x => x.2.isNone) = true) ∧
      (takeAt s t i = .bad ↔ ((s.readField t.src t.payload i).any fun x => x.2.isSome) = true ∧
        (s.readValue t.src t.payload i).isNone = true) ∧
      (takeAt s t i).record s.store[i] =
        match s.readValue t.src t.payload i with
        | some x => some (freshRecord s.tracker.cycleCount x)
        | none => s.store[i] := by
  rw [takeAt_eq (fun j hj => by rw [hs.held, hj])]
  split <;> rename_i hr
  · rw [readValue_of_unread (by simp [hr]), hr]
    exact ⟨by simp, by simp, rfl⟩
  · rw [readValue_of_unread (by simp [hr]), hr]
    exact ⟨by simp, by simp, rfl⟩
  · rename_i r bytes
    rw [readValue_of_read hr, hr]
    cases storedValue s.activeTable[i] r bytes <;> exact ⟨by simp [Taken.ofValue], by simp [Taken.ofValue], rfl⟩

/-- The arrivals a reply makes: one for each field stored, a counter's where it has an increment. -/
theorem arrivalAt_eq_some {s : State} (hs : StoreInv s) {t : Telegram} {i : Fin 32} {a : Arrival} :
    arrivalAt s t i = some a ↔
      ∃ (old : Record) (bytes : List Byte) (x : Value), s.store[i] = some old ∧
        s.readField t.src t.payload i = some (a.role, some bytes) ∧ storedValue s.activeTable[i] a.role bytes = some x ∧
        storedIncrement old.value x a.role.wrap = some a.increment := by
  unfold arrivalAt
  rw [takeAt_eq (fun j hj => by rw [hs.held, hj])]
  cases hr : s.readField t.src t.payload i with
  | none => simp
  | some found =>
    obtain ⟨r, o⟩ := found
    obtain ⟨hu, hrole⟩ := readField_eq_some hr
    obtain ⟨old, ho⟩ := Option.isSome_iff_exists.1 ((hs.held i).trans hu)
    cases o with
    | none => simp
    | some bytes =>
      simp only [ho, hrole, Option.map_some, Option.getD_some]
      cases hv : storedValue s.activeTable[i] r bytes with
      | none =>
        simp only [Taken.ofValue, reduceCtorEq, false_iff]
        rintro ⟨_, bytes', x, -, he, hx, -⟩
        cases he
        rw [hv] at hx
        cases hx
      | some x =>
        simp only [Taken.ofValue]
        cases hi : storedIncrement old.value x r.wrap with
        | none =>
          simp only [reduceCtorEq, false_iff]
          rintro ⟨old', bytes', x', ho', he, hx, hinc⟩
          cases ho'
          cases he
          rw [hv] at hx
          cases hx
          rw [hi] at hinc
          cases hinc
        | some inc =>
          constructor
          · intro h
            cases h
            exact ⟨old, bytes, x, rfl, rfl, hv, hi⟩
          · rintro ⟨old', bytes', x', ho', he, hx, hinc⟩
            cases ho'
            cases he
            rw [hv] at hx
            cases hx
            rw [hi] at hinc
            cases hinc
            rfl

theorem deliveryRank_eq (r : Role) : deliveryRank r = r.row.getD 0 := by cases r <;> rfl

theorem deliveryRank_lt (r : Role) : deliveryRank r < 11 := by cases r <;> simp [deliveryRank]

theorem mem_arrivalsOf {s : State} {t : Telegram} {a : Arrival} :
    a ∈ arrivalsOf s t ↔ ∃ i, arrivalAt s t i = some a := by
  simp only [arrivalsOf, List.mem_flatMap, List.mem_range, List.mem_filter, List.mem_filterMap, mem_indices, true_and,
    beq_iff_eq]
  exact ⟨fun ⟨_, _, h, _⟩ => h, fun h => ⟨_, deliveryRank_lt a.role, h, rfl⟩⟩

/-- The arrivals of a reply come in the order of Table 1-6, and no role makes two. -/
theorem arrivalsOf_pairwise {s : State} (hs : StoreInv s) (hp : ∀ i : Fin 32, s.activeTable[i].used = true →
    Passes s.ownAddress s.activeTable i) (t : Telegram) :
    (arrivalsOf s t).Pairwise fun a b => deliveryRank a.role ≤ deliveryRank b.role ∧ a.role ≠ b.role := by
  have hholds {i : Fin 32} {a : Arrival} (h : arrivalAt s t i = some a) : s.activeTable[i].holds a.role = true := by
    obtain ⟨_, _, _, -, hr, -⟩ := (arrivalAt_eq_some hs).1 h
    exact (Entry.holds_iff _ _).2 (readField_eq_some hr)
  have hall : (indices.filterMap (arrivalAt s t)).Pairwise fun a b => a.role ≠ b.role := by
    refine List.pairwise_filterMap.2 (indices_nodup.imp fun {i j} hij a ha b hb he => hij ?_)
    exact role_unique hp (hholds ha) (he ▸ hholds hb)
  unfold arrivalsOf
  refine List.pairwise_flatMap.2 ⟨fun rank _ => ?_, ?_⟩
  · refine (hall.filter _).imp_of_mem fun {a b} ha hb hne => ⟨?_, hne⟩
    simp only [List.mem_filter, beq_iff_eq] at ha hb
    omega
  · refine (List.pairwise_lt_range).imp fun {m n} hmn a ha b hb => ?_
    simp only [List.mem_filter, beq_iff_eq] at ha hb
    exact ⟨by omega, fun he => by rw [he] at ha; omega⟩

end Sys2Proof.Machine
end

section
/-!
PROOF. A reply from the field (O20): its storing, its arrivals and its forwarding.
-/

namespace Sys2Proof.Machine

/-! ### What a reply stores and counts (R15, R16) -/

theorem getElem_storeReply {s : State} (hs : StoreInv s) (t : Telegram) (i : Fin 32) :
    (storeReply t s).store[i] = match s.readValue t.src t.payload i with
      | some x => some (freshRecord s.tracker.cycleCount x)
      | none => s.store[i] :=
  (getElem_storeAfter s t i).trans (takeAt_of_read hs t i).2.2

theorem countTaken_short {s : State} (hs : StoreInv s) (t : Telegram) :
    countTaken s t .short =
      (indices.filter fun i => (s.readField t.src t.payload i).any fun x => x.2.isNone).length :=
  congrArg List.length (List.filter_congr fun i _ => by
    rw [Bool.eq_iff_iff, beq_iff_eq]
    exact (takeAt_of_read hs t i).1)

theorem countTaken_bad {s : State} (hs : StoreInv s) (t : Telegram) :
    countTaken s t .bad =
      (indices.filter fun i => ((s.readField t.src t.payload i).any fun x => x.2.isSome) &&
        (s.readValue t.src t.payload i).isNone).length :=
  congrArg List.length (List.filter_congr fun i _ => by
    rw [Bool.eq_iff_iff, beq_iff_eq, Bool.and_eq_true]
    exact (takeAt_of_read hs t i).2.1)

/-- The reply reaches the store and its two counters (R15, R16). -/
theorem storeReply_eq {s : State} (hs : StoreInv s) (t : Telegram) :
    storeReply t s =
      { s with
        store := (storeReply t s).store
        shortFields :=
          min 65535 (s.shortFields +
            (indices.filter fun i => (s.readField t.src t.payload i).any fun x => x.2.isNone).length)
        badFields :=
          min 65535 (s.badFields +
            (indices.filter fun i => ((s.readField t.src t.payload i).any fun x => x.2.isSome) &&
              (s.readValue t.src t.payload i).isNone).length) } := by
  rw [← countTaken_short hs, ← countTaken_bad hs]
  rfl

/-- The record of a role is that of its entry. -/
theorem recordOf_of_holds {s v : State} (ht : TableInv s) (hv : v.activeTable = s.activeTable) {i : Fin 32} {r : Role}
    (hu : s.activeTable[i].used = true) (hr : s.activeTable[i].role? = some r) : v.recordOf r = v.store[i] := by
  unfold State.recordOf
  rw [hv, (roleIndex_of_holds ht.passes).2 ((Entry.holds_iff _ _).2 ⟨hu, hr⟩)]
  rfl

/-! ### The arrivals handed over (R18) -/

/-- The arrivals of a reply that have a receiver (Table 1-6). -/
def handedOver (s : State) (t : Telegram) : List Arrival := (arrivalsOf s t).filter fun a => a.role.row.isSome

/-- A role without a row in Table 1-6 has no receiver. -/
theorem deliverArrival_of_noRow {a : Arrival} (h : ¬a.role.row.isSome = true) (s : State) : deliverArrival a s = s := by
  unfold deliverArrival
  cases hr : a.role <;> simp_all [Role.row]

theorem foldl_handedOver (s : State) (t : Telegram) (u : State) :
    (handedOver s t).foldl (fun w a => deliverArrival a w) u =
      (arrivalsOf s t).foldl (fun w a => deliverArrival a w) u := by
  unfold handedOver
  rw [List.foldl_filter]
  congr
  funext w a
  split
  · rfl
  · exact (deliverArrival_of_noRow ‹_› w).symm

theorem handedOver_ordered {s : State} (hs : StoreInv s) (ht : TableInv s) (t : Telegram) :
    ((handedOver s t).Pairwise fun a b => a.role.row.getD 0 ≤ b.role.row.getD 0) ∧
      ((handedOver s t).map Arrival.role).Nodup := by
  have h := (arrivalsOf_pairwise hs ht.passes t).filter fun a => a.role.row.isSome
  refine ⟨h.imp fun hab => ?_, List.pairwise_map.2 (h.imp fun hab => hab.2)⟩
  rw [← deliveryRank_eq, ← deliveryRank_eq]
  exact hab.1

theorem mem_handedOver {s : State} (hs : StoreInv s) {t : Telegram} {a : Arrival} :
    a ∈ handedOver s t ↔ a.role.row.isSome = true ∧
      ∃ (i : Fin 32) (old : Record) (bytes : List Byte) (x : Value), s.store[i] = some old ∧
        s.readField t.src t.payload i = some (a.role, some bytes) ∧ s.readValue t.src t.payload i = some x ∧
        storedIncrement old.value x (if a.role = .metal then 256 else 65536) = some a.increment := by
  unfold handedOver
  rw [List.mem_filter, mem_arrivalsOf, and_comm]
  refine and_congr_right fun _ => exists_congr fun i => (arrivalAt_eq_some hs).trans ?_
  refine exists_congr fun old => exists_congr fun bytes => exists_congr fun x => and_congr_right fun _ =>
    and_congr_right fun hr => ?_
  rw [readValue_of_read hr]
  rfl

/-- Handing the arrivals over changes crushers, feeders, lots, line and causes, no settings, and of the pins TRIP_OUT
alone. -/
theorem arrivals_change (l : List Arrival) (v : State) :
    SameSettings v (l.foldl (fun w a => deliverArrival a w) v) := by
  induction l generalizing v with
  | nil => exact .of_eq rfl rfl rfl
  | cons a l ih => exact (SameSettings.deliverArrival a).trans (ih _)

theorem arrivals_eq (l : List Arrival) (v : State) :
    ∃ u : State, u = l.foldl (fun w a => deliverArrival a w) v ∧ SameSettings v u ∧
      u = { v with
        pins := { v.pins with tripOut := u.pins.tripOut }
        crushers := u.crushers
        feeders := u.feeders
        lots := u.lots
        line := u.line
        causes := u.causes } := by
  have hsame := arrivals_change l v
  refine ⟨_, rfl, hsame, State.ext_fields ?_⟩
  have hpins : (l.foldl (fun w a => deliverArrival a w) v).pins =
      { v.pins with tripOut := (l.foldl (fun w a => deliverArrival a w) v).pins.tripOut } := by
    dsimp only
    rw [← hsame.lock, ← hsame.low]
  obtain ⟨h1, h2, h3, h4, h5, h6, h7, h8, h9, h10, h11, h12, h13, h14, h15, h16, h17⟩ := deliverAll_frame l v
  exact ⟨h1, hpins, h2, h3, h4, h5, h6, h7, h8, h9, h10, h11, h12, h13, rfl, rfl, rfl, rfl, h14, h15, rfl, h16, h17⟩

/-! ### The way to the master (R151, R156, R192) -/

/-- A telegram joins the M-bound queue, or is dropped as an overrun (R151, R156). -/
theorem joinM_cases (t : Telegram) (u : State) :
    (u.relay.mBound.length < 4 → joinM t u = u.withReply t) ∧
      (4 ≤ u.relay.mBound.length →
        ∃ c, RaisedOnce u.params.causeMask .lineError u.causes c ∧
          joinM t u =
            { u with relay := { u.relay with overrunsM := min 65535 (u.relay.overrunsM + 1) }, causes := c }) := by
  refine ⟨joinM_of_room t, fun hfull => ⟨_, raisedOnce_raise _ _ _, ?_⟩⟩
  unfold joinM
  rw [if_neg (by unfold queueSize; omega)]
  rfl

/-- A roll-call reply too short for the field counts as a miss and passes as it is (R192). -/
theorem passRollCall_short {t : Telegram} (h : t.payload.length < 3) (u : State) :
    passRollCall t u =
      (t, { u with causes := { u.causes with rollMisses := min 65535 (u.causes.rollMisses + 1) } }) := by
  unfold passRollCall
  split
  · rename_i hp
    rw [hp] at h
    simp at h
    omega
  · rfl

/-- A word is its two bytes, high byte first. -/
theorem code2_toNat (w : Word) : ∃ hi lo : Byte, code2 w.toNat = [hi, lo] ∧ (hi ++ lo : Word) = w := by
  refine ⟨_, _, rfl, BitVec.eq_of_toNat_eq ?_⟩
  rw [BitVec.toNat_append, ← Nat.shiftLeft_add_eq_or_of_lt (BitVec.isLt _), Nat.shiftLeft_eq]
  have := w.isLt
  simp only [BitVec.toNat_ofNat]
  omega

/-- The part's bit alone in the roll-call field, where it is asserted (R191). -/
theorem rollField_of_asserted {u : State} {n : Fin 16} (hb : u.params.rollBit = some n)
    (ha : u.causes.attention = u.params.rollSense) :
    rollAsserted u = true ∧ rollField u = BitVec.twoPow 16 n.val := by
  have h : rollAsserted u = true := by simp [rollAsserted, hb, ha]
  refine ⟨h, ?_⟩
  unfold rollField
  rw [hb]
  dsimp only
  rw [if_pos h]
  rfl

theorem getLsbD_or_twoPow (w : Word) (n : Fin 16) (m : Nat) :
    (w ||| BitVec.twoPow 16 n.val).getLsbD m = true ↔ w.getLsbD m = true ∨ m = n.val := by
  rw [BitVec.getLsbD_or, BitVec.getLsbD_twoPow, Bool.or_eq_true, Bool.and_eq_true, decide_eq_true_eq, decide_eq_true_eq]
  exact or_congr_right ⟨fun h => h.2.symm, fun h => ⟨n.isLt, h.symm⟩⟩

/-- A roll-call reply gets the part's bit, where that is asserted and not set already (R192). -/
theorem passRollCall_sets {t : Telegram} {u : State} {a hi lo : Byte} {rest : List Byte}
    (hp : t.payload = a :: hi :: lo :: rest) {n : Fin 16} (hb : u.params.rollBit = some n)
    (ha : u.causes.attention = u.params.rollSense) (hclear : (hi ++ lo : Word).getLsbD n.val = false) :
    ∃ hi' lo' : Byte,
      (∀ m : Nat, (hi' ++ lo' : Word).getLsbD m = true ↔ (hi ++ lo : Word).getLsbD m = true ∨ m = n.val) ∧
        passRollCall t u = (Telegram.make t.kind t.dst t.src t.fn (a :: hi' :: lo' :: rest), u) := by
  obtain ⟨hasserted, hfield⟩ := rollField_of_asserted hb ha
  obtain ⟨hi', lo', hcode, hword⟩ := code2_toNat ((hi ++ lo : Word) ||| BitVec.twoPow 16 n.val)
  refine ⟨hi', lo', fun m => by rw [hword]; exact getLsbD_or_twoPow _ n m, ?_⟩
  have hnone : ((hi ++ lo : Word) &&& BitVec.twoPow 16 n.val) = 0 := by
    rw [BitVec.and_twoPow, hclear]
    rfl
  unfold passRollCall
  rw [hp]
  dsimp only
  rw [hasserted, hfield, hnone, if_pos (by decide), hcode]
  unfold Telegram.withField putField
  rw [hp]
  rfl

/-- A roll-call reply passes as it is where the part's bit is not asserted or is set already (R192). -/
theorem passRollCall_leaves {t : Telegram} {u : State} {a hi lo : Byte} {rest : List Byte}
    (hp : t.payload = a :: hi :: lo :: rest)
    (h : u.params.rollBit = none ∨ u.causes.attention ≠ u.params.rollSense ∨
      ∃ n, u.params.rollBit = some n ∧ (hi ++ lo : Word).getLsbD n.val = true) : passRollCall t u = (t, u) := by
  unfold passRollCall
  rw [hp]
  dsimp only
  refine if_neg fun hset => ?_
  obtain ⟨hasserted, hzero⟩ := Bool.and_eq_true_iff.1 hset
  simp only [rollAsserted, Bool.and_eq_true, beq_iff_eq, Option.isSome_iff_exists] at hasserted
  obtain ⟨⟨n, hb⟩, ha⟩ := hasserted
  rcases h with hnone | hne | ⟨m, hm, hbit⟩
  · rw [hb] at hnone; cases hnone
  · exact hne ha
  · rw [hb] at hm
    cases hm
    rw [(rollField_of_asserted hb ha).2, BitVec.and_twoPow, if_pos hbit, beq_iff_eq] at hzero
    have := congrArg (fun w : Word => w.getLsbD n.val) hzero
    simp at this

/-! ### The reply observed (O20) -/

/-- What storing a reply and handing its arrivals over leaves, while LOCKED (R15, R18). -/
theorem observe_locked {s : State} (hl : s.tracker.lockState = .locked) (t : Telegram) :
    observe t s = (handedOver s t).foldl (fun w a => deliverArrival a w) (storeReply t s) := by
  unfold observe
  rw [if_pos hl, foldl_handedOver]

/-- A reply observed while LOCKED: every field stored, then the arrivals handed over (R15, R18). -/
theorem observed_locked {s : State} (hl : s.tracker.lockState = .locked) (hs : StoreInv s) (ht : TableInv s)
    (t : Telegram) :
    ∃ (v : State) (arrivals : List Arrival),
      v =
        { s with
          store := v.store
          shortFields :=
            min 65535 (s.shortFields +
              (indices.filter fun i => (s.readField t.src t.payload i).any fun x => x.2.isNone).length)
          badFields :=
            min 65535 (s.badFields +
              (indices.filter fun i => ((s.readField t.src t.payload i).any fun x => x.2.isSome) &&
                (s.readValue t.src t.payload i).isNone).length) } ∧
      (∀ i : Fin 32,
        v.store[i] =
          match s.readValue t.src t.payload i with
          | some x => some { fresh := true, arrival := some s.tracker.cycleCount, value := x }
          | none => s.store[i]) ∧
      (∀ (i : Fin 32) (r : Role), s.activeTable[i].used = true → s.activeTable[i].role? = some r →
        v.recordOf r = v.store[i]) ∧
      (arrivals.Pairwise fun a b => a.role.row.getD 0 ≤ b.role.row.getD 0) ∧ (arrivals.map Arrival.role).Nodup ∧
      (∀ a, a ∈ arrivals ↔ a.role.row.isSome = true ∧
        ∃ (i : Fin 32) (old : Record) (bytes : List Byte) (x : Value), s.store[i] = some old ∧
          s.readField t.src t.payload i = some (a.role, some bytes) ∧ s.readValue t.src t.payload i = some x ∧
          storedIncrement old.value x (if a.role = .metal then 256 else 65536) = some a.increment) ∧
      observe t s = arrivals.foldl (fun w a => deliverArrival a w) v ∧
      observe t s =
        { v with
          pins := { s.pins with tripOut := (observe t s).pins.tripOut }
          crushers := (observe t s).crushers
          feeders := (observe t s).feeders
          lots := (observe t s).lots
          line := (observe t s).line
          causes := (observe t s).causes } ∧
      (∀ k, ((observe t s).crusher k).params = (s.crusher k).params ∧
        ((observe t s).crusher k).cssTarget = (s.crusher k).cssTarget) ∧
      ∀ j, (((observe t s).feeder j).slewUp, ((observe t s).feeder j).slewDown, ((observe t s).feeder j).minRun,
          ((observe t s).feeder j).staleCap) =
        ((s.feeder j).slewUp, (s.feeder j).slewDown, (s.feeder j).minRun, (s.feeder j).staleCap) := by
  obtain ⟨u, hu, hsame, hframe⟩ := arrivals_eq (handedOver s t) (storeReply t s)
  obtain ⟨hrows, hroles⟩ := handedOver_ordered hs ht t
  have hrecord (i : Fin 32) (r : Role) (hused : s.activeTable[i].used = true)
      (hrole : s.activeTable[i].role? = some r) :
      (storeReply t s).recordOf r = (storeReply t s).store[i] :=
    recordOf_of_holds ht (by simp) hused hrole
  rw [observe_locked hl, ← hu]
  exact ⟨storeReply t s, handedOver s t, storeReply_eq hs t, getElem_storeReply hs t, hrecord, hrows, hroles,
    fun a => mem_handedOver hs, hu, hframe, fun k => ⟨hsame.params k, hsame.target k⟩, hsame.rates⟩

theorem observe_search {s : State} (hl : s.tracker.lockState = .search) (t : Telegram) : observe t s = s := by
  unfold observe
  rw [if_neg (by rw [hl]; decide)]

/-- A telegram other than a roll-call reply passes as it is (R154). -/
theorem deliverReply_other {fn : Byte} (h : fn ≠ 0x15) (dst src : Byte) (payload : List Byte) (s : State) :
    deliverReply dst src fn payload s =
      joinM (Telegram.make .reply dst src fn payload) (observe (Telegram.make .reply dst src fn payload) s) := by
  unfold deliverReply
  dsimp only
  exact if_neg h

/-- A roll-call reply passes by the cause unit (R192). -/
theorem deliverReply_rollCall (dst src : Byte) (payload : List Byte) {s u : State} {x : Telegram}
    (h : passRollCall (Telegram.make .reply dst src 0x15 payload)
      (observe (Telegram.make .reply dst src 0x15 payload) s) = (x, u)) :
    deliverReply dst src 0x15 payload s = joinM x u := by
  unfold deliverReply rollCallCode
  dsimp only
  rw [if_pos rfl, h]

/-- Settles O20: a reply is observed, and goes on to the master. -/
theorem fieldReplyObserved : Obligations.FieldReplyObserved := by
  unfold Obligations.FieldReplyObserved
  intro s dst src fn payload hlen
  have hexec : exec (.fieldReply dst src fn payload) s =
      .next (deliverReply dst src fn payload (setRx .f .idle s)) := by
    show execFieldReply dst src fn payload s = _
    unfold execFieldReply receiveAt
    rw [if_pos hlen]
  rw [hexec]
  intro heard
  have hheard : setRx .f .idle s = heard := rfl
  rw [hheard]
  have hread : heard.readField src payload = s.readField src payload := rfl
  have hvalue : heard.readValue src payload = s.readValue src payload := rfl
  have hstore : heard.store = s.store := rfl
  have hcycle : heard.tracker.cycleCount = s.tracker.cycleCount := rfl
  intro reply now read value joins
  have hreply : reply = .next (deliverReply dst src fn payload heard) := rfl
  have hjoins (u : State) (x : Telegram) (h : deliverReply dst src fn payload heard = joinM x u) : joins u x := by
    obtain ⟨hroom, hfull⟩ := joinM_cases x u
    refine ⟨fun hlt => by rw [hreply, h, hroom hlt], fun hge => ?_⟩
    obtain ⟨c, hc, he⟩ := hfull hge
    exact ⟨c, hc, by rw [hreply, h, he]⟩
  refine ⟨observe (Telegram.make .reply dst src fn payload) heard, fun hl => observe_search (s := heard) hl _,
    fun hl hs ht => ?_,
    fun hfn => hjoins _ _ (deliverReply_other hfn dst src payload heard), fun hfn hshort => ?_, ?_⟩
  · obtain ⟨v, arrivals, hv, hstored, hrecord, hrows, hroles, hmem, hfold, hframe, hcrushers, hfeeders⟩ :=
      observed_locked (s := heard) hl (hs.of_tables rfl) (ht.of_tables rfl) (Telegram.make .reply dst src fn payload)
    exact ⟨v, arrivals, hv, hstored, hrecord, hrows, hroles, hmem, hfold, hframe, hcrushers, hfeeders⟩
  · subst hfn
    exact hjoins _ _ (deliverReply_rollCall dst src payload (passRollCall_short hshort _))
  · rintro a hi lo rest rfl rfl
    refine ⟨fun n hb ha hclear => ?_, fun h => ?_⟩
    · obtain ⟨hi', lo', hbits, hpass⟩ := passRollCall_sets
        (t := Telegram.make .reply dst src 0x15 (a :: hi :: lo :: rest))
        rfl hb ha hclear
      exact ⟨hi', lo', fun m _ => hbits m, hjoins _ _ (deliverReply_rollCall dst src _ hpass)⟩
    · exact hjoins _ _ (deliverReply_rollCall dst src _ (passRollCall_leaves rfl h))

end Sys2Proof.Machine
end

section
/-!
PROOF. Trips, stand-downs, computations and raisings, each said once: what the work of a counted cycle (O17) and the
application of a commit (O18) are made of.
-/

namespace Sys2Proof.Machine

/-! ### Causes as crushers change (R46, R58, R186) -/

theorem CauseUnit.Counted.cease_eq {u : CauseUnit} (h : u.Counted) {x : Cause} (hx : (u.entry x).pending = false) :
    u.cease x = u := by
  refine CauseUnit.ext_entry (fun y => ?_) rfl rfl rfl
  rw [CauseUnit.entry_cease]
  split
  · subst_vars
    have hc := (h.zero y).2 hx
    cases he : u.entry y
    simp_all
  · rfl

/-- What of the cause invariant the crushers keep by themselves: the counts, and the two level causes of theirs. -/
structure PlantCauses (s : State) : Prop where
  counted : s.causes.Counted
  fault : (s.causes.entry .crusherFault).pending = levelHolds .crusherFault s
  due : (s.causes.entry .linerDue).pending = levelHolds .linerDue s

theorem CauseInv.plantCauses {s : State} (h : CauseInv s) : PlantCauses s :=
  ⟨h.counted, h.level _ rfl, h.level _ rfl⟩

theorem PlantCauses.of_eq {s t : State} (h : PlantCauses s) (hc : t.causes = s.causes)
    (hk : t.crushers = s.crushers) : PlantCauses t := by
  have hl (x : Cause) (hx : x = .crusherFault ∨ x = .linerDue) : levelHolds x t = levelHolds x s := by
    rcases hx with rfl | rfl <;> simp only [levelHolds, State.crusher_congr hk]
  exact ⟨hc ▸ h.counted, by rw [hc, hl _ (.inl rfl)]; exact h.fault, by rw [hc, hl _ (.inr rfl)]; exact h.due⟩

/-- Raising other causes keeps what the crushers keep. -/
theorem PlantCauses.raised {s t : State} (h : PlantCauses s) {l : List Cause} {mask : BitVec 14}
    (hc : t.causes = l.foldl (fun u c => u.raise mask c) s.causes) (hk : t.crushers = s.crushers)
    (hf : .crusherFault ∉ l) (hd : .linerDue ∉ l) : PlantCauses t := by
  have hl (x : Cause) (hx : x = .crusherFault ∨ x = .linerDue) : levelHolds x t = levelHolds x s := by
    rcases hx with rfl | rfl <;> simp only [levelHolds, State.crusher_congr hk]
  refine ⟨hc ▸ h.counted.raises _ _, ?_, ?_⟩
  · rw [hc, CauseUnit.entry_raises hf, hl _ (.inl rfl)]; exact h.fault
  · rw [hc, CauseUnit.entry_raises hd, hl _ (.inr rfl)]; exact h.due

theorem PlantCauses.changeCrusher {s : State} (h : PlantCauses s) {k : Fin 4} {ch : Change}
    (hr : ∀ x ∈ ch.raises, x.isLevel = false) : PlantCauses (changeCrusher k ch s) := by
  have hn {x : Cause} (hx : x.isLevel = true) : x ∉ ch.raises := fun hm => by simp [hr x hm] at hx
  have ht : (Machine.changeCrusher k ch s).causes = causesAfter s k ch := by rw [changeCrusher_eq]
  refine ⟨ht ▸ causesAfter_counted h.counted k ch, ?_, ?_⟩
  · rw [ht, causesAfter_crusherFault h.fault (hn rfl), changeCrusher_eq]; rfl
  · rw [ht, causesAfter_linerDue h.due (hn rfl), changeCrusher_eq]; rfl

/-- What a change of a crusher raises: its edge causes, CRUSHER_FAULT at an entry to FAULT, LINER_DUE on becoming
due. -/
def Change.causes (ch : Change) (old : Crusher) : List Cause :=
  ch.raises ++ (if old.state ≠ .fault ∧ ch.crusher.state = .fault then [.crusherFault] else []) ++
    if old.due = false ∧ ch.crusher.due = true then [.linerDue] else []

/-- A change that raises edge causes and ends neither FAULT nor a due liner raises what it raises, and nothing
ceases. -/
theorem causesAfter_eq {s : State} (h : PlantCauses s) {k : Fin 4} {ch : Change}
    (hr : ∀ x ∈ ch.raises, x.isLevel = false) (hd : (s.crusher k).due = true → ch.crusher.due = true)
    (hf : (s.crusher k).state = .fault → ch.crusher.state = .fault) :
    causesAfter s k ch = (ch.causes (s.crusher k)).foldl (fun u c => u.raise s.params.causeMask c) s.causes := by
  have hkeeps {x : Cause} (hx : x = .crusherFault ∨ x = .linerDue)
      (hend : levelHolds x (s.setCrusher k ch.crusher) = false) :
      levelHolds x s = false ∧ x ∉ ch.causes (s.crusher k) := by
    have hn : x ∉ ch.raises := fun hm => by
      have := hr x hm
      rcases hx with rfl | rfl <;> cases this
    have hself : (s.setCrusher k ch.crusher).crusher k = ch.crusher := by simp
    rcases hx with rfl | rfl
    · rw [← Bool.not_eq_true, levelHolds_crusherFault, not_exists] at hend ⊢
      have hnew := hself ▸ hend k
      refine ⟨fun j hj => ?_, by simp [Change.causes, hn, hnew]⟩
      have hall := hend j
      rw [State.crusher_setCrusher] at hall
      split at hall
      · subst_vars; exact hnew (hf hj)
      · exact hall hj
    · rw [← Bool.not_eq_true, levelHolds_linerDue, not_exists] at hend ⊢
      have hnew := hself ▸ hend k
      refine ⟨fun j hj => ?_, by simp [Change.causes, hn, hnew]⟩
      have hall := hend j
      rw [State.crusher_setCrusher] at hall
      split at hall
      · subst_vars; exact hnew (hd hj)
      · exact hall hj
  have hsettles (x : Cause) (hx : x = .crusherFault ∨ x = .linerDue) :
      (if levelHolds x (s.setCrusher k ch.crusher) then
        (ch.causes (s.crusher k)).foldl (fun u c => u.raise s.params.causeMask c) s.causes
      else ((ch.causes (s.crusher k)).foldl (fun u c => u.raise s.params.causeMask c) s.causes).cease x) =
        (ch.causes (s.crusher k)).foldl (fun u c => u.raise s.params.causeMask c) s.causes := by
    split
    · rfl
    · rename_i hend
      obtain ⟨hbefore, hnot⟩ := hkeeps hx (Bool.eq_false_iff.2 hend)
      refine (h.counted.raises _ _).cease_eq ?_
      rw [CauseUnit.entry_raises hnot, ← hbefore]
      rcases hx with rfl | rfl
      · exact h.fault
      · exact h.due
  have hraised (mask : BitVec 14) (u : CauseUnit) :
      (ch.causes (s.crusher k)).foldl (fun u c => u.raise mask c) u =
        (if !(s.crusher k).due && ch.crusher.due then
          (if (s.crusher k).state != .fault && ch.crusher.state == .fault then
            (ch.raises.foldl (fun u c => u.raise mask c) u).raise mask .crusherFault
          else ch.raises.foldl (fun u c => u.raise mask c) u).raise mask .linerDue
        else
          if (s.crusher k).state != .fault && ch.crusher.state == .fault then
            (ch.raises.foldl (fun u c => u.raise mask c) u).raise mask .crusherFault
          else ch.raises.foldl (fun u c => u.raise mask c) u) := by
    unfold Change.causes
    rw [List.foldl_append, List.foldl_append]
    by_cases h1 : (s.crusher k).state ≠ .fault ∧ ch.crusher.state = .fault <;>
      by_cases h2 : (s.crusher k).due = false ∧ ch.crusher.due = true <;> simp [h1, h2]
  unfold causesAfter
  dsimp only
  rw [← hraised, hsettles _ (.inl rfl), hsettles _ (.inr rfl)]

theorem count_ite_singleton (p : Prop) [Decidable p] (a x : Cause) :
    (if p then [a] else []).count x = if x = a then (if p then 1 else 0) else 0 := by
  by_cases hx : x = a
  · subst hx
    split <;> simp
  · rw [if_neg hx]
    split
    · exact List.count_eq_zero.2 (by simpa using hx)
    · rfl

/-- The causes of a change, counted. -/
theorem raisedEach_changeCrusher {s : State} (h : PlantCauses s) {k : Fin 4} {ch : Change}
    (hr : ∀ x ∈ ch.raises, x.isLevel = false) (hd : (s.crusher k).due = true → ch.crusher.due = true)
    (hf : (s.crusher k).state = .fault → ch.crusher.state = .fault) :
    RaisedEach s.params.causeMask (fun x => (ch.causes (s.crusher k)).count x) s.causes
      (changeCrusher k ch s).causes := by
  have hcauses : (changeCrusher k ch s).causes = causesAfter s k ch := by rw [changeCrusher_eq]
  rw [hcauses, causesAfter_eq h hr hd hf]
  exact raisedEach_foldl _ _ _

/-- A crusher that takes a new value which is in FAULT and due as the old one was leaves the causes. -/
theorem causes_changeCrusher_quiet {s : State} (h : PlantCauses s) {k : Fin 4} {new : Crusher}
    (hd : new.due = (s.crusher k).due) (hf : new.state = .fault ↔ (s.crusher k).state = .fault) :
    (changeCrusher k (quiet new) s).causes = s.causes := by
  have hcauses : (changeCrusher k (quiet new) s).causes = causesAfter s k (quiet new) := by rw [changeCrusher_eq]
  rw [hcauses, causesAfter_eq h (by simp [quiet]) (fun hold => hd.trans hold) hf.2]
  have hnone : (quiet new).causes (s.crusher k) = [] := by
    by_cases hn : new.state = .fault <;> cases hb : (s.crusher k).due <;> simp_all [Change.causes, quiet]
  rw [hnone]
  rfl

/-! ### Stand-downs and trips (R45, R93, R133, R134) -/

theorem standDown_eq (g : Bool) (x : Crusher) : standDown g x = x.stoodDown g := by
  cases hs : x.state <;> cases hm : x.moveRec <;> cases g <;>
    simp [standDown, Crusher.stoodDown, CrusherState.isEnabled, Crusher.abort, Crusher.stopCommand, hs, hm]

theorem standDown_fault (g : Bool) (x : Crusher) : (standDown g x).state = .fault ↔ x.state = .fault := by
  rw [standDown_eq]
  unfold Crusher.stoodDown
  split
  · rename_i h
    simp only [List.mem_cons, List.not_mem_nil, or_false] at h
    rcases h with h | h | h | h <;> simp [h]
  · rfl

/-- The signal of R45 raises nothing and ends nothing. -/
theorem signalCrushers_causes {s : State} (h : PlantCauses s) :
    PlantCauses (signalCrushers s) ∧ (signalCrushers s).causes = s.causes := by
  unfold signalCrushers
  refine forFour_induct (fun t => PlantCauses t ∧ t.causes = s.causes) ⟨h, rfl⟩ fun k t ht =>
    ⟨ht.1.changeCrusher (by simp [quiet]), ?_⟩
  rw [causes_changeCrusher_quiet ht.1 (standDown_due _ _) (standDown_fault _ _)]
  exact ht.2

theorem discardStop_eq (how : StopEnd) (s : State) :
    discardStop how s =
      { s with
        line :=
          { s.line with
            stopRec := none
            lastStopEnd := if s.line.stopRec.isSome then how else s.line.lastStopEnd } } := by
  unfold discardStop
  rcases s with ⟨_, _, _, _, _, _, _, _, _, _, _, _, _, _, _, _, _, ⟨_, _ | _, _, _, _⟩, _, _, _, _, _⟩ <;> rfl

/-- The change of mode at an entry to TRIPPED raises TRIP, and halts crushers and feeders (R45, R93). -/
theorem changeMode_tripped {s : State} (h : PlantCauses s) (hm : s.line.lineMode ≠ .tripped) :
    (changeMode .tripped s).causes = s.causes.raise s.params.causeMask .trip ∧ Halted s (changeMode .tripped s) ∧
      PlantCauses (changeMode .tripped s) := by
  have hsignals : signalsCrushers s.line.lineMode .tripped = true := by simp [signalsCrushers, hm]
  have hzeroes : zeroesFeeders s.line.lineMode .tripped = true := by simp [zeroesFeeders, hm]
  have hmode : (changeMode .tripped s).causes = s.causes.raise s.params.causeMask .trip ∧
      PlantCauses (changeMode .tripped s) := by
    unfold changeMode
    dsimp only
    rw [if_pos hzeroes, if_pos hsignals, settleLevel_eq, raiseIf_eq]
    generalize hz : zeroFeeders _ = z
    have hz' : z.causes = s.causes := by rw [← hz]; simp
    have hplant : PlantCauses z := h.of_eq hz' (by rw [← hz]; simp)
    have hmode : z.line.lineMode = .tripped := by rw [← hz]; simp
    have hparams : (signalCrushers z).params = s.params := by
      rw [← hz]; simp [State.params]
    have htrip (u : CauseUnit) : levelHolds .trip { signalCrushers z with causes := u } = true := by
      simp [levelHolds, hmode]
    obtain ⟨hafter, hcauses⟩ := signalCrushers_causes hplant
    have hraise : (s.line.lineMode != .tripped && LineMode.tripped == .tripped) = true := by simp [hm]
    rw [htrip, hraise, hcauses, hz', hparams]
    generalize signalCrushers z = w at hafter hcauses
    exact ⟨rfl, hafter.raised (l := [.trip]) (by rw [hcauses, hz']; rfl) rfl (by decide) (by decide)⟩
  refine ⟨hmode.1, ⟨fun k => ?_, fun j => ?_⟩, hmode.2⟩
  · rw [crusher_changeMode, if_pos hsignals, standDown_eq]
  · rw [feeder_changeMode, hzeroes]; rfl

/-- The line as an entry to TRIPPED leaves it (R134). -/
def trippedLine (a : TripInputs) (s : State) : LineControl :=
  { lineMode := .tripped
    stopRec := none
    lastStopEnd := if s.line.stopRec.isSome then .tripped else s.line.lastStopEnd
    tripRec := some { fromMode := s.line.lineMode, entryCycle := s.tracker.cycleCount, inputs := a }
    tripEntries := min 65535 (s.line.tripEntries + 1) }

/-- Entry to TRIPPED (R134). -/
theorem enterTripped_eq {s : State} (h : PlantCauses s) (hm : s.line.lineMode ≠ .tripped) (a : TripInputs) :
    (enterTripped a s).causes = s.causes.raise s.params.causeMask .trip ∧ Halted s (enterTripped a s) ∧
      (enterTripped a s).line = trippedLine a s ∧ (enterTripped a s).pins = { s.pins with tripOut := true } ∧
      PlantCauses (enterTripped a s) := by
  unfold enterTripped
  rw [discardStop_eq]
  dsimp only
  generalize ht : ({ s with line := _ } : State) = t
  have hc : t.causes = s.causes := by rw [← ht]
  have hmode : t.line.lineMode = s.line.lineMode := by rw [← ht]
  have hk (k : Fin 4) : t.crusher k = s.crusher k := by rw [← ht]; rfl
  have hj (j : Fin 4) : t.feeder j = s.feeder j := by rw [← ht]; rfl
  have htab : t.activeTable = s.activeTable := by rw [← ht]
  have hparams : t.params = s.params := by rw [← ht]; rfl
  obtain ⟨hcauses, hhalt, hplant⟩ := changeMode_tripped (h.of_eq hc (by rw [← ht])) (hmode ▸ hm)
  refine ⟨by rw [hcauses, hc, hparams], ⟨fun k => ?_, fun j => ?_⟩, ?_, ?_, hplant⟩
  · rw [hhalt.crushers, hk, htab]
  · rw [hhalt.feeders, hj, htab]
  · rw [(changeMode_line _ _).1, ← ht]; rfl
  · rw [(changeMode_line _ _).2, ← ht]; rfl

/-- An evaluation in TRIPPED adds what it found to the trip record (R133). -/
theorem takeTripInputs_added {s : State} (hm : s.line.lineMode = .tripped) {a : TripInputs} (ha : a.any = true) :
    takeTripInputs a s = addTripInputs a s := by
  unfold takeTripInputs
  rw [if_pos ha, if_pos hm]

theorem takeTripInputs_entered {s : State} (hm : s.line.lineMode ≠ .tripped) {a : TripInputs} (ha : a.any = true) :
    takeTripInputs a s = enterTripped a s := by
  unfold takeTripInputs
  rw [if_pos ha, if_neg hm]

/-! ### Computations (R82) -/

/-- What a computation makes of its feeder (R82, R90). -/
def computedFeeder (s : State) (j : Fin 4) : Feeder :=
  let f := s.feeder j
  let r := computation s j
  { f with
    output := r.output, lastComputeCycle := s.tracker.cycleCount, stage := some r.stage
    driveValue := if r.output = f.output then f.driveValue else driveValueOf s.activeTable j r.output }

theorem feeder_computeFeeder (s : State) (i j : Fin 4) :
    (computeFeeder i s).feeder j = if i = j then computedFeeder s i else s.feeder j := by
  unfold computeFeeder
  dsimp only
  rw [raiseTimes_eq]
  exact State.feeder_setFeeder s i j _

theorem causes_computeFeeder (s : State) (j : Fin 4) :
    (computeFeeder j s).causes =
      (List.replicate (computation s j).gaps .configGap).foldl (fun u c => u.raise s.params.causeMask c) s.causes := by
  unfold computeFeeder
  dsimp only
  rw [raiseTimes_eq]
  rfl

theorem PlantCauses.computeFeeder {s : State} (h : PlantCauses s) (k : Fin 4) :
    PlantCauses (computeFeeder k s) ∧
      ∀ x, x ≠ .configGap → (Machine.computeFeeder k s).causes.entry x = s.causes.entry x :=
  ⟨h.raised (causes_computeFeeder s k) (by simp) (by simp) (by simp), fun x hx => by
    rw [causes_computeFeeder, CauseUnit.entry_raises (by simp [hx])]⟩

/-- Of the feeders a computation reads its own, and of causes and free choices none. -/
theorem computedFeeder_congr {s t : State} {F : Vector Feeder 4} {C : CauseUnit} {n : Nat}
    (h : t = { s with feeders := F, causes := C, freeCount := n }) {j : Fin 4} (hf : t.feeder j = s.feeder j) :
    computedFeeder t j = computedFeeder s j := by
  subst h
  unfold computedFeeder computation
  dsimp only
  rw [hf]
  rfl

/-- A computation in TRIPPED leaves a feeder that is at 0 there (R88, R89, R90). -/
theorem computation_output_zero {s : State} {j : Fin 4} (hm : s.line.lineMode = .tripped)
    (h0 : (s.feeder j).output = 0) : (computation s j).output = 0 := by
  simp [computation, capStage, hm, slewStage, h0, minRunStage, clamp]

end Sys2Proof.Machine
end

section
/-!
PROOF. The work of a counted cycle (O17): the records that age out and whom they are told, the crushers, and the confirm
supervision.
-/

namespace Sys2Proof.Machine

/-! ### Stale notices (R82, R133) -/

theorem noticeStale_power {s : State} {i : Fin 32} {k : Fin 4} (h : s.activeTable[i].holds (.power k) = true) :
    noticeStale i s = computeFeeder k s := by
  obtain ⟨hu, hr⟩ := (Entry.holds_iff _ _).1 h
  unfold noticeStale
  rw [if_pos hu, hr]

theorem noticeStale_trip {s : State} {i : Fin 32} (h : s.activeTable[i].holds .tripUnit = true) :
    noticeStale i s = evaluateTrip s := by
  obtain ⟨hu, hr⟩ := (Entry.holds_iff _ _).1 h
  unfold noticeStale
  rw [if_pos hu, hr]

theorem noticeStale_other {s : State} {i : Fin 32} (hp : ∀ k, s.activeTable[i].holds (.power k) = false)
    (ht : s.activeTable[i].holds .tripUnit = false) : noticeStale i s = s := by
  unfold noticeStale
  split
  · rename_i hu
    split
    · rename_i k hr
      exact absurd ((Entry.holds_iff _ _).2 ⟨hu, hr⟩) (by rw [hp k]; decide)
    · rename_i hr
      exact absurd ((Entry.holds_iff _ _).2 ⟨hu, hr⟩) (by rw [ht]; decide)
    · rfl
  · rfl

/-- One entry is told: a feeder computes, the trip inputs are evaluated, or nothing happens. -/
theorem noticeStale_cases (i : Fin 32) (s : State) :
    (∃ k, s.activeTable[i].holds (.power k) = true ∧ noticeStale i s = computeFeeder k s) ∨
      (s.activeTable[i].holds .tripUnit = true ∧ noticeStale i s = evaluateTrip s) ∨
      ((∀ k, s.activeTable[i].holds (.power k) = false) ∧ s.activeTable[i].holds .tripUnit = false ∧
        noticeStale i s = s) := by
  by_cases hp : ∃ k, s.activeTable[i].holds (.power k) = true
  · obtain ⟨k, hk⟩ := hp
    exact .inl ⟨k, hk, noticeStale_power hk⟩
  · simp only [not_exists, Bool.not_eq_true] at hp
    cases ht : s.activeTable[i].holds .tripUnit with
    | true => exact .inr (.inl ⟨rfl, noticeStale_trip ht⟩)
    | false => exact .inr (.inr ⟨hp, rfl, noticeStale_other hp ht⟩)

/-- A computation touches the feeders and the causes. -/
theorem computeFeeder_eq (k : Fin 4) (s : State) :
    computeFeeder k s =
      { s with feeders := (computeFeeder k s).feeders, causes := (computeFeeder k s).causes } := by
  unfold computeFeeder
  dsimp only
  rw [raiseTimes_eq]
  rfl

/-- A STALE trip word is a trip input (R132). -/
theorem tripInputs_unitStale {s : State}
    (hp : ∀ i : Fin 32, s.activeTable[i].used = true → Passes s.ownAddress s.activeTable i) {i : Fin 32}
    (hi : s.activeTable[i].holds .tripUnit = true) (hs : ∀ rec, s.store[i] = some rec → rec.fresh = false) :
    (tripInputs s).unitStale = true := by
  have hindex := (roleIndex_of_holds hp).2 hi
  unfold tripInputs State.recordOf
  rw [if_pos (hasRole_iff.2 ⟨i, hi⟩), hindex]
  rcases hr : s.store[i] with _ | rec <;> simp only [Option.bind_some, hr]
  rw [if_neg (by rw [hs rec hr]; decide)]

/-! ### Whom a change of the store is told (R13, R19) -/

/-- The line has been tripped by a stale unit since `s`, or was before (R133, R134). -/
structure Tripped (s t : State) : Prop where
  mode : t.line.lineMode = .tripped
  record : (s.line.lineMode = .tripped → s.line.tripRec.isSome = true) →
    t.line.tripRec.any (fun r => r.inputs.unitStale) = true
  outputs : s.line.lineMode ≠ .tripped → ∀ j, (t.feeder j).output = 0
  crushers : s.line.lineMode ≠ .tripped → ∀ k, t.crusher k = (s.crusher k).stoodDown (governed s.activeTable k)

/-- While the owners of stale records are told: what stays, and the line as it was or tripped. -/
structure Telling (s t : State) : Prop where
  plant : PlantCauses t
  table : t.activeTable = s.activeTable
  straps : t.straps = s.straps
  store : t.store = s.store
  entries : ∀ x, x ≠ .configGap → x ≠ .trip → t.causes.entry x = s.causes.entry x
  line : t.line = s.line ∧ t.crushers = s.crushers ∨ Tripped s t

variable {s t : State}

theorem Tripped.compute (h : Tripped s t) (k : Fin 4) : Tripped s (computeFeeder k t) := by
  have hl : (computeFeeder k t).line = t.line := by simp
  have hc : (computeFeeder k t).crushers = t.crushers := by simp
  refine ⟨hl ▸ h.mode, hl ▸ h.record, fun hm j => ?_, fun hm j => ?_⟩
  · rw [feeder_computeFeeder]
    split
    · exact computation_output_zero h.mode (h.outputs hm _)
    · exact h.outputs hm j
  · rw [State.crusher_congr hc]
    exact h.crushers hm j

theorem Telling.compute (h : Telling s t) (k : Fin 4) : Telling s (computeFeeder k t) := by
  have hc : (computeFeeder k t).crushers = t.crushers := by simp
  obtain ⟨hplant, hentries⟩ := h.plant.computeFeeder k
  refine ⟨hplant, by simp [h.table], by simp [h.straps], by simp [h.store], fun x hx hx' => ?_, ?_⟩
  · exact (hentries x hx).trans (h.entries x hx hx')
  · rcases h.line with ⟨hl, hk⟩ | ht
    · exact .inl ⟨by simp [hl], by simp [hk]⟩
    · exact .inr (ht.compute k)

/-- A stale trip unit, told, trips the line (R133, R134). -/
theorem Telling.trip (h : Telling s t) (hu : (tripInputs t).unitStale = true) :
    Telling s (evaluateTrip t) ∧ Tripped s (evaluateTrip t) := by
  have hany : (tripInputs t).any = true := by simp [TripInputs.any, hu]
  have hadds (o : Option TripRec) (ho : o.isSome = true) :
      (o.map fun r => { r with inputs := r.inputs.union (tripInputs t) }).any (fun r => r.inputs.unitStale) = true := by
    cases o with
    | none => cases ho
    | some r => simp [TripInputs.union, hu]
  unfold evaluateTrip
  by_cases hm : t.line.lineMode = .tripped
  · rw [takeTripInputs_added hm hany]
    have htripped : Tripped s (addTripInputs (tripInputs t) t) := by
      rcases h.line with ⟨hl, hk⟩ | ht
      · have hs : s.line.lineMode = .tripped := hl ▸ hm
        exact ⟨hm, fun hsome => hadds _ (hl ▸ hsome hs), fun hn => absurd hs hn, fun hn => absurd hs hn⟩
      · refine ⟨hm, fun hsome => hadds _ ?_, ht.outputs, ht.crushers⟩
        obtain ⟨r, hr, -⟩ := (Option.any_eq_true _ _).1 (ht.record hsome)
        exact Option.isSome_iff_exists.2 ⟨r, hr⟩
    exact ⟨⟨h.plant.of_eq rfl rfl, h.table, h.straps, h.store, h.entries, .inr htripped⟩, htripped⟩
  · rw [takeTripInputs_entered hm hany]
    obtain ⟨hl, hk⟩ : t.line = s.line ∧ t.crushers = s.crushers := h.line.resolve_right fun ht => hm ht.mode
    obtain ⟨hcauses, hhalt, hline, -, hplant⟩ := enterTripped_eq h.plant hm (tripInputs t)
    have htripped : Tripped s (enterTripped (tripInputs t) t) := by
      refine ⟨by rw [hline]; rfl, fun _ => by rw [hline]; simp [trippedLine, hu], fun _ j => ?_, fun _ k => ?_⟩
      · rw [hhalt.feeders]
      · rw [hhalt.crushers, State.crusher_congr hk, h.table]
    refine ⟨⟨hplant, by simp [h.table], by simp [h.straps], by simp [h.store], fun x hx hx' => ?_, .inr htripped⟩,
      htripped⟩
    rw [hcauses, CauseUnit.entry_raise, if_neg hx']
    exact h.entries x hx hx'

/-- An owner is told of a stale record (R82, R133). -/
theorem Telling.notice (hp : ∀ i : Fin 32, s.activeTable[i].used = true → Passes s.ownAddress s.activeTable i)
    (h : Telling s t) {i : Fin 32} (hs : ∀ rec, s.store[i] = some rec → rec.fresh = false) :
    Telling s (noticeStale i t) ∧ (Tripped s t → Tripped s (noticeStale i t)) ∧
      (s.activeTable[i].holds .tripUnit = true → Tripped s (noticeStale i t)) := by
  rw [← h.table]
  rcases noticeStale_cases i t with ⟨k, hk, he⟩ | ⟨hk, he⟩ | ⟨-, hk, he⟩
  · rw [he]
    refine ⟨h.compute k, fun ht => ht.compute k, fun hi => ?_⟩
    rw [Entry.holds_iff] at hk hi
    cases hk.2.symm.trans hi.2
  · have hown : t.ownAddress = s.ownAddress := by simp only [State.ownAddress, h.straps]
    have hu := tripInputs_unitStale (by rw [hown, h.table]; exact hp) hk (by rw [h.store]; exact hs)
    rw [he]
    exact ⟨(h.trip hu).1, fun _ => (h.trip hu).2, fun _ => (h.trip hu).2⟩
  · rw [he]
    exact ⟨h, id, fun hi => by rw [hk] at hi; cases hi⟩

/-! ### The records that age out (R19) -/

theorem agesOut_eq (s : State) (i : Fin 32) :
    agesOut s i = (s.store[i]).any fun rec =>
      rec.fresh && rec.arrival.any fun a =>
        decide (s.activeTable[i].freshLimit.toNat < (s.tracker.cycleCount - a).toNat) := by
  unfold agesOut
  rcases s.store[i] with _ | ⟨_ | _, _ | _, _⟩ <;> rfl

/-- The entries whose record ages out. -/
def agedOut (s : State) : List (Fin 32) := indices.filter (agesOut s)

/-- The part with those records STALE (R19). -/
def agedStore (s : State) : State :=
  { s with store := (agedOut s).foldl (fun st (i : Fin 32) => st.set i (st[i].map Record.staled)) s.store }

/-- That, with STALE_INPUT raised once for each (R19). -/
def agedRaised (s : State) : State :=
  { agedStore s with
    causes :=
      (List.replicate (agedOut s).length .staleInput).foldl (fun u c => u.raise s.params.causeMask c) s.causes }

theorem cycleStore_eq (s : State) : cycleStore s = inFreeOrder (agedOut s) noticeStale (agedRaised s) := by
  unfold cycleStore
  dsimp only
  rw [raiseTimes_eq]
  rfl

theorem getElem_agedStore (s : State) (i : Fin 32) :
    (agedStore s).store[i] = if agesOut s i then (s.store[i]).map Record.staled else s.store[i] :=
  getElem_aged s i

theorem mem_agedOut {s : State} {i : Fin 32} : i ∈ agedOut s ↔ agesOut s i = true := by
  simp [agedOut, mem_indices]

theorem agedStore_stale {s : State} {i : Fin 32} (hi : i ∈ agedOut s) (rec : Record)
    (hr : (agedRaised s).store[i] = some rec) : rec.fresh = false := by
  have he : (agedRaised s).store[i] = (agedStore s).store[i] := rfl
  rw [he, getElem_agedStore, if_pos (mem_agedOut.1 hi)] at hr
  obtain ⟨old, -, rfl⟩ := Option.map_eq_some_iff.1 hr
  rfl

theorem agedRaised_telling {s : State} (h : CauseInv s) :
    Telling (agedRaised s) { agedRaised s with freeCount := (agedRaised s).freeCount + 1 } := by
  have hplant : PlantCauses (agedRaised s) :=
    h.plantCauses.raised (mask := s.params.causeMask) (l := List.replicate (agedOut s).length .staleInput) rfl rfl
      (by simp) (by simp)
  exact ⟨hplant.of_eq rfl rfl, rfl, rfl, rfl, fun _ _ _ => rfl, .inl ⟨rfl, rfl⟩⟩

/-- The counted cycle of the store, whatever order the owners are told in. -/
theorem cycleStore_telling {s : State} (h : CauseInv s) (ht : TableInv s) : Telling (agedRaised s) (cycleStore s) := by
  rw [cycleStore_eq]
  exact inFreeOrder_induct (Telling (agedRaised s)) (agedRaised_telling h) fun i hi t htell =>
    (htell.notice (s := agedRaised s) ht.passes (agedStore_stale hi)).1

/-- A trip unit whose record ages out trips the line (R133). -/
theorem cycleStore_tripped {s : State} (h : CauseInv s) (ht : TableInv s) {i : Fin 32} (hi : i ∈ agedOut s)
    (hu : s.activeTable[i].holds .tripUnit = true) : Tripped (agedRaised s) (cycleStore s) := by
  rw [cycleStore_eq]
  exact inFreeOrder_establishes (Telling (agedRaised s)) (Tripped (agedRaised s)) (agedRaised_telling h)
    (fun i hi t htell => (htell.notice (s := agedRaised s) ht.passes (agedStore_stale hi)).1)
    (fun i hi t htell => (htell.notice (s := agedRaised s) ht.passes (agedStore_stale hi)).2.1) hi
    fun t htell => (htell.notice (s := agedRaised s) ht.passes (agedStore_stale hi)).2.2 hu

/-! ### No trip unit among them -/

/-- Feeders and causes alone differ from those of `s`, and `n` free choices have been drawn. -/
structure FeedersOnly (n : Nat) (s t : State) : Prop where
  eq : t = { s with feeders := t.feeders, causes := t.causes, freeCount := n }

theorem FeedersOnly.table {n : Nat} (h : FeedersOnly n s t) : t.activeTable = s.activeTable := by rw [h.eq]

theorem FeedersOnly.notice {n : Nat} (h : FeedersOnly n s t) {i : Fin 32}
    (hu : s.activeTable[i].holds .tripUnit = false) : FeedersOnly n s (noticeStale i t) := by
  rcases noticeStale_cases i t with ⟨k, -, he⟩ | ⟨hk, -⟩ | ⟨-, -, he⟩
  · rw [he, computeFeeder_eq]
    generalize (computeFeeder k t).feeders = F
    generalize (computeFeeder k t).causes = C
    exact ⟨by rw [h.eq]⟩
  · rw [h.table, hu] at hk
    cases hk
  · rw [he]
    exact h

/-- A feeder computes as it does in `s` with the feeder itself as it stands. -/
theorem FeedersOnly.computed {n : Nat} (h : FeedersOnly n s t) (j : Fin 4) :
    (computeFeeder j t).feeder j = computedFeeder (s.setFeeder j (t.feeder j)) j := by
  rw [feeder_computeFeeder, if_pos rfl]
  exact computedFeeder_congr (s := s.setFeeder j (t.feeder j)) h.eq (by rw [State.feeder_setFeeder, if_pos rfl])

theorem agedStore_feedersOnly (s : State) :
    FeedersOnly (s.freeCount + 1) (agedStore s) { agedRaised s with freeCount := (agedRaised s).freeCount + 1 } :=
  ⟨rfl⟩

theorem cycleStore_feedersOnly {s : State} (hu : ∀ i ∈ agedOut s, s.activeTable[i].holds .tripUnit = false) :
    FeedersOnly (s.freeCount + 1) (agedStore s) (cycleStore s) := by
  rw [cycleStore_eq]
  exact inFreeOrder_induct (FeedersOnly (s.freeCount + 1) (agedStore s)) (agedStore_feedersOnly s) fun i hi t h =>
    h.notice (hu i hi)

/-- Told of stale records that are no trip unit's, a feeder computes where its POWER record is among them (R82). -/
theorem feeder_cycleStore {s : State} (ht : TableInv s)
    (hu : ∀ i ∈ agedOut s, s.activeTable[i].holds .tripUnit = false) (j : Fin 4) :
    (cycleStore s).feeder j =
      if (agedOut s).any (fun i => s.activeTable[i].holds (.power j)) then (computeFeeder j (agedStore s)).feeder j
      else s.feeder j := by
  have hkeeps : ∀ x ∈ agedOut s, ∀ t, FeedersOnly (s.freeCount + 1) (agedStore s) t →
      FeedersOnly (s.freeCount + 1) (agedStore s) (noticeStale x t) := fun x hx t h => h.notice (hu x hx)
  have hother (x : Fin 32) (hx : x ∈ agedOut s) (t : State) (h : FeedersOnly (s.freeCount + 1) (agedStore s) t)
      (hne : s.activeTable[x].holds (.power j) = false) : (noticeStale x t).feeder j = t.feeder j := by
    rcases noticeStale_cases x t with ⟨k, hk, he⟩ | ⟨hk, -⟩ | ⟨-, -, he⟩
    · rw [he, feeder_computeFeeder, if_neg]
      rintro rfl
      rw [h.table] at hk
      exact absurd hk (by rw [show (agedStore s).activeTable = s.activeTable from rfl, hne]; decide)
    · rw [h.table] at hk
      exact absurd hk (by rw [show (agedStore s).activeTable = s.activeTable from rfl, hu x hx]; decide)
    · rw [he]
  rw [cycleStore_eq]
  split
  · rename_i hany
    obtain ⟨i, hi, hpower⟩ := List.any_eq_true.1 hany
    have honce := inFreeOrder_once (FeedersOnly (s.freeCount + 1) (agedStore s)) (fun t => t.feeder j)
      (fun f => computedFeeder ((agedStore s).setFeeder j f) j) (actors := agedOut s) (indices_nodup.filter _) hi hkeeps
      (fun t h => by rw [noticeStale_power (by rw [h.table]; exact hpower)]; exact h.computed j)
      (fun x hx t h hne => hother x hx t h (Bool.eq_false_iff.2 fun hx' => hne (role_unique ht.passes hx' hpower)))
      (s := agedRaised s) (agedStore_feedersOnly s) rfl
    rw [honce, (FeedersOnly.computed (n := s.freeCount) (s := agedStore s) (t := agedStore s) ⟨rfl⟩ j)]
    rfl
  · rename_i hany
    simp only [List.any_eq_true, not_exists, not_and, Bool.not_eq_true] at hany
    refine (inFreeOrder_induct (fun t => FeedersOnly (s.freeCount + 1) (agedStore s) t ∧ t.feeder j = s.feeder j)
      ⟨agedStore_feedersOnly s, rfl⟩ fun x hx t h => ?_).2
    exact ⟨hkeeps x hx t h.1, (hother x hx t h.1 (hany x hx)).trans h.2⟩

end Sys2Proof.Machine
end

section
/-!
PROOF. The counted cycle of the crushers and of the confirm supervision (O17).
-/

namespace Sys2Proof.Machine

/-! ### Four changes one after another -/

theorem sum_map_ite_eq_length {α : Type} (p : α → Bool) (l : List α) :
    (l.map fun x => if p x then 1 else 0).sum = (l.filter p).length := by
  induction l with
  | nil => rfl
  | cons a l ih => cases h : p a <;> simp [h, ih, Nat.add_comm]

/-- Each of the four crushers raises what its own change raises. -/
theorem raisedEach_forFour {act : Fin 4 → State → State} (ch : Vector Entry 32 → Fin 4 → Crusher → Change)
    (hact : ∀ k t, act k t = changeCrusher k (ch t.activeTable k (t.crusher k)) t)
    (hr : ∀ tab k x, ∀ c ∈ (ch tab k x).raises, c.isLevel = false)
    (hd : ∀ tab k x, (ch tab k x).crusher.due = x.due)
    (hf : ∀ tab k x, x.state = .fault → (ch tab k x).crusher.state = .fault) {s : State} (h : PlantCauses s) :
    RaisedEach s.params.causeMask
      (fun c => (four.map fun k => ((ch s.activeTable k (s.crusher k)).causes (s.crusher k)).count c).sum)
      s.causes (forFour act s).causes := by
  have hall (l : List (Fin 4)) (hl : l.Nodup) (t : State) (ht : PlantCauses t) (htab : t.activeTable = s.activeTable)
      (hparams : t.params = s.params) (hsame : ∀ k ∈ l, t.crusher k = s.crusher k) :
      RaisedEach s.params.causeMask
        (fun c => (l.map fun k => ((ch s.activeTable k (s.crusher k)).causes (s.crusher k)).count c).sum)
        t.causes (l.foldl (fun t k => act k t) t).causes := by
    induction l generalizing t with
    | nil => exact raisedEach_none _ _
    | cons k l ih =>
      obtain ⟨hk, hl⟩ := List.nodup_cons.1 hl
      have hstep := raisedEach_changeCrusher (k := k) (ch := ch s.activeTable k (s.crusher k)) ht (hr _ _ _)
        (by rw [hsame k List.mem_cons_self, hd]; exact id) (by rw [hsame k List.mem_cons_self]; exact hf _ _ _)
      have hnext : act k t = changeCrusher k (ch s.activeTable k (s.crusher k)) t := by
        rw [hact, htab, hsame k List.mem_cons_self]
      rw [hsame k List.mem_cons_self, hparams, ← hnext] at hstep
      have hrest := ih hl (act k t) (hnext ▸ ht.changeCrusher (hr _ _ _)) (by rw [hnext]; simp [htab])
        (by rw [hnext]; simpa [State.params] using hparams) fun j hj => by
          rw [hnext, State.crusher_changeCrusher, if_neg fun he : k = j => hk (he ▸ hj)]
          exact hsame j (List.mem_cons_of_mem k hj)
      exact (hstep.trans hrest).congr fun _ => rfl
  exact hall four (List.nodup_finRange 4) s h rfl rfl fun _ _ => rfl

/-! ### The counted cycle of one crusher (R51, R57, R72) -/

/-- Whether the move of a crusher reaches its timeout at a counted cycle (R57). -/
def Crusher.expires (x : Crusher) : Bool :=
  x.moveRec.any fun m => decide (x.params.moveTimeout ≤ min 65535 (m.elapsed + 1))

/-- Whether a crusher has a move that has been issued. -/
def Crusher.flying (x : Crusher) : Bool := x.moveRec.any fun m => decide (m.phase ≠ .waiting)

/-- The context after a counted cycle (R51, R57, R72). -/
def Crusher.cycled (governed : Bool) (x : Crusher) : Crusher :=
  let settled : Crusher := { x with settleCount := x.settleCount - 1 }
  if x.expires && x.flying then
    { settled with moveRec := none, state := .fault, command := { kind := .stop, seq := x.moveSeq, step := 0 } }
  else if x.expires then
    { x with
      moveRec := none, settleCount := x.params.settleCycles
      state := if x.state = .move then .run else x.state }
  else if x.moveRec.isSome then
    { settled with moveRec := x.moveRec.map fun (m : Move) => { m with elapsed := min 65535 (m.elapsed + 1) } }
  else if x.state = .recover ∧ governed = false ∧ x.settleCount ≤ 1 then
    { settled with state := .run, reliefRec := none }
  else settled

theorem cycleCrusher_eq (g : Bool) (x : Crusher) :
    cycleCrusher g x = { crusher := x.cycled g, raises := if x.expires then [.moveFailed] else [] } := by
  have hafter : x.state.afterMove = if x.state = .move then .run else x.state := by
    cases hs : x.state <;> rfl
  unfold cycleCrusher Crusher.cycled
  dsimp only
  cases hm : x.moveRec with
  | none =>
    have hexpires : x.expires = false := by simp [Crusher.expires, hm]
    have hexit : (x.state == .recover && !g && x.settleCount - 1 == 0) = true ↔
        x.state = .recover ∧ g = false ∧ x.settleCount ≤ 1 := by
      simp only [Bool.and_eq_true, beq_iff_eq, Bool.not_eq_true', and_assoc, Nat.sub_eq_zero_iff_le]
    by_cases he : x.state = .recover ∧ g = false ∧ x.settleCount ≤ 1
    · simp [hexpires, he, quiet]
    · have hno : (x.state == .recover && !g && x.settleCount - 1 == 0) = false :=
        Bool.eq_false_iff.2 fun h => he (hexit.1 h)
      simp [hexpires, hno, he, quiet]
  | some m =>
    have hexpires : x.expires = decide (x.params.moveTimeout ≤ countUp m.elapsed) := by
      unfold Crusher.expires
      rw [hm]
      rfl
    have hflying : x.flying = decide (m.phase ≠ .waiting) := by simp [Crusher.flying, hm]
    by_cases ht : x.params.moveTimeout ≤ countUp m.elapsed
    · rw [decide_eq_true ht] at hexpires
      cases hp : m.phase <;> simp [ht, hexpires, hflying, expireMove, hp, Crusher.stopCommand, hafter]
    · rw [decide_eq_false ht] at hexpires
      have hcount : min 65535 (m.elapsed + 1) = countUp m.elapsed := rfl
      simp [ht, hexpires, quiet, hcount]

theorem cycled_due (g : Bool) (x : Crusher) : (x.cycled g).due = x.due := by
  unfold Crusher.cycled
  dsimp only
  split
  · rfl
  · split
    · rfl
    · split
      · rfl
      · split <;> rfl

/-- A counted cycle puts a crusher in FAULT exactly where an issued move times out (R57). -/
theorem cycled_fault (g : Bool) (x : Crusher) :
    (x.cycled g).state = .fault ↔ (x.expires && x.flying) = true ∨ x.state = .fault := by
  unfold Crusher.cycled
  dsimp only
  split
  · simp_all
  · split
    · split <;> simp_all
    · split
      · simp_all
      · split <;> simp_all

/-- What a counted cycle of one crusher raises (R46, R57). -/
theorem count_cycleCrusher_causes (g : Bool) (x : Crusher) (c : Cause) :
    ((cycleCrusher g x).causes x).count c =
      match c with
      | .moveFailed => if x.expires then 1 else 0
      | .crusherFault => if x.expires && x.flying && decide (x.state ≠ .fault) then 1 else 0
      | _ => 0 := by
  have hfault : (x.state ≠ .fault ∧ (x.cycled g).state = .fault) ↔
      (x.expires && x.flying && decide (x.state ≠ .fault)) = true := by
    rw [cycled_fault, Bool.and_eq_true (x.expires && x.flying), decide_eq_true_eq]
    exact ⟨fun h => ⟨h.2.resolve_right h.1, h.1⟩, fun h => ⟨h.2, .inl h.1⟩⟩
  have hdue : ¬(x.due = false ∧ x.due = true) := fun h => by rw [h.1] at h; cases h.2
  rw [cycleCrusher_eq]
  unfold Change.causes
  dsimp only
  rw [cycled_due, if_congr hfault rfl rfl, if_neg hdue]
  simp only [List.count_append, count_ite_singleton, List.count_nil]
  cases c <;> simp only [reduceCtorEq, if_false, if_true, Nat.zero_add, Nat.add_zero]

/-- The counted cycle of the crushers: contexts, feeders, causes, and nothing else. -/
theorem cycleCrushers_eq (s : State) :
    cycleCrushers s =
      { s with
        crushers := (cycleCrushers s).crushers
        feeders := (cycleCrushers s).feeders
        causes := (cycleCrushers s).causes } := by
  obtain ⟨h1, h2, h3, h4, h5, h6, h7, h8, h9, h10, h11, h12, h13, h14, h15, h16, h17, h18, h19, h20⟩ :=
    cycleCrushers_frame s
  exact State.ext_fields ⟨h1, h2, h3, h4, h5, h6, h7, h8, h9, h10, h11, h12, h13, h14, by dsimp only,
    by dsimp only, h15, h16, h17, h18, by dsimp only, h19, h20⟩

/-- A feeder goes to 0 where its crusher, in a run state, ends its issued move in FAULT (R57, R92). -/
theorem feeder_cycleCrushers_eq (s : State) (k : Fin 4) :
    (cycleCrushers s).feeder k =
      if ((s.crusher k).expires && (s.crusher k).flying) = true ∧ (s.crusher k).state.isRun = true then
        (s.feeder k).zeroed s.activeTable k
      else s.feeder k := by
  have hrun (g : Bool) (x : Crusher) :
      (x.state.isRun && !(x.cycled g).state.isRun) = true ↔ (x.expires && x.flying) = true ∧ x.state.isRun = true := by
    unfold Crusher.cycled
    dsimp only
    split
    · rename_i h
      simp [h, CrusherState.isRun]
    · rename_i h
      refine iff_of_false ?_ fun hc => h hc.1
      split
      · split <;> simp_all [CrusherState.isRun]
      · split
        · simp
        · split <;> simp_all [CrusherState.isRun]
  rw [feeder_cycleCrushers, cycleCrusher_eq]
  exact if_congr (hrun _ _) rfl rfl

theorem raisedEach_cycleCrushers {s : State} (h : CauseInv s) :
    RaisedEach s.params.causeMask
      (fun x =>
        match x with
        | .moveFailed => (four.filter fun k => (s.crusher k).expires).length
        | .crusherFault =>
          (four.filter fun k =>
            (s.crusher k).expires && (s.crusher k).flying && decide ((s.crusher k).state ≠ .fault)).length
        | _ => 0)
      s.causes (cycleCrushers s).causes := by
  have hr (tab : Vector Entry 32) (k : Fin 4) (x : Crusher) :
      ∀ c ∈ (cycleCrusher (governed tab k) x).raises, c.isLevel = false := by
    rw [cycleCrusher_eq]
    dsimp only
    split
    · intro c hc
      rw [List.mem_singleton.1 hc]
      rfl
    · simp
  have hall := raisedEach_forFour (fun tab k x => cycleCrusher (governed tab k) x) (fun _ _ => rfl) hr
    (fun tab k x => by rw [cycleCrusher_eq]; exact cycled_due _ _)
    (fun tab k x hx => by rw [cycleCrusher_eq]; exact (cycled_fault _ _).2 (.inr hx)) h.plantCauses
  refine hall.congr fun x => ?_
  simp only [count_cycleCrusher_causes]
  cases x with
  | moveFailed => exact (sum_map_ite_eq_length _ _).symm
  | crusherFault => exact (sum_map_ite_eq_length _ _).symm
  | _ => rfl

/-! ### The confirm supervision (R118, R119) -/

theorem entryOf_of_holds {tab : Vector Entry 32} {own : Option Byte}
    (hp : ∀ i : Fin 32, tab[i].used = true → Passes own tab i) {i : Fin 32} {r : Role} (hi : tab[i].holds r = true) :
    entryOf tab r = some tab[i] := by
  unfold entryOf
  rw [(roleIndex_of_holds hp).2 hi]
  rfl

theorem entryOf_eq_none {tab : Vector Entry 32} {r : Role} (h : ∀ i : Fin 32, tab[i].holds r = false) :
    entryOf tab r = none := by
  unfold entryOf
  rw [roleIndex_eq_none.2 h]
  rfl

/-- Supervision ended: the count and the mismatch cleared, and DIVERTER_MISMATCH with it (R118, R119). -/
structure SupervisionEnded (s t : State) : Prop where
  eq : t = { s with lots := { s.lots with mismatchCount := 0, mismatch := false }, causes := t.causes }
  others : ∀ x, x ≠ .diverterMismatch → t.causes.entry x = s.causes.entry x
  entry : t.causes.entry .diverterMismatch = { pending := false, count := 0 }
  attention : t.causes.attention = s.causes.attention
  sequence : t.causes.sequence = s.causes.sequence
  rollMisses : t.causes.rollMisses = s.causes.rollMisses

theorem cycleConfirm_ended {s : State} (h : (supervising s && !confirmMatches s) = false) :
    SupervisionEnded s (cycleConfirm s) := by
  have he : cycleConfirm s =
      { s with
        lots := { s.lots with mismatchCount := 0, mismatch := false }
        causes := s.causes.cease .diverterMismatch } := by
    unfold cycleConfirm
    rw [h, settleLevel_eq]
    rfl
  rw [he]
  exact ⟨rfl, fun x hx => by rw [CauseUnit.entry_cease, if_neg hx], by rw [CauseUnit.entry_cease, if_pos rfl], rfl, rfl,
    rfl⟩

/-- A cycle whose confirm does not match the command (R118). -/
theorem cycleConfirm_counted {s : State} (h : (supervising s && !confirmMatches s) = true) :
    cycleConfirm s =
      { s with
        lots :=
          { s.lots with
            mismatchCount := min 255 (s.lots.mismatchCount + 1)
            mismatch := s.lots.mismatch || decide (s.params.divertConfirm ≤ min 255 (s.lots.mismatchCount + 1)) }
        causes :=
          if decide (s.params.divertConfirm ≤ min 255 (s.lots.mismatchCount + 1)) && !s.lots.mismatch then
            s.causes.raise s.params.causeMask .diverterMismatch
          else s.causes } := by
  unfold cycleConfirm
  rw [h, raiseIf_eq]
  rfl

theorem supervising_iff {s : State} (ht : TableInv s) {i : Fin 32} (hi : s.activeTable[i].holds .diverter = true) :
    supervising s = true ↔ (s.activeTable[i].mode? = some .govern ∨ s.activeTable[i].mode? = some .clamp) ∧
      s.handler.dryRun = false := by
  unfold supervising governing
  rw [entryOf_of_holds ht.passes hi]
  simp [Entry.isGoverning]

theorem confirmMatches_iff {s : State} (ht : TableInv s) {i : Fin 32} (hi : s.activeTable[i].holds .diverter = true) :
    confirmMatches s =
      ((s.store[i]).any (fun x => x.fresh && decide (x.value = .confirm (some s.lots.divertCommand))) ||
        decide (s.activeTable[i].mode? = some .clamp) &&
          (s.store[i]).any fun x => x.fresh && decide (x.value = .confirm (some .reject))) := by
  have hr : s.recordOf .diverter = s.store[i] := by
    obtain ⟨hu, hrole⟩ := (Entry.holds_iff _ _).1 hi
    exact recordOf_of_holds ht rfl hu hrole
  unfold confirmMatches
  rw [hr, entryOf_of_holds ht.passes hi]
  cases s.store[i] with
  | none => simp
  | some rec =>
    obtain ⟨fresh, arrival, value⟩ := rec
    cases fresh with
    | false => simp
    | true =>
      cases value with
      | confirm v =>
        cases v with
        | none => simp [Record.confirm?]
        | some d => simp [Record.confirm?, Bool.and_comm, Bool.beq_eq_decide_eq]
      | _ => simp [Record.confirm?]

/-! ### The parts put together (O17) -/

theorem entry_agedRaised (s : State) (x : Cause) :
    (agedRaised s).causes.entry x =
      if x = .staleInput ∧ agedOut s ≠ [] then
        { pending := true
          count :=
            min 255 ((if (s.causes.entry x).pending then (s.causes.entry x).count else 0) + (agedOut s).length) }
      else s.causes.entry x := by
  have hr := raisedEach_foldl s.params.causeMask (List.replicate (agedOut s).length .staleInput) s.causes
  have hcount (y : Cause) : (List.replicate (agedOut s).length Cause.staleInput).count y =
      if y = .staleInput then (agedOut s).length else 0 := by
    rw [List.count_replicate]
    by_cases hy : y = .staleInput
    · simp [hy]
    · simp [hy, Ne.symm hy]
  by_cases hx : x = .staleInput ∧ agedOut s ≠ []
  · have hpos : 0 < (agedOut s).length := List.length_pos_iff.2 hx.2
    refine (hr.raised x (by rw [hcount, if_pos hx.1]; exact hpos)).trans ?_
    rw [if_pos hx, hcount, if_pos hx.1]
  · refine (hr.others x ?_).trans (if_neg hx).symm
    rw [hcount]
    split
    · rename_i hy
      simpa [hy] using hx
    · rfl

/-- The counted cycle of the store (R19). -/
theorem cycleStore_work {s : State} (h : CauseInv s) (ht : TableInv s) :
    (∀ i : Fin 32, (cycleStore s).store[i] = if agesOut s i then (s.store[i]).map Record.staled else s.store[i]) ∧
      (agedOut s = [] → (cycleStore s).causes = s.causes) ∧
      (∀ x, x ≠ .configGap → x ≠ .trip → (cycleStore s).causes.entry x = (agedRaised s).causes.entry x) := by
  have htell := cycleStore_telling h ht
  refine ⟨fun i => ?_, fun hnone => ?_, htell.entries⟩
  · rw [htell.store]
    exact getElem_agedStore s i
  · rw [cycleStore_eq, hnone]
    show (agedRaised s).causes = s.causes
    unfold agedRaised
    rw [hnone]
    rfl

/-- Settles O17: the store, the crushers and the confirm supervision at a counted cycle. -/
theorem countedCycleWork : Obligations.CountedCycleWork := by
  intro s h ht
  refine ⟨?_, ?_, ?_⟩
  · intro out stale staleRole t aged
    have hout (i : Fin 32) : agesOut s i = out i := agesOut_eq s i
    have hstale : agedOut s = stale := List.filter_congr fun i _ => hout i
    have hrole (r : Role) : staleRole r = (agedOut s).any fun i => s.activeTable[i].holds r := by rw [hstale]
    have hcycle : t = cycleStore s := rfl
    obtain ⟨hstore, hnone, hentries⟩ := cycleStore_work h ht
    have haged : aged = agedStore s := by
      show ({ s with store := (cycleStore s).store } : State) = _
      rw [(cycleStore_telling h ht).store]
      rfl
    refine ⟨fun i => ?_, fun hs => hnone (hstale.trans hs), fun hs => ?_, fun x h1 h2 h3 => ?_, fun hu => ?_,
      fun hu => ?_⟩
    · rw [← hout]
      exact hstore i
    · refine (hentries .staleInput (by decide) (by decide)).trans ((entry_agedRaised s _).trans ?_)
      rw [hstale, if_pos ⟨rfl, hs⟩]
    · exact (hentries x h2 h3).trans ((entry_agedRaised s x).trans (if_neg fun hx => h1 hx.1))
    · have hno : ∀ i ∈ agedOut s, s.activeTable[i].holds .tripUnit = false := fun i hi => by
        rw [hrole, List.any_eq_false] at hu
        exact Bool.eq_false_iff.2 (hu i hi)
      have honly := (cycleStore_feedersOnly hno).eq
      refine ⟨?_, fun j => ?_⟩
      · have hs : t.store = (agedStore s).store := (cycleStore_telling h ht).store
        rw [hs]
        exact honly
      · rw [haged, hrole]
        exact feeder_cycleStore ht hno j
    · rw [hrole] at hu
      obtain ⟨i, hi, hunit⟩ := List.any_eq_true.1 hu
      have htrip := cycleStore_tripped h ht hi hunit
      exact ⟨htrip.mode, fun hl => htrip.record fun hm => hl.trip.trans (by rw [show s.line.lineMode = _ from hm]; rfl),
        fun hm => ⟨htrip.outputs hm, htrip.crushers hm⟩⟩
  · intro t expires flying faults
    refine ⟨fun k => ?_, fun k => ?_, cycleCrushers_eq s, raisedEach_cycleCrushers h⟩
    · refine (crusher_cycleCrushers s k).trans ?_
      rw [cycleCrusher_eq]
      rfl
    · exact feeder_cycleCrushers_eq s k
  · intro t ended
    have hended (hno : (supervising s && !confirmMatches s) = false) : ended :=
      have he := cycleConfirm_ended hno
      ⟨he.eq, he.others, he.entry, he.attention, he.sequence, he.rollMisses⟩
    refine ⟨fun hnone => hended ?_, ?_⟩
    · have hno : entryOf s.activeTable .diverter = none := entryOf_eq_none fun i => Bool.eq_false_iff.2 fun hi =>
        have hi' := (Entry.holds_iff _ _).1 hi
        hnone i hi'.1 hi'.2
      unfold supervising governing
      rw [hno]
      rfl
    · intro i rec hused hrole hrec mode confirms matched
      have hi : s.activeTable[i].holds .diverter = true := (Entry.holds_iff _ _).2 ⟨hused, hrole⟩
      have hmatched : confirmMatches s = matched := (confirmMatches_iff ht hi).trans (by rw [← hrec])
      by_cases hactive : (mode = some .govern ∨ mode = some .clamp) ∧ s.handler.dryRun = false ∧ matched = false
      · have hyes : (supervising s && !confirmMatches s) = true := by
          rw [(supervising_iff ht hi).2 ⟨hactive.1, hactive.2.1⟩, hmatched, hactive.2.2]
          rfl
        rw [if_pos hactive]
        intro count found
        have heq := cycleConfirm_counted hyes
        have hcauses := congrArg State.causes heq
        dsimp only at hcauses
        refine ⟨?_, ?_⟩
        · rw [show t.causes = _ from hcauses]
          exact heq
        · rw [show t.causes = _ from hcauses]
          by_cases hf : found = true ∧ s.lots.mismatch = false
          · rw [if_pos hf, show decide _ = true from hf.1, hf.2]
            exact raisedOnce_raise _ _ _
          · rw [if_neg hf]
            refine if_neg fun hboth => hf ?_
            rwa [Bool.and_eq_true, Bool.not_eq_true'] at hboth
      · rw [if_neg hactive]
        refine hended (Bool.eq_false_iff.2 fun hyes => hactive ?_)
        rw [Bool.and_eq_true, Bool.not_eq_true', hmatched] at hyes
        have hsup := (supervising_iff ht hi).1 hyes.1
        exact ⟨hsup.1, hsup.2, hyes.2⟩

end Sys2Proof.Machine
end

section
/-!
PROOF. The application of a pending commit (O18): what the blocks told of a new station table make of themselves, in
whatever order they are told.
-/

namespace Sys2Proof.Machine

/-! ### Evaluations and notices, and what they leave -/

theorem PlantCauses.evaluateTrip {s : State} (h : PlantCauses s) :
    PlantCauses (evaluateTrip s) ∧ ∀ x, x ≠ .trip → (Machine.evaluateTrip s).causes.entry x = s.causes.entry x := by
  unfold Machine.evaluateTrip
  cases ha : (tripInputs s).any with
  | false =>
    have he : takeTripInputs (tripInputs s) s = s := by
      unfold takeTripInputs
      rw [ha]
      rfl
    rw [he]
    exact ⟨h, fun _ _ => rfl⟩
  | true =>
    by_cases hm : s.line.lineMode = .tripped
    · rw [takeTripInputs_added hm ha]
      exact ⟨h.of_eq rfl rfl, fun _ _ => rfl⟩
    · rw [takeTripInputs_entered hm ha]
      obtain ⟨hcauses, -, -, -, hplant⟩ := enterTripped_eq h hm (tripInputs s)
      exact ⟨hplant, fun x hx => by rw [hcauses, CauseUnit.entry_raise, if_neg hx]⟩

theorem PlantCauses.notice {s : State} (h : PlantCauses s) (i : Fin 32) :
    PlantCauses (noticeStale i s) ∧
      ∀ x, x ≠ .configGap → x ≠ .trip → (noticeStale i s).causes.entry x = s.causes.entry x := by
  rcases noticeStale_cases i s with ⟨k, -, he⟩ | ⟨-, he⟩ | ⟨-, -, he⟩ <;> rw [he]
  · exact ⟨(h.computeFeeder k).1, fun x hx _ => (h.computeFeeder k).2 x hx⟩
  · exact ⟨h.evaluateTrip.1, fun x _ hx => h.evaluateTrip.2 x hx⟩
  · exact ⟨h, fun _ _ _ => rfl⟩

/-- A quiet change that keeps whether the crusher is due touches CRUSHER_FAULT alone (R46, R58). -/
theorem entry_changeCrusher_quiet {s : State} (h : PlantCauses s) {k : Fin 4} {new : Crusher}
    (hd : new.due = (s.crusher k).due) {x : Cause} (hx : x ≠ .crusherFault) :
    (changeCrusher k (quiet new) s).causes.entry x = s.causes.entry x := by
  have hcauses : (changeCrusher k (quiet new) s).causes = causesAfter s k (quiet new) := by rw [changeCrusher_eq]
  rw [hcauses]
  by_cases hl : x = .linerDue
  · subst hl
    have hsame : levelHolds .linerDue (s.setCrusher k new) = levelHolds .linerDue s := by
      rw [Bool.eq_iff_iff, levelHolds_linerDue, levelHolds_linerDue]
      refine exists_congr fun j => ?_
      rw [State.crusher_setCrusher]
      split
      · subst_vars; rw [hd]
      · rfl
    have hcount := h.counted.zero .linerDue
    have hdue := h.due
    unfold causesAfter quiet
    dsimp only
    rw [hsame]
    simp only [apply_ite (fun u : CauseUnit => u.entry .linerDue), CauseUnit.entry_cease, CauseUnit.entry_raise,
      reduceCtorEq, if_false, ite_self, if_true, List.foldl_nil, hd, Bool.not_and_self, Bool.false_eq_true]
    split
    · rfl
    · rename_i hn
      rw [Bool.not_eq_true] at hn
      rw [hn] at hdue
      rcases he : s.causes.entry .linerDue with ⟨p, c⟩
      rw [he] at hdue hcount
      dsimp only at hdue hcount
      rw [hdue, hcount.2 hdue]
  · exact causesAfter_other (by simp [quiet]) hx hl

/-! ### The drive value with the output (R81) -/

/-- The drive value of every feeder is that of its output. -/
def DrivesAgree (s : State) : Prop :=
  ∀ j : Fin 4, (s.feeder j).driveValue = driveValueOf s.activeTable j (s.feeder j).output

theorem DrivesAgree.zeroed {s t : State} (h : DrivesAgree s) (ht : t.activeTable = s.activeTable)
    (hf : ∀ j, t.feeder j = (s.feeder j).zeroed s.activeTable j ∨ t.feeder j = s.feeder j) : DrivesAgree t := by
  intro j
  rw [ht]
  rcases hf j with he | he <;> rw [he]
  · rfl
  · exact h j

theorem DrivesAgree.changeCrusher {s : State} (h : DrivesAgree s) (k : Fin 4) (ch : Change) :
    DrivesAgree (changeCrusher k ch s) := by
  refine h.zeroed (by simp) fun j => ?_
  rw [State.feeder_changeCrusher]
  split
  · rename_i hk
    rw [← hk.1]
    exact .inl rfl
  · exact .inr rfl

theorem DrivesAgree.changeMode {s : State} (h : DrivesAgree s) (mode : LineMode) : DrivesAgree (changeMode mode s) := by
  refine h.zeroed (by simp) fun j => ?_
  rw [feeder_changeMode]
  split
  · exact .inl rfl
  · exact .inr rfl

theorem DrivesAgree.computeFeeder {s : State} (h : DrivesAgree s) (k : Fin 4) : DrivesAgree (computeFeeder k s) := by
  intro j
  have htab : (Machine.computeFeeder k s).activeTable = s.activeTable := by simp
  rw [htab, feeder_computeFeeder]
  split
  · subst_vars
    unfold computedFeeder
    dsimp only
    split
    · rename_i he
      rw [he]
      exact h _
    · rfl
  · exact h j

theorem DrivesAgree.evaluateTrip {s : State} (h : DrivesAgree s) : DrivesAgree (evaluateTrip s) := by
  unfold Machine.evaluateTrip takeTripInputs
  split
  · split
    · exact h
    · unfold enterTripped
      rw [discardStop_eq]
      dsimp only
      generalize ht : ({ s with line := _ } : State) = t
      have hagree : DrivesAgree t := by
        rw [← ht]
        exact h
      exact hagree.changeMode .tripped
  · exact h

theorem DrivesAgree.notice {s : State} (h : DrivesAgree s) (i : Fin 32) : DrivesAgree (noticeStale i s) := by
  rcases noticeStale_cases i s with ⟨k, -, he⟩ | ⟨-, he⟩ | ⟨-, -, he⟩ <;> rw [he]
  · exact h.computeFeeder k
  · exact h.evaluateTrip
  · exact h

/-! ### One crusher at a station commit (R41, R42, R75) -/

/-- What a commit makes of the governance of a crusher that stays present (R42). -/
def Crusher.regoverned (n : CommitNews) (x : Crusher) : Crusher :=
  let back := if x.state = .move then CrusherState.run else x.state
  if n.wasGoverned = true ∧ n.isGoverned = false then
    { x with moveRec := none, command := { kind := .hold, seq := x.moveSeq, step := 0 }, state := back }
  else if n.isGoverned && n.replaced && x.moveRec.isSome then
    { x with moveRec := none, command := { kind := .stop, seq := x.moveSeq, step := 0 }, state := back }
  else x

/-- A crusher context after a station commit (R41, R42, R75). -/
def Crusher.committed (n : CommitNews) (x : Crusher) : Crusher :=
  if n.present = false then
    if x.state = .absent then x
    else
      { x with
        state := .absent, reliefRec := none, settleCount := 0, moveRec := none
        command := if x.moveRec.isSome then { kind := .stop, seq := x.moveSeq, step := 0 } else x.command }
  else if x.state = .absent then
    { x with
      state := .standby, settleCount := 0, targetSettled := false
      command := if n.isGoverned then x.command else { kind := .hold, seq := x.moveSeq, step := 0 } }
  else if n.reliefInput then x.regoverned n
  else if (x.regoverned n).state = .relief then
    { x.regoverned n with reliefRec := none, state := .standby, settleCount := 0 }
  else if (x.regoverned n).state = .standby ∨ (x.regoverned n).state = .fault then
    { x.regoverned n with reliefRec := none }
  else x.regoverned n

theorem commitGovernance_eq (n : CommitNews) (x : Crusher) : commitGovernance n x = x.regoverned n := by
  have hafter : x.state.afterMove = if x.state = .move then .run else x.state := by cases hs : x.state <;> rfl
  unfold commitGovernance Crusher.regoverned
  dsimp only
  rw [hafter]
  cases n.wasGoverned <;> cases n.isGoverned <;> cases n.replaced <;> cases x.moveRec <;> rfl

theorem commitCrusher_eq (n : CommitNews) (x : Crusher) : commitCrusher n x = x.committed n := by
  unfold commitCrusher Crusher.committed
  cases hp : n.present with
  | false =>
    simp only [Bool.false_eq_true, if_false, if_true]
    split
    · rfl
    · cases hm : x.moveRec <;> simp [Crusher.abort, Crusher.stopCommand, hm]
  | true =>
    simp only [Bool.true_eq_false, if_false, if_true]
    split
    · rfl
    · unfold commitRelief
      rw [commitGovernance_eq]
      split
      · rfl
      · cases hs : (x.regoverned n).state <;> simp

theorem committed_due (n : CommitNews) (x : Crusher) : (x.committed n).due = x.due := by
  have hg : (x.regoverned n).due = x.due := by
    unfold Crusher.regoverned
    dsimp only
    repeat' split
    all_goals rfl
  unfold Crusher.committed
  split
  · split <;> rfl
  · split
    · rfl
    · split
      · exact hg
      · split
        · exact hg
        · split <;> exact hg

/-! ### The new records (R13) -/

theorem isNewRecord_eq (old new : Vector Entry 32) (i : Fin 32) :
    isNewRecord old new i = (new[i].used && (List.finRange 32).all fun j => decide (old[j] ≠ new[i])) := by
  unfold isNewRecord identicalIndex
  congr 1
  rw [Bool.eq_iff_iff, Option.isNone_iff_eq_none, List.find?_eq_none, List.all_eq_true]
  simp [indices]

/-- Whether a new record was made for an entry of a role. -/
def made (old new : Vector Entry 32) (r : Role) : Bool :=
  indices.any fun i => isNewRecord old new i && new[i].holds r

theorem roleReplaced_eq {old new : Vector Entry 32} {own : Option Byte}
    (hp : ∀ i : Fin 32, new[i].used = true → Passes own new i) (r : Role) :
    roleReplaced old new r = made old new r := by
  unfold roleReplaced
  rw [Bool.eq_iff_iff]
  simp only [made, List.any_eq_true, mem_indices, true_and, Bool.and_eq_true]
  split
  · rename_i i hi
    have hholds := (roleIndex_of_holds hp).1 hi
    exact ⟨fun h => ⟨i, h, hholds⟩, fun ⟨j, hj, hr⟩ => role_unique hp hr hholds ▸ hj⟩
  · rename_i hnone
    rw [roleIndex_eq_none] at hnone
    refine ⟨fun h => absurd h (by decide), fun ⟨j, _, hr⟩ => ?_⟩
    rw [hnone j] at hr
    exact absurd hr (by decide)

/-! ### Whom a station commit tells -/

/-- The blocks told of a station commit. -/
def informedOf (old new : Vector Entry 32) : List Informed :=
  four.map Informed.crusher ++ (indices.filter (isNewRecord old new)).map Informed.record

/-- The part as it is when they are told: the bank copied, the store rebuilt and every drive value recomputed. -/
def stationCopied (s : State) : State :=
  forFour refreshDrive
    { s with
      activeTable := s.stagedTable
      store := rebuiltStore s.activeTable s.stagedTable s.store
      handler := { s.handler with pendingStation := false } }

theorem mem_informedOf_record {old new : Vector Entry 32} {i : Fin 32} :
    Informed.record i ∈ informedOf old new ↔ isNewRecord old new i = true := by
  simp [informedOf, mem_indices]

theorem mem_informedOf_crusher (old new : Vector Entry 32) (k : Fin 4) : Informed.crusher k ∈ informedOf old new := by
  simp [informedOf, mem_four]

theorem informedOf_nodup (old new : Vector Entry 32) : (informedOf old new).Nodup := by
  refine List.nodup_append.2 ⟨?_, ?_, ?_⟩
  · exact (List.nodup_finRange 4).map fun _ _ h => Informed.crusher.inj h
  · exact (indices_nodup.filter _).map fun _ _ h => Informed.record.inj h
  · intro a ha b hb
    obtain ⟨k, -, rfl⟩ := List.mem_map.1 ha
    obtain ⟨i, -, rfl⟩ := List.mem_map.1 hb
    exact Informed.noConfusion

theorem stationCopied_frame (s : State) :
    (stationCopied s).activeTable = s.stagedTable ∧
      (stationCopied s).store = rebuiltStore s.activeTable s.stagedTable s.store ∧
      (stationCopied s).straps = s.straps ∧ (stationCopied s).pins = s.pins ∧ (stationCopied s).line = s.line ∧
      (stationCopied s).crushers = s.crushers ∧ (stationCopied s).causes = s.causes ∧
      (stationCopied s).handler = { s.handler with pendingStation := false } ∧
      (stationCopied s).freeCount = s.freeCount := by
  unfold stationCopied
  simp

theorem feeder_stationCopied (s : State) (j : Fin 4) :
    (stationCopied s).feeder j =
      { s.feeder j with driveValue := driveValueOf s.stagedTable j (s.feeder j).output } := by
  unfold stationCopied
  have h := forFour_once (act := refreshDrive) (k := j) (fun t => t.feeder j) State.activeTable
    (fun tab f => { f with driveValue := driveValueOf tab j f.output }) (fun i t => by simp)
    (fun t => by simp [refreshDrive]) (fun i t hi => by simp [refreshDrive, hi])
    { s with
      activeTable := s.stagedTable
      store := rebuiltStore s.activeTable s.stagedTable s.store
      handler := { s.handler with pendingStation := false } }
  exact h

end Sys2Proof.Machine
end

section
/-!
PROOF. A station commit told to its blocks, a curve commit, and the two in either order (O18).
-/

namespace Sys2Proof.Machine

/-! ### The blocks told of a station commit, in whatever order -/

/-- What stays while they are told, and what each of them keeps. -/
structure Informing (s t : State) : Prop where
  plant : PlantCauses t
  table : t.activeTable = s.stagedTable
  straps : t.straps = s.straps
  store : t.store = rebuiltStore s.activeTable s.stagedTable s.store
  drives : DrivesAgree t
  entries : ∀ x, x ≠ .configGap → x ≠ .trip → x ≠ .crusherFault → t.causes.entry x = s.causes.entry x

variable {s t : State}

theorem Informing.notice (h : Informing s t) (i : Fin 32) : Informing s (noticeStale i t) :=
  ⟨(h.plant.notice i).1, by simp [h.table], by simp [h.straps], by simp [h.store], h.drives.notice i,
    fun x h1 h2 h3 => ((h.plant.notice i).2 x h1 h2).trans (h.entries x h1 h2 h3)⟩

theorem Informing.commit (h : Informing s t) (k : Fin 4) (n : CommitNews) :
    Informing s (changeCrusher k (quiet (commitCrusher n (t.crusher k))) t) := by
  refine ⟨h.plant.changeCrusher (by simp [quiet]), by simp [h.table], by simp [h.straps], by simp [h.store],
    h.drives.changeCrusher k _, fun x h1 h2 h3 => ?_⟩
  rw [entry_changeCrusher_quiet h.plant (by rw [commitCrusher_eq]; exact committed_due n _) h3]
  exact h.entries x h1 h2 h3

theorem Informing.inform (h : Informing s t) (x : Informed) :
    Informing s (informCommit s.activeTable s.stagedTable x t) := by
  cases x with
  | record i => exact h.notice i
  | crusher k => exact h.commit k _

theorem informing_stationCopied (h : PlantCauses s) :
    Informing s { stationCopied s with freeCount := (stationCopied s).freeCount + 1 } := by
  obtain ⟨htable, hstore, hstraps, -, -, hcrushers, hcauses, -, -⟩ := stationCopied_frame s
  refine ⟨h.of_eq hcauses hcrushers, htable, hstraps, hstore, fun j => ?_, fun x _ _ _ => by rw [hcauses]⟩
  show ((stationCopied s).feeder j).driveValue =
    driveValueOf (stationCopied s).activeTable j ((stationCopied s).feeder j).output
  rw [feeder_stationCopied, htable]

/-- The part when every block has been told. -/
def stationInformed (s : State) : State :=
  inFreeOrder (informedOf s.activeTable s.stagedTable) (informCommit s.activeTable s.stagedTable) (stationCopied s)

theorem informing_stationInformed (h : PlantCauses s) : Informing s (stationInformed s) :=
  inFreeOrder_induct (Informing s) (informing_stationCopied h) fun x _ _ ht => ht.inform x

/-- A new record is STALE (R13). -/
theorem newRecord_stale {i : Fin 32} (hnew : isNewRecord s.activeTable s.stagedTable i = true) {rec : Record}
    (hr : (rebuiltStore s.activeTable s.stagedTable s.store)[i] = some rec) : rec.fresh = false := by
  rw [getElem_rebuiltStore] at hr
  unfold isNewRecord at hnew
  rw [Bool.and_eq_true, Option.isNone_iff_eq_none] at hnew
  unfold rebuiltRecord at hr
  rw [if_pos hnew.1, hnew.2] at hr
  cases hr
  rfl

/-- A new trip unit trips the line, and the line stays TRIPPED (R13, R133). -/
theorem stationInformed_tripped (h : PlantCauses s)
    (hp : ∀ i : Fin 32, s.stagedTable[i].used = true → Passes s.ownAddress s.stagedTable i)
    (hm : made s.activeTable s.stagedTable .tripUnit = true) : (stationInformed s).line.lineMode = .tripped := by
  obtain ⟨i, -, hi⟩ := List.any_eq_true.1 hm
  obtain ⟨hnew, hunit⟩ := Bool.and_eq_true_iff.1 hi
  have hmode (u : State) (ha : (tripInputs u).any = true ∨ u.line.lineMode = .tripped) :
      (evaluateTrip u).line.lineMode = .tripped := by
    have he := (takeTripInputs_mode (tripInputs u) u).1
    cases hany : (tripInputs u).any with
    | true => rw [hany] at he; exact he
    | false => rw [hany] at ha he; exact he.trans (ha.resolve_left (by decide))
  refine inFreeOrder_establishes (Informing s) (fun u => u.line.lineMode = .tripped) (informing_stationCopied h)
    (fun x _ _ hu => hu.inform x) (fun x _ u hu hq => ?_) (mem_informedOf_record.2 hnew) fun u hu => ?_
  · cases x with
    | crusher k => simpa [informCommit] using hq
    | record j =>
      show (noticeStale j u).line.lineMode = .tripped
      rcases noticeStale_cases j u with ⟨k, -, he⟩ | ⟨-, he⟩ | ⟨-, -, he⟩ <;> rw [he]
      · simpa using hq
      · exact hmode u (.inr hq)
      · exact hq
  · have hown : u.ownAddress = s.ownAddress := by simp only [State.ownAddress, hu.straps]
    show (noticeStale i u).line.lineMode = .tripped
    rw [noticeStale_trip (by rw [hu.table]; exact hunit)]
    refine hmode u (.inl ?_)
    have hstale := tripInputs_unitStale (by rw [hown, hu.table]; exact hp) (i := i) (by rw [hu.table]; exact hunit)
      fun rec hr => newRecord_stale (s := s) hnew (by rw [← hu.store]; exact hr)
    simp [TripInputs.any, hstale]

/-! ### Without a new trip unit -/

/-- What stays besides while no trip unit is among the new records. -/
structure Untripped (s t : State) : Prop where
  table : t.activeTable = s.stagedTable
  line : t.line = s.line
  pins : t.pins = s.pins
  trip : t.causes.entry .trip = s.causes.entry .trip

theorem record_untripped (hm : made s.activeTable s.stagedTable .tripUnit = false) {i : Fin 32}
    (hi : isNewRecord s.activeTable s.stagedTable i = true) : s.stagedTable[i].holds .tripUnit = false := by
  unfold made at hm
  rw [List.any_eq_false] at hm
  have hno := hm i (mem_indices i)
  rw [hi, Bool.true_and] at hno
  exact Bool.eq_false_iff.2 hno

theorem Untripped.inform (hm : made s.activeTable s.stagedTable .tripUnit = false) (h : Untripped s t) {x : Informed}
    (hx : x ∈ informedOf s.activeTable s.stagedTable) :
    Untripped s (informCommit s.activeTable s.stagedTable x t) := by
  cases x with
  | crusher k =>
    refine ⟨by simp [h.table], by simp [informCommit, h.line], by simp [informCommit, h.pins], ?_⟩
    rw [informCommit, changeCrusher_eq]
    exact (causesAfter_other (by simp [quiet]) (by decide) (by decide)).trans h.trip
  | record i =>
    have hunit := record_untripped hm (mem_informedOf_record.1 hx)
    show Untripped s (noticeStale i t)
    rcases noticeStale_cases i t with ⟨k, -, he⟩ | ⟨hk, -⟩ | ⟨-, -, he⟩
    · rw [he]
      refine ⟨by simp [h.table], by simp [h.line], by simp [h.pins], ?_⟩
      rw [causes_computeFeeder, CauseUnit.entry_raises (by simp)]
      exact h.trip
    · rw [h.table, hunit] at hk
      cases hk
    · rw [he]
      exact h

theorem untripped_stationCopied (s : State) :
    Untripped s { stationCopied s with freeCount := (stationCopied s).freeCount + 1 } := by
  obtain ⟨htable, -, -, hpins, hline, -, hcauses, -, -⟩ := stationCopied_frame s
  exact ⟨htable, hline, hpins, by rw [hcauses]⟩

theorem untripped_stationInformed (hm : made s.activeTable s.stagedTable .tripUnit = false) :
    Untripped s (stationInformed s) :=
  inFreeOrder_induct (Untripped s) (untripped_stationCopied s) fun _ hx _ ht => ht.inform hm hx

/-- A record told does nothing to a crusher, nor to a feeder whose POWER record is none of the new ones. -/
theorem Untripped.record (hm : made s.activeTable s.stagedTable .tripUnit = false) (h : Untripped s t) {i : Fin 32}
    (hi : isNewRecord s.activeTable s.stagedTable i = true) (k : Fin 4) :
    (noticeStale i t).crusher k = t.crusher k ∧
      (made s.activeTable s.stagedTable (.power k) = false → (noticeStale i t).feeder k = t.feeder k) := by
  have hunit := record_untripped hm hi
  rcases noticeStale_cases i t with ⟨j, hj, he⟩ | ⟨hk, -⟩ | ⟨-, -, he⟩
  · rw [he]
    refine ⟨State.crusher_congr (by simp) k, fun hpower => ?_⟩
    rw [feeder_computeFeeder, if_neg]
    rintro rfl
    unfold made at hpower
    rw [List.any_eq_false] at hpower
    rw [h.table] at hj
    exact hpower i (mem_indices i) (by rw [hi, hj]; rfl)
  · rw [h.table, hunit] at hk
    cases hk
  · rw [he]
    exact ⟨rfl, fun _ => rfl⟩

/-- Without a new trip unit each crusher takes its news once (R41, R42, R75). -/
theorem crusher_stationInformed (hm : made s.activeTable s.stagedTable .tripUnit = false) (k : Fin 4) :
    (stationInformed s).crusher k = commitCrusher (commitNews s.activeTable s.stagedTable k) (s.crusher k) := by
  have hfirst : (stationCopied s).crusher k = s.crusher k := State.crusher_congr (stationCopied_frame s).2.2.2.2.2.1 k
  rw [← hfirst]
  refine inFreeOrder_once (Untripped s) (fun t => t.crusher k)
    (commitCrusher (commitNews s.activeTable s.stagedTable k))
    (informedOf_nodup _ _) (mem_informedOf_crusher _ _ k) (fun x hx t ht => ht.inform hm hx)
    (fun t ht => by simp [informCommit, quiet]) (fun x hx t ht hne => ?_) (untripped_stationCopied s) rfl
  cases x with
  | crusher j =>
    have hj : j ≠ k := fun he => hne (he ▸ rfl)
    simp [informCommit, hj]
  | record i => exact (ht.record hm (mem_informedOf_record.1 hx) k).1

/-- Without a new trip unit and a new POWER record a feeder is zeroed where its crusher leaves the run states (R92). -/
theorem feeder_stationInformed (hm : made s.activeTable s.stagedTable .tripUnit = false) {k : Fin 4}
    (hpower : made s.activeTable s.stagedTable (.power k) = false) :
    (stationInformed s).feeder k =
      if (s.crusher k).state.isRun = true ∧ ((stationInformed s).crusher k).state.isRun = false then
        { s.feeder k with output := 0, driveValue := driveValueOf s.stagedTable k 0 }
      else { s.feeder k with driveValue := driveValueOf s.stagedTable k (s.feeder k).output } := by
  have hfirst : ((stationCopied s).crusher k, (stationCopied s).feeder k) =
      (s.crusher k, { s.feeder k with driveValue := driveValueOf s.stagedTable k (s.feeder k).output }) := by
    rw [feeder_stationCopied, State.crusher_congr (stationCopied_frame s).2.2.2.2.2.1 k]
  have hboth := inFreeOrder_once (Untripped s) (fun t => (t.crusher k, t.feeder k))
    (fun x => (commitCrusher (commitNews s.activeTable s.stagedTable k) x.1,
      if (x.1.state.isRun && !(commitCrusher (commitNews s.activeTable s.stagedTable k) x.1).state.isRun) = true then
        x.2.zeroed s.stagedTable k
      else x.2))
    (informedOf_nodup s.activeTable s.stagedTable) (mem_informedOf_crusher _ _ k) (fun x hx t ht => ht.inform hm hx)
    (fun t ht => by simp [informCommit, quiet, State.feeder_changeCrusher, ht.table]) (fun x hx t ht hne => ?_)
    (s := stationCopied s) (untripped_stationCopied s) rfl
  · rw [hfirst] at hboth
    rw [crusher_stationInformed hm]
    refine (congrArg Prod.snd hboth).trans ?_
    refine if_congr ?_ rfl rfl
    rw [Bool.and_eq_true, Bool.not_eq_true']
  · cases x with
    | crusher j =>
      have hj : j ≠ k := fun he => hne (he ▸ rfl)
      simp [informCommit, State.feeder_changeCrusher, hj]
    | record i =>
      obtain ⟨hc, hf⟩ := ht.record hm (mem_informedOf_record.1 hx) k
      exact Prod.ext hc (hf hpower)

/-! ### One commit, and both (R98, R184) -/

/-- A cause raised once more. -/
def CauseEntry.again (e : CauseEntry) : CauseEntry :=
  { pending := true, count := min 255 ((if e.pending then e.count else 0) + 1) }

theorem entry_raise_self (u : CauseUnit) (mask : BitVec 14) (x : Cause) :
    (u.raise mask x).entry x = (u.entry x).again := by
  rw [CauseUnit.entry_raise, if_pos rfl]
  unfold CauseEntry.again countUp255
  split <;> rfl

/-- What the application of a station commit makes of the part. -/
structure StationApplied (s t : State) : Prop where
  table : t.activeTable = s.stagedTable
  store : ∀ i : Fin 32, t.store[i] = rebuiltRecord s.activeTable s.stagedTable s.store i
  drives : DrivesAgree t
  handler : t.handler = { s.handler with pendingStation := false }
  committed : t.causes.entry .tableCommitted = (s.causes.entry .tableCommitted).again
  tripped : made s.activeTable s.stagedTable .tripUnit = true → t.line.lineMode = .tripped
  kept : made s.activeTable s.stagedTable .tripUnit = false → t.line = s.line ∧ t.pins = s.pins ∧
    ∀ x, x ≠ .tableCommitted → x ≠ .configGap → x ≠ .crusherFault → t.causes.entry x = s.causes.entry x
  crusher : made s.activeTable s.stagedTable .tripUnit = false → ∀ k,
    t.crusher k = (s.crusher k).committed (commitNews s.activeTable s.stagedTable k)
  feeder : made s.activeTable s.stagedTable .tripUnit = false → ∀ k,
    made s.activeTable s.stagedTable (.power k) = false →
      t.feeder k =
        if (s.crusher k).state.isRun = true ∧ (t.crusher k).state.isRun = false then
          { s.feeder k with output := 0, driveValue := driveValueOf s.stagedTable k 0 }
        else { s.feeder k with driveValue := driveValueOf s.stagedTable k (s.feeder k).output }

theorem stationApplied (h : PlantCauses s)
    (hp : ∀ i : Fin 32, s.stagedTable[i].used = true → Passes s.ownAddress s.stagedTable i) :
    StationApplied s (applyStation s) := by
  have hinform := informing_stationInformed h
  have heq : applyStation s = raise .tableCommitted (stationInformed s) := rfl
  have hhandler : (stationInformed s).handler = { s.handler with pendingStation := false } := by
    unfold stationInformed
    simp [(stationCopied_frame s).2.2.2.2.2.2.2.1]
  rw [heq]
  refine ⟨hinform.table, fun i => ?_, hinform.drives, hhandler, ?_, stationInformed_tripped h hp, fun hm => ?_,
    fun hm k => ?_, fun hm k hk => feeder_stationInformed hm hk⟩
  · have hstore : (raise .tableCommitted (stationInformed s)).store = _ := hinform.store
    rw [hstore, getElem_rebuiltStore]
  · rw [raise_causes, entry_raise_self, hinform.entries _ (by decide) (by decide) (by decide)]
  · have hun := untripped_stationInformed hm
    refine ⟨hun.line, hun.pins, fun x h1 h2 h3 => ?_⟩
    rw [raise_causes, CauseUnit.entry_raise, if_neg h1]
    by_cases hx : x = .trip
    · rw [hx]; exact hun.trip
    · exact hinform.entries x h2 hx h3
  · exact (crusher_stationInformed hm k).trans (commitCrusher_eq _ _)

/-- The two pending commits are applied one after the other, either first (R184). -/
theorem applyCommits_orders (s : State) :
    applyCommits s = applyPending .curve (applyPending .station { s with freeCount := s.freeCount + 1 }) ∨
      applyCommits s = applyPending .station (applyPending .curve { s with freeCount := s.freeCount + 1 }) := by
  unfold applyCommits inFreeOrder
  rcases Nat.mod_two_eq_zero_or_one (Config.freeOrder s.freeCount) with h | h
  · have hs : shuffle (Config.freeOrder s.freeCount) [Bank.station, Bank.curve] = [.station, .curve] := by
      simp [shuffle, h]
    rw [hs]; exact .inl rfl
  · have hs : shuffle (Config.freeOrder s.freeCount) [Bank.station, Bank.curve] = [.curve, .station] := by
      simp [shuffle, h]
    rw [hs]; exact .inr rfl

end Sys2Proof.Machine
end

section
/-!
PROOF. The pending commits applied at a counted cycle (O18).
-/

namespace Sys2Proof.Machine

/-- What the handler does about a curve commit: a pending one is applied, and nothing happens without one (R98). -/
structure CurveStep (s t : State) : Prop where
  eq : t = { s with
    activeCurves := t.activeCurves
    handler := { s.handler with pendingCurve := false }
    causes := t.causes }
  curves : t.activeCurves = if s.handler.pendingCurve then s.stagedCurves.map curveOfStaged else s.activeCurves
  causes : t.causes =
    if s.handler.pendingCurve then s.causes.raise s.params.causeMask .tableCommitted else s.causes

theorem curveStep (s : State) : CurveStep s (applyPending .curve s) := by
  unfold applyPending
  dsimp only
  cases hc : s.handler.pendingCurve with
  | true =>
    rw [if_pos rfl]
    exact ⟨rfl, by rw [if_pos hc]; rfl, by rw [if_pos hc]; rfl⟩
  | false =>
    have hh : ({ s.handler with pendingCurve := false } : Handler) = s.handler := by
      rw [← hc]
    simp only [Bool.false_eq_true, if_false]
    refine ⟨?_, by rw [hc]; rfl, by rw [hc]; rfl⟩
    rw [hh]

/-- How often TABLE_COMMITTED is raised for the curves. -/
theorem CurveStep.committed {s t : State} (h : CurveStep s t) :
    t.causes.entry .tableCommitted =
      if s.handler.pendingCurve then (s.causes.entry .tableCommitted).again else s.causes.entry .tableCommitted := by
  rw [h.causes]
  split
  · exact entry_raise_self _ _ _
  · rfl

theorem CurveStep.entries {s t : State} (h : CurveStep s t) {x : Cause} (hx : x ≠ .tableCommitted) :
    t.causes.entry x = s.causes.entry x := by
  rw [h.causes]
  split
  · rw [CauseUnit.entry_raise, if_neg hx]
  · rfl

/-- A cause raised `n` times more. -/
def CauseEntry.times (n : Nat) (e : CauseEntry) : CauseEntry :=
  { pending := true, count := min 255 ((if e.pending then e.count else 0) + n) }

theorem CauseEntry.again_again (e : CauseEntry) : e.again.again = e.times 2 := by
  simp only [CauseEntry.again, CauseEntry.times, if_true]
  congr 1
  omega

/-- What a station commit, with or without a curve commit before or after it, makes of the part. -/
structure StationCommitted (s t : State) : Prop where
  table : t.activeTable = s.stagedTable
  store : ∀ i : Fin 32, t.store[i] = rebuiltRecord s.activeTable s.stagedTable s.store i
  drives : DrivesAgree t
  handler : t.handler = { s.handler with pendingStation := false, pendingCurve := false }
  curves : t.activeCurves = if s.handler.pendingCurve then s.stagedCurves.map curveOfStaged else s.activeCurves
  committed : t.causes.entry .tableCommitted =
    (s.causes.entry .tableCommitted).times (if s.handler.pendingCurve then 2 else 1)
  tripped : made s.activeTable s.stagedTable .tripUnit = true → t.line.lineMode = .tripped
  kept : made s.activeTable s.stagedTable .tripUnit = false → t.line = s.line ∧ t.pins = s.pins ∧
    ∀ x, x ≠ .tableCommitted → x ≠ .configGap → x ≠ .crusherFault → t.causes.entry x = s.causes.entry x
  crusher : made s.activeTable s.stagedTable .tripUnit = false → ∀ k,
    t.crusher k = (s.crusher k).committed (commitNews s.activeTable s.stagedTable k)
  feeder : made s.activeTable s.stagedTable .tripUnit = false → ∀ k,
    made s.activeTable s.stagedTable (.power k) = false →
      t.feeder k =
        if (s.crusher k).state.isRun = true ∧ (t.crusher k).state.isRun = false then
          { s.feeder k with output := 0, driveValue := driveValueOf s.stagedTable k 0 }
        else { s.feeder k with driveValue := driveValueOf s.stagedTable k (s.feeder k).output }

theorem StationApplied.then_curves {s t u : State} (h : StationApplied s t) (hc : CurveStep t u)
    (hcurves : t.activeCurves = s.activeCurves) (hstaged : t.stagedCurves = s.stagedCurves) :
    StationCommitted s u := by
  have hpending : t.handler.pendingCurve = s.handler.pendingCurve := by rw [h.handler]
  have hcommitted := hc.committed
  have heach := fun x => hc.entries (x := x)
  have hactive := hc.curves
  rw [hpending] at hcommitted hactive
  rw [hcurves, hstaged] at hactive
  have heq := hc.eq
  generalize u.activeCurves = C at *
  generalize u.causes = U at *
  subst heq
  refine ⟨h.table, h.store, h.drives, ?_, hactive, ?_, h.tripped, fun hm => ?_, h.crusher, h.feeder⟩
  · rw [h.handler]
  · rw [hcommitted, h.committed]
    cases s.handler.pendingCurve
    · rfl
    · exact CauseEntry.again_again _
  · obtain ⟨hline, hpins, hentries⟩ := h.kept hm
    exact ⟨hline, hpins, fun x h1 h2 h3 => (heach x h1).trans (hentries x h1 h2 h3)⟩

theorem CurveStep.then_station {s t u : State} (hc : CurveStep s t) (h : StationApplied t u)
    (hcurves : u.activeCurves = t.activeCurves) : StationCommitted s u := by
  have hcommitted := hc.committed
  have heach := fun x => hc.entries (x := x)
  have hactive := hc.curves
  have heq := hc.eq
  generalize t.activeCurves = C at *
  generalize t.causes = U at *
  subst heq
  refine ⟨h.table, h.store, h.drives, h.handler, hcurves.trans hactive, ?_, h.tripped, fun hm => ?_, h.crusher,
    h.feeder⟩
  · refine h.committed.trans ?_
    dsimp only
    rw [hcommitted]
    cases s.handler.pendingCurve
    · rfl
    · exact CauseEntry.again_again _
  · obtain ⟨hline, hpins, hentries⟩ := h.kept hm
    exact ⟨hline, hpins, fun x h1 h2 h3 => (hentries x h1 h2 h3).trans (heach x h1)⟩

theorem StationCommitted.of_free {s t : State} {n : Nat} (h : StationCommitted { s with freeCount := n } t) :
    StationCommitted s t :=
  ⟨h.table, h.store, h.drives, h.handler, h.curves, h.committed, h.tripped, h.kept, h.crusher, h.feeder⟩

/-- A pending station commit at a counted cycle, whichever commit is applied first (R184). -/
theorem stationCommitted {s : State} (ht : TableInv s) (h : CauseInv s) (hs : s.handler.pendingStation = true) :
    StationCommitted s (applyCommits s) := by
  have hp : ∀ i : Fin 32, s.stagedTable[i].used = true → Passes s.ownAddress s.stagedTable i :=
    (stationFailure_eq_none.1 (ht.station hs).1).1
  have hstation (u : State) (hu : u.handler.pendingStation = true) : applyPending .station u = applyStation u :=
    if_pos hu
  refine StationCommitted.of_free (n := s.freeCount + 1) ?_
  generalize hfirst : ({ s with freeCount := s.freeCount + 1 } : State) = r
  have hplant : PlantCauses r := by
    rw [← hfirst]
    exact h.plantCauses.of_eq rfl rfl
  have hpr : ∀ i : Fin 32, r.stagedTable[i].used = true → Passes r.ownAddress r.stagedTable i := by
    rw [← hfirst]
    exact hp
  have hsr : r.handler.pendingStation = true := by
    rw [← hfirst]
    exact hs
  have horders := applyCommits_orders s
  rw [hfirst] at horders
  rcases horders with ho | ho
  · rw [ho, hstation r hsr]
    exact (stationApplied hplant hpr).then_curves (curveStep _) (by simp) (by simp)
  · have hc := curveStep r
    have hstaged : (applyPending .curve r).stagedTable = r.stagedTable := by rw [hc.eq]
    have hown : (applyPending .curve r).ownAddress = r.ownAddress := by rw [hc.eq]; rfl
    have hcrushers : (applyPending .curve r).crushers = r.crushers := by rw [hc.eq]
    have hplant' : PlantCauses (applyPending .curve r) :=
      hplant.raised (l := if r.handler.pendingCurve then [.tableCommitted] else []) (mask := r.params.causeMask)
        (by rw [hc.causes]; split <;> rfl) hcrushers (by split <;> simp) (by split <;> simp)
    rw [ho, hstation _ (by rw [hc.eq]; exact hsr)]
    exact hc.then_station (stationApplied hplant' (by rw [hstaged, hown]; exact hpr)) (by simp)

/-- Without a pending station commit the curve commit is all (R184). -/
theorem curvesCommitted {s : State} (hs : s.handler.pendingStation = false) :
    CurveStep { s with freeCount := s.freeCount + 1 } (applyCommits s) := by
  have hstation (u : State) (hu : u.handler.pendingStation = false) : applyPending .station u = u :=
    if_neg (by rw [hu]; decide)
  have horders := applyCommits_orders s
  generalize hfirst : ({ s with freeCount := s.freeCount + 1 } : State) = r at horders ⊢
  have hsr : r.handler.pendingStation = false := by
    rw [← hfirst]
    exact hs
  have hc := curveStep r
  rcases horders with ho | ho
  · rw [ho, hstation r hsr]
    exact hc
  · rw [ho, hstation _ (by rw [hc.eq]; exact hsr)]
    exact hc

/-- The counted points of a validated curve (R95, R97, R98). -/
theorem curveOfStaged_points {x : StagedCurve} (h : ∀ n, n < 3 → CurveCheck x n) :
    (curveOfStaged x).length = x[0].toNat ∧
      ∀ (q : Nat) (a b : Word), q < x[0].toNat → x[1 + 2 * q]? = some a → x[2 + 2 * q]? = some b →
        (curveOfStaged x)[q]? = some { x := a.toNat, y := b.toNat } := by
  have h16 : x[0].toNat ≤ 16 := (h 0 (by decide)).2
  have hlen : (curveOfStaged x).length = x[0].toNat := by rw [curveOfStaged_length]; omega
  refine ⟨hlen, fun q a b hq ha hb => ?_⟩
  rw [List.getElem?_eq_getElem (by omega), getElem_curveOfStaged]
  obtain ⟨_, ha⟩ := Vector.getElem?_eq_some_iff.1 ha
  obtain ⟨_, hb⟩ := Vector.getElem?_eq_some_iff.1 hb
  simp only [StagedCurve.point, ha, hb]

/-! ### The parts put together (O18) -/

/-- The curves after the pending commits (R98). -/
theorem committed_curves {s t : State} (ht : TableInv s) (hcurve : s.handler.pendingCurve = true)
    (h : t.activeCurves = if s.handler.pendingCurve then s.stagedCurves.map curveOfStaged else s.activeCurves)
    (x : Fin 8) :
    t.activeCurves[x].length = s.stagedCurves[x][0].toNat ∧
      ∀ (q : Nat) (a b : Word), q < s.stagedCurves[x][0].toNat → s.stagedCurves[x][1 + 2 * q]? = some a →
        s.stagedCurves[x][2 + 2 * q]? = some b → t.activeCurves[x][q]? = some { x := a.toNat, y := b.toNat } := by
  have he : t.activeCurves[x] = curveOfStaged s.stagedCurves[x] := by
    rw [h, if_pos hcurve]
    simp
  rw [he]
  exact curveOfStaged_points (curveFailure_eq_none.1 (ht.curve hcurve).1 x)

/-- The record of an entry of a new station table (R13). -/
theorem rebuiltRecord_cases (s : State) (i : Fin 32) :
    (s.stagedTable[i].used = false → rebuiltRecord s.activeTable s.stagedTable s.store i = none) ∧
      (isNewRecord s.activeTable s.stagedTable i = true →
        rebuiltRecord s.activeTable s.stagedTable s.store i = some (newRecord s.stagedTable[i])) := by
  unfold rebuiltRecord isNewRecord
  refine ⟨fun hu => by rw [hu]; rfl, fun hn => ?_⟩
  rw [Bool.and_eq_true, Option.isNone_iff_eq_none] at hn
  rw [if_pos hn.1, hn.2]

/-- An entry of the new table that the old one holds keeps its record (R13). -/
theorem rebuiltRecord_kept {s : State} (ht : TableInv s) {i j : Fin 32} (hu : s.stagedTable[i].used = true)
    (he : s.activeTable[j] = s.stagedTable[i]) :
    rebuiltRecord s.activeTable s.stagedTable s.store i = s.store[j] := by
  have hfound : ∃ m, identicalIndex s.activeTable s.stagedTable[i] = some m := by
    rw [← Option.isSome_iff_exists, identicalIndex, List.find?_isSome]
    exact ⟨j, mem_indices j, by simpa using he⟩
  obtain ⟨m, hm⟩ := hfound
  have hsame : s.activeTable[m] = s.activeTable[j] := (identicalIndex_eq_some hm).trans he.symm
  have hused : s.activeTable[j].used = true := by rw [he]; exact hu
  obtain ⟨r, hr⟩ := (ht.passes j hused).role
  have hmj : m = j := role_unique ht.passes
    ((Entry.holds_iff _ _).2 ⟨by rw [hsame]; exact hused, by rw [hsame]; exact hr⟩)
    ((Entry.holds_iff _ _).2 ⟨hused, hr⟩)
  unfold rebuiltRecord
  rw [if_pos hu, hm, hmj]

/-- Settles O18: each pending commit is applied, in whatever order. -/
theorem commitApplied : Obligations.CommitApplied := by
  intro s ht h t station curve old new fresh made'
  have hfresh (i : Fin 32) : isNewRecord old new i = fresh i := isNewRecord_eq old new i
  have hmade (r : Role) : made old new r = made' r := by
    unfold made
    simp only [hfresh]
    rfl
  have ht' : t = applyCommits s := rfl
  have hkeeps : t.stagedTable = s.stagedTable ∧ t.stagedCurves = s.stagedCurves := by
    rw [ht']; simp
  have hcurves : t.activeCurves = if curve then s.stagedCurves.map curveOfStaged else s.activeCurves := by
    cases hs : s.handler.pendingStation
    · exact (curvesCommitted hs).curves
    · exact (stationCommitted ht h hs).curves
  have hcurvePart : if curve then
      ∀ x : Fin 8, t.activeCurves[x].length = s.stagedCurves[x][0].toNat ∧
        ∀ (q : Nat) (a b : Word), q < s.stagedCurves[x][0].toNat → s.stagedCurves[x][1 + 2 * q]? = some a →
          s.stagedCurves[x][2 + 2 * q]? = some b → t.activeCurves[x][q]? = some { x := a.toNat, y := b.toNat }
      else t.activeCurves = s.activeCurves := by
    by_cases hcurve : curve = true
    · rw [if_pos hcurve]
      exact committed_curves ht hcurve hcurves
    · rw [if_neg hcurve]
      exact hcurves.trans (if_neg hcurve)
  by_cases hstation : station = true
  · have hc := stationCommitted ht h hstation
    rw [← ht'] at hc
    refine ⟨fun hno => absurd hstation (by rw [hno]; decide), hc.handler, hkeeps.1, hkeeps.2, fun _ => ?_, hcurvePart,
      fun hno => absurd hstation (by rw [hno]; decide), fun _ => ?_⟩
    · refine hc.committed.trans ?_
      rw [hstation, Bool.true_and]
      rfl
    · refine ⟨hc.table, fun i => ⟨fun hu => ?_, fun j hu he => ?_, fun r hnew hr => ?_⟩, fun j => ?_, fun hm => ?_,
        fun hm => ?_⟩
      · exact (hc.store i).trans ((rebuiltRecord_cases s i).1 hu)
      · exact (hc.store i).trans (rebuiltRecord_kept ht hu he)
      · refine (hc.store i).trans (((rebuiltRecord_cases s i).2 (by rw [← hnew]; exact hfresh i)).trans ?_)
        rw [newRecord_of_role hr]
        cases r <;> rfl
      · rw [hc.drives j, hc.table]
      · exact hc.tripped ((hmade _).trans hm)
      · have hm' := (hmade .tripUnit).trans hm
        obtain ⟨hline, hpins, hentries⟩ := hc.kept hm'
        refine ⟨?_, hentries, fun k => ⟨?_, fun hpower => hc.feeder hm' k ((hmade _).trans hpower)⟩⟩
        · obtain ⟨h1, h2, h3, h4, h5, h6, h7, h8, h9, h10, h11, h12, h13⟩ := applyCommits_frame s
          rw [ht'] at hline hpins hc ⊢
          exact State.ext_fields ⟨h1, hpins, h2, h3, h4, h5, h6, hc.table, h7, by dsimp only, h8, h9, by dsimp only,
            h10, by dsimp only, by dsimp only, h11, hline, h12, by dsimp only, by dsimp only, by dsimp only, h13⟩
        · have hp := (stationFailure_eq_none.1 (ht.station hstation).1).1
          have hnews : commitNews old new k =
              { present := present new k
                wasGoverned := governed old k
                isGoverned := governed new k
                replaced := made' (.gap k) || made' (.actuator k)
                reliefInput := hasRole new (.pressure k) || hasRole new (.actuator k) } := by
            rw [← hmade, ← hmade, ← roleReplaced_eq hp, ← roleReplaced_eq hp]
            rfl
          refine (hc.crusher hm' k).trans ?_
          rw [show commitNews s.activeTable s.stagedTable k = _ from hnews]
          rfl
  · have hno : station = false := Bool.eq_false_iff.2 hstation
    have hc := curvesCommitted hno
    rw [← ht'] at hc
    have hh : ({ s.handler with pendingCurve := false } : Handler) =
        { s.handler with pendingStation := false, pendingCurve := false } :=
      congrArg (fun b => ({ s.handler with pendingStation := b, pendingCurve := false } : Handler)) hno
    have hhandler : t.handler = { s.handler with pendingStation := false, pendingCurve := false } :=
      (congrArg State.handler hc.eq).trans hh
    refine ⟨fun _ hcurve => ?_, hhandler, hkeeps.1, hkeeps.2, fun hyes => ?_, hcurvePart, fun _ => ⟨?_,
      fun hcurve => ?_⟩,
      fun hyes => absurd hyes hstation⟩
    · have hactive : t.activeCurves = s.activeCurves := hcurves.trans (if_neg (by rw [hcurve]; decide))
      have hcauses : t.causes = s.causes :=
        hc.causes.trans (if_neg (by rw [show s.handler.pendingCurve = _ from hcurve]; decide))
      have hh : ({ s.handler with pendingCurve := false } : Handler) = s.handler := by rw [← hcurve]
      refine hc.eq.trans ?_
      rw [hactive, hcauses]
      dsimp only
      rw [hh]
    · have hcurve : curve = true := hyes.resolve_left hstation
      refine hc.committed.trans ?_
      rw [hno, Bool.false_and, if_pos (show s.handler.pendingCurve = true from hcurve)]
      rfl
    · rw [hhandler, ← hh]
      exact hc.eq
    · rw [hc.causes, if_pos (show s.handler.pendingCurve = true from hcurve)]
      exact raisedOnce_raise _ _ _

end Sys2Proof.Machine
end

section
/-!
PROOF. The arrivals of GAP, POWER and ACTUATOR at a crusher (O56).
-/

namespace Sys2Proof.Machine

/-! ### A context replaced and nothing else -/

/-- A new context that stays in the run states if it was in them, and in FAULT and due as it was, replaces the old one
and does nothing else. -/
theorem changeCrusher_set {s : State} (h : PlantCauses s) {k : Fin 4} {new : Crusher}
    (hd : new.due = (s.crusher k).due) (hf : new.state = .fault ↔ (s.crusher k).state = .fault)
    (hrun : (s.crusher k).state.isRun = true → new.state.isRun = true) :
    changeCrusher k (quiet new) s = { s with crushers := s.crushers.set k new } := by
  have hcauses := causes_changeCrusher_quiet h hd hf
  rw [changeCrusher_eq] at hcauses ⊢
  have hfeeders : feedersAfter s k (quiet new).crusher = s.feeders := by
    refine if_neg fun hleft => ?_
    obtain ⟨h1, h2⟩ := Bool.and_eq_true_iff.1 hleft
    rw [show (quiet new).crusher = new from rfl, hrun h1] at h2
    exact absurd h2 (by decide)
  dsimp only at hcauses
  rw [hcauses, hfeeders]
  rfl

/-! ### The issue check (R52, R53) -/

/-- The conditions of an issue check, of a crusher in a state with a feeder at an output (R52). -/
def Crusher.mayIssue (c : Crusher) (power : Option Nat) (state : CrusherState) (output : Nat) : Bool :=
  if state = .recover then decide (output ≤ c.params.recoverCap)
  else
    decide (output ≤ c.params.moveCap) &&
      (power.elim (decide (c.params.moveLoadMax = 2000)) fun p =>
        decide (min 2000 (p * 1000 / c.params.ratedPower) ≤ c.params.moveLoadMax))

/-- A context with a move issued under a sequence (R53). -/
def Crusher.issued (x : Crusher) (seq : Byte) (step : Int) (m : Move) : Crusher :=
  { x with
    moveSeq := seq
    moveRec := some { m with seq := some seq, step := some step, phase := .issued }
    command := { kind := .adjust, seq := seq, step := step } }

/-- What an issue check makes of a context that holds a move (R52, R53). -/
def Crusher.checked (c : Crusher) (power : Option Nat) (seq : Byte) (gap output : Nat) : Crusher :=
  match c.moveRec with
  | some m =>
    if m.phase = MovePhase.waiting && c.mayIssue power c.state output then
      if c.inDeadband (c.error gap) then
        { c with moveRec := none, targetSettled := true, state := if c.state = .move then .run else c.state }
      else if c.closingRefused (c.error gap) then
        { c with moveRec := none, state := if c.state = .move then .run else c.state }
      else c.issued seq (c.stepFor (c.error gap)) m
    else c
  | none => c

theorem afterMove_eq (x : CrusherState) : x.afterMove = if x = .move then .run else x := by cases x <;> rfl

theorem issueAllowed_eq {s : State} {k : Fin 4} {gap : Nat} (hgap : s.freshScalar (.gap k) = some gap) (c : Crusher)
    (hp : c.params = (s.crusher k).params) :
    issueAllowed (s.view k) c = c.mayIssue (s.freshScalar (.power k)) c.state (s.feeder k).output := by
  unfold issueAllowed State.view Crusher.mayIssue loadOf
  simp only [hgap, Option.isSome_some, Bool.true_and, beq_iff_eq, hp]
  cases s.freshScalar (.power k) with
  | none => simp [Bool.beq_eq_decide_eq]
  | some p => rfl

/-- The sequence an issued move of crusher k takes (R53). -/
def State.seqFor (s : State) (k : Fin 4) (c : Crusher) : Byte :=
  if (s.heldStatus k).map (fun st => st.lastSeq) = some (c.moveSeq + 1) then c.moveSeq + 2 else c.moveSeq + 1

/-- That sequence is never the one the actuator's held record reports. -/
theorem seqFor_ne_last (s : State) (k : Fin 4) (c : Crusher) :
    (s.heldStatus k).map (fun st => st.lastSeq) ≠ some (s.seqFor k c) := by
  unfold State.seqFor
  split
  · rename_i h
    rw [h]
    intro he
    have := Option.some.inj he
    bv_omega
  · rename_i h
    exact h

theorem issueCheck_eq {s : State} {k : Fin 4} {gap : Nat} (hgap : s.freshScalar (.gap k) = some gap) (c : Crusher)
    (hp : c.params = (s.crusher k).params) :
    issueCheck (s.view k) c = c.checked (s.freshScalar (.power k)) (s.seqFor k c) gap (s.feeder k).output := by
  have hview : (s.view k).gap = some gap := hgap
  unfold issueCheck Crusher.checked
  rw [hview]
  cases hm : c.moveRec with
  | none => rfl
  | some m =>
    dsimp only
    rw [← issueAllowed_eq hgap c hp]
    by_cases hw : m.phase = .waiting ∧ issueAllowed (s.view k) c = true
    · rw [if_pos hw, if_pos (by simpa using hw)]
      unfold issue
      dsimp only
      rw [afterMove_eq]
      rfl
    · rw [if_neg hw, if_neg (by simpa using hw)]

theorem issueCheck_of_no_gap {s : State} {k : Fin 4} (hgap : s.freshScalar (.gap k) = none) (c : Crusher) :
    issueCheck (s.view k) c = c := by
  have hview : (s.view k).gap = none := hgap
  unfold issueCheck
  rw [hview]
  cases c.moveRec <;> rfl

/-- A waiting move a context begins with. -/
def Move.waiting (cause : MoveCause) : Move :=
  { seq := none, step := none, cause := cause, phase := .waiting, elapsed := 0 }

/-- A context that begins a move, issued at once where it may be (R50, R52). -/
def Crusher.begun (x : Crusher) (power : Option Nat) (seq : Byte) (gap output : Nat) (cause : MoveCause) : Crusher :=
  if x.mayIssue power x.state output then x.issued seq (x.stepFor (x.error gap)) (.waiting cause)
  else { x with moveRec := some (.waiting cause) }

/-- What the evaluation of a gap makes of a context without a move (R50, R60, R71, R73). -/
def Crusher.evaluated (c : Crusher) (dryRun : Bool) (power : Option Nat) (seq : Byte) (gap output : Nat) : Crusher :=
  let within := c.inDeadband (c.error gap)
  let refused := c.closingRefused (c.error gap)
  if c.state = .run then
    if dryRun then
      { c with
        targetSettled := c.targetSettled || within
        proposedStep := some (if within || refused then 0 else c.stepFor (c.error gap)) }
    else if within then { c with targetSettled := true }
    else if refused then c
    else ({ c with state := .move } : Crusher).begun power seq gap output (if c.targetSettled then .wear else .target)
  else if c.state = .recover then
    let back : Crusher := { c with state := .run, targetSettled := c.targetSettled || within, reliefRec := none }
    if dryRun then
      if within || refused then { back with proposedStep := some 0 }
      else { c with proposedStep := some (c.stepFor (c.error gap)) }
    else if within || refused then back
    else c.begun power seq gap output .recovery
  else c

/-- A move created outside the deadband, not refused, is issued at once or waits. -/
theorem issueCheck_newMove {s : State} {k : Fin 4} {gap : Nat} (hgap : s.freshScalar (.gap k) = some gap) (x : Crusher)
    (hp : x.params = (s.crusher k).params) (cause : MoveCause) (hin : x.inDeadband (x.error gap) = false)
    (href : x.closingRefused (x.error gap) = false) :
    issueCheck (s.view k) { x with moveRec := some (newMove cause) } =
      x.begun (s.freshScalar (.power k)) (s.seqFor k x) gap (s.feeder k).output cause := by
  refine (issueCheck_eq hgap { x with moveRec := some (newMove cause) } hp).trans ?_
  unfold Crusher.begun
  by_cases hmay : x.mayIssue (s.freshScalar (.power k)) x.state (s.feeder k).output = true
  · rw [if_pos hmay]
    exact (if_pos hmay).trans ((if_neg (Bool.eq_false_iff.1 hin)).trans ((if_neg (Bool.eq_false_iff.1 href)).trans rfl))
  · rw [if_neg hmay]
    exact if_neg hmay

theorem proposeRun_eq (gap : Nat) (c : Crusher) :
    proposeRun gap c =
      { c with
        targetSettled := c.targetSettled || c.inDeadband (c.error gap)
        proposedStep :=
          some (if c.inDeadband (c.error gap) || c.closingRefused (c.error gap) then 0
            else c.stepFor (c.error gap)) } := by
  unfold proposeRun
  dsimp only
  cases c.inDeadband (c.error gap) <;> cases c.closingRefused (c.error gap) <;> simp

theorem proposeRecover_eq (gap : Nat) (c : Crusher) :
    proposeRecover gap c =
      if c.inDeadband (c.error gap) || c.closingRefused (c.error gap) then
        { c with
          state := .run, targetSettled := c.targetSettled || c.inDeadband (c.error gap), reliefRec := none
          proposedStep := some 0 }
      else { c with proposedStep := some (c.stepFor (c.error gap)) } := by
  unfold proposeRecover
  dsimp only
  cases c.inDeadband (c.error gap) <;> cases c.closingRefused (c.error gap) <;> simp

theorem evaluateRun_eq {s : State} {k : Fin 4} {gap : Nat} (hgap : s.freshScalar (.gap k) = some gap) (c : Crusher)
    (hp : c.params = (s.crusher k).params) :
    evaluateRun (s.view k) gap c =
      if c.inDeadband (c.error gap) then { c with targetSettled := true }
      else if c.closingRefused (c.error gap) then c
      else
        ({ c with state := .move } : Crusher).begun (s.freshScalar (.power k)) (s.seqFor k c) gap (s.feeder k).output
          (if c.targetSettled then .wear else .target) := by
  unfold evaluateRun
  dsimp only
  cases hin : c.inDeadband (c.error gap) with
  | true => rfl
  | false =>
    cases href : c.closingRefused (c.error gap) with
    | true => rfl
    | false => exact issueCheck_newMove hgap ({ c with state := .move } : Crusher) hp _ hin href

theorem evaluateRecover_eq {s : State} {k : Fin 4} {gap : Nat} (hgap : s.freshScalar (.gap k) = some gap) (c : Crusher)
    (hp : c.params = (s.crusher k).params) :
    evaluateRecover (s.view k) gap c =
      if c.inDeadband (c.error gap) || c.closingRefused (c.error gap) then
        { c with
          state := .run, targetSettled := c.targetSettled || c.inDeadband (c.error gap), reliefRec := none }
      else c.begun (s.freshScalar (.power k)) (s.seqFor k c) gap (s.feeder k).output .recovery := by
  unfold evaluateRecover
  dsimp only
  cases hin : c.inDeadband (c.error gap) with
  | true => simp
  | false =>
    cases href : c.closingRefused (c.error gap) with
    | true => simp
    | false => exact issueCheck_newMove hgap c hp _ hin href

/-- What a GAP arrival makes of its crusher (R50, R52, R60, R71, R73). -/
theorem gapArrival_eq {s : State} {k : Fin 4} {gap : Nat} (hgap : s.freshScalar (.gap k) = some gap) :
    gapArrival (s.view k) (s.crusher k) =
      if (s.crusher k).moveRec.isSome then
        (s.crusher k).checked (s.freshScalar (.power k)) (s.seqFor k (s.crusher k)) gap (s.feeder k).output
      else if s.governed k && (s.crusher k).settleCount == 0 then
        (s.crusher k).evaluated s.handler.dryRun (s.freshScalar (.power k)) (s.seqFor k (s.crusher k)) gap
          (s.feeder k).output
      else s.crusher k := by
  have hview : (s.view k).gap = some gap := hgap
  have hgoverned : (s.view k).governed = s.governed k := rfl
  have hdry : (s.view k).dryRun = s.handler.dryRun := rfl
  unfold gapArrival
  cases hm : (s.crusher k).moveRec with
  | some m => exact issueCheck_eq hgap _ rfl
  | none =>
    rw [hview, hgoverned, hdry]
    dsimp only
    rw [if_neg (show ¬(none : Option Move).isSome = true by decide)]
    refine if_congr Iff.rfl ?_ rfl
    unfold Crusher.evaluated
    dsimp only
    split
    · rename_i hs
      rw [if_pos hs, proposeRun_eq, evaluateRun_eq hgap _ rfl]
    · rename_i hs
      rw [if_neg (show ¬(s.crusher k).state = .run by rw [hs]; decide), if_pos hs, proposeRecover_eq,
        evaluateRecover_eq hgap _ rfl]
    all_goals
      rename_i hs
      rw [if_neg (show ¬(s.crusher k).state = .run by rw [hs]; decide),
        if_neg (show ¬(s.crusher k).state = .recover by rw [hs]; decide)]

/-! ### What such a change does not bring with it -/

/-- A context that neither enters nor leaves FAULT, does not leave the run states and is due as it was. -/
structure StaysUp (x y : Crusher) : Prop where
  due : y.due = x.due
  fault : y.state = .fault ↔ x.state = .fault
  run : x.state.isRun = true → y.state.isRun = true

theorem changeCrusher_staysUp {s : State} (h : PlantCauses s) {k : Fin 4} {new : Crusher}
    (hs : StaysUp (s.crusher k) new) :
    changeCrusher k (quiet new) s = { s with crushers := s.crushers.set k new } :=
  changeCrusher_set h hs.due hs.fault hs.run

theorem StaysUp.same {x y : Crusher} (hd : y.due = x.due) (hs : y.state = x.state) : StaysUp x y :=
  ⟨hd, by rw [hs], by rw [hs]; exact id⟩

theorem StaysUp.of_run {x y : Crusher} (hd : y.due = x.due) (hx : x.state.isRun = true) (hy : y.state.isRun = true) :
    StaysUp x y :=
  ⟨hd, ⟨fun h => (by rw [h] at hy; cases hy), fun h => (by rw [h] at hx; cases hx)⟩, fun _ => hy⟩

theorem checked_staysUp (c : Crusher) (power : Option Nat) (seq : Byte) (gap output : Nat) :
    StaysUp c (c.checked power seq gap output) := by
  have hback (x : Crusher) (hd : x.due = c.due) (hs : x.state = if c.state = .move then .run else c.state) :
      StaysUp c x := by
    by_cases hm : c.state = .move
    · rw [if_pos hm] at hs
      exact .of_run hd (by rw [hm]; rfl) (by rw [hs]; rfl)
    · rw [if_neg hm] at hs
      exact .same hd hs
  unfold Crusher.checked
  split
  · split
    · split
      · exact hback _ rfl rfl
      · split
        · exact hback _ rfl rfl
        · exact .same rfl rfl
    · exact .same rfl rfl
  · exact .same rfl rfl

theorem begun_staysUp (x : Crusher) (power : Option Nat) (seq : Byte) (gap output : Nat) (cause : MoveCause) :
    (x.begun power seq gap output cause).due = x.due ∧ (x.begun power seq gap output cause).state = x.state := by
  unfold Crusher.begun
  split <;> exact ⟨rfl, rfl⟩

theorem evaluated_staysUp (c : Crusher) (dryRun : Bool) (power : Option Nat) (seq : Byte) (gap output : Nat) :
    StaysUp c (c.evaluated dryRun power seq gap output) := by
  unfold Crusher.evaluated
  dsimp only
  by_cases hrun : c.state = .run
  · rw [if_pos hrun]
    split
    · exact .same rfl rfl
    · split
      · exact .same rfl rfl
      · split
        · exact .same rfl rfl
        · obtain ⟨hd, hs⟩ := begun_staysUp ({ c with state := .move } : Crusher) power seq gap output
            (if c.targetSettled then .wear else .target)
          exact .of_run hd (by rw [hrun]; rfl) (by rw [hs]; rfl)
  · rw [if_neg hrun]
    by_cases hrec : c.state = .recover
    · have hup : c.state.isRun = true := by rw [hrec]; rfl
      rw [if_pos hrec]
      split
      · split
        · exact .of_run rfl hup rfl
        · exact .same rfl rfl
      · split
        · exact .of_run rfl hup rfl
        · obtain ⟨hd, hs⟩ := begun_staysUp c power seq gap output .recovery
          exact .same hd hs
    · rw [if_neg hrec]
      exact .same rfl rfl

/-! ### The sequence of an issued move (R53) -/

/-- A move that a check issues takes the sequence given, and one that waits stays as it was. -/
theorem checked_issued {c : Crusher} {power : Option Nat} {seq : Byte} {gap output : Nat} {m : Move}
    (hm : (c.checked power seq gap output).moveRec = some m) (hp : m.phase = .issued)
    (hw : c.moveRec.all (fun m => m.phase = .waiting) = true) : (c.checked power seq gap output).moveSeq = seq := by
  have hsame (he : c.moveRec = some m) : False := by
    rw [he] at hw
    simp [hp] at hw
  unfold Crusher.checked at hm ⊢
  split
  · rename_i m' hc
    rw [hc] at hm
    dsimp only at hm
    split
    · rename_i hmay
      rw [if_pos hmay] at hm
      split
      · rename_i hin
        rw [if_pos hin] at hm
        cases hm
      · rename_i hin
        rw [if_neg hin] at hm
        split
        · rename_i href
          rw [if_pos href] at hm
          cases hm
        · rfl
    · rename_i hmay
      rw [if_neg hmay] at hm
      exact (hsame hm).elim
  · rename_i hc
    rw [hc] at hm
    exact (hsame hm).elim

theorem begun_issued {x : Crusher} {power : Option Nat} {seq : Byte} {gap output : Nat} {cause : MoveCause} {m : Move}
    (hm : (x.begun power seq gap output cause).moveRec = some m) (hp : m.phase = .issued) :
    (x.begun power seq gap output cause).moveSeq = seq := by
  unfold Crusher.begun at hm ⊢
  split
  · rfl
  · rename_i hmay
    rw [if_neg hmay] at hm
    cases hm
    cases hp

theorem evaluated_issued {c : Crusher} {dryRun : Bool} {power : Option Nat} {seq : Byte} {gap output : Nat} {m : Move}
    (hc : c.moveRec = none) (hm : (c.evaluated dryRun power seq gap output).moveRec = some m) (hp : m.phase = .issued) :
    (c.evaluated dryRun power seq gap output).moveSeq = seq := by
  have hsame {x : Crusher} (hx : x.moveRec = c.moveRec) (hm : x.moveRec = some m) : x.moveSeq = seq := by
    rw [hx, hc] at hm
    cases hm
  generalize hn : c.evaluated dryRun power seq gap output = new at hm ⊢
  unfold Crusher.evaluated at hn
  dsimp only at hn
  split at hn
  · split at hn
    · exact hsame (by rw [← hn]) hm
    · split at hn
      · exact hsame (by rw [← hn]) hm
      · split at hn
        · exact hsame (by rw [← hn]) hm
        · rw [← hn] at hm ⊢
          exact begun_issued hm hp
  · split at hn
    · split at hn
      · split at hn
        · exact hsame (by rw [← hn]) hm
        · exact hsame (by rw [← hn]) hm
      · split at hn
        · exact hsame (by rw [← hn]) hm
        · rw [← hn] at hm ⊢
          exact begun_issued hm hp
    · exact hsame (by rw [← hn]) hm

end Sys2Proof.Machine
end

section
/-!
PROOF. A status that reports on a move in flight, and the three arrivals put together (O56).
-/

namespace Sys2Proof.Machine

/-! ### A status on the move in flight (R55, R56) -/

/-- The move a status reports on: in flight, under the sequence reported (R55). -/
def Crusher.hit (c : Crusher) (st : ActStatus) : Option Move :=
  c.moveRec.filter fun m => decide (m.phase ≠ .waiting ∧ m.seq = some st.lastSeq)

/-- What a status makes of the context (R55, R56). -/
def Crusher.reported (c : Crusher) (st : ActStatus) : Crusher :=
  let hold : Command := { kind := .hold, seq := c.moveSeq, step := 0 }
  let back := if c.state = .move then CrusherState.run else c.state
  match c.hit st with
  | none => c
  | some m =>
    let closing : Nat := (m.step.getD 0).toNat
    match st.result with
    | .idle => c
    | .busy => { c with moveRec := some { m with phase := .active } }
    | .done =>
      { c with
        moveRec := none, command := hold, state := back, settleCount := c.params.settleCycles
        wear := if m.cause = MoveCause.wear then min 65535 (c.wear + closing) else c.wear }
    | .strokeEnd =>
      { c with
        moveRec := none, command := hold, state := back, settleCount := c.params.settleCycles
        closeBlocked := c.closeBlocked || decide (0 < closing) }
    | .fault =>
      { c with moveRec := none, command := { kind := .stop, seq := c.moveSeq, step := 0 }, state := .fault }

/-- Whether a status ends a move in FAULT, and whether it ends one at the end of the stroke. -/
def Crusher.fails (c : Crusher) (st : ActStatus) : Bool := (c.hit st).isSome && decide (st.result = .fault)

def Crusher.blocks (c : Crusher) (st : ActStatus) : Bool := (c.hit st).isSome && decide (st.result = .strokeEnd)

theorem hit_eq_some {c : Crusher} {st : ActStatus} {m : Move} :
    c.hit st = some m ↔ c.moveRec = some m ∧ m.phase ≠ .waiting ∧ m.seq = some st.lastSeq := by
  unfold Crusher.hit
  rw [Option.filter_eq_some_iff, decide_eq_true_eq]

/-- A status on a context that is as it should be: the context reported on, and MOVE_FAILED where the move fails or its
stroke ends (R55, R56). -/
theorem statusOnMove_eq {c : Crusher} (h : ContextInv c) (st : ActStatus) :
    statusOnMove st c =
      { crusher := c.reported st, raises := if c.fails st || c.blocks st then [.moveFailed] else [] } := by
  cases hh : c.hit st with
  | none =>
    have hmiss : statusOnMove st c = quiet c := by
      unfold statusOnMove
      cases hm : c.moveRec with
      | none => rfl
      | some m =>
        dsimp only
        refine if_pos ?_
        by_contra hno
        rw [not_or, not_not] at hno
        rw [hit_eq_some.2 ⟨hm, hno⟩] at hh
        cases hh
    rw [hmiss]
    simp [Crusher.reported, Crusher.fails, Crusher.blocks, hh, quiet]
  | some m =>
    obtain ⟨hm, hphase, hseq⟩ := hit_eq_some.1 hh
    obtain ⟨step, -, hstep, -⟩ := (h.move m hm).1.flying hphase
    have hwear : c.wear ≤ 65535 := h.ranges.2
    unfold statusOnMove Crusher.reported Crusher.fails Crusher.blocks
    rw [hh, hm]
    dsimp only
    rw [if_neg (by simp [hphase, hseq])]
    cases hr : st.result with
    | idle | busy => simp [quiet]
    | done =>
      have hworn :
          (if (m.cause == .wear && decide (0 < step)) = true then min 65535 (c.wear + step.toNat) else c.wear) =
          if m.cause = .wear then min 65535 (c.wear + step.toNat) else c.wear := by
        by_cases hc : m.cause = .wear <;> by_cases hs : 0 < step <;> simp [hc, hs]
        omega
      simp only [complete, hstep, Option.getD_some, afterMove_eq, Crusher.holdCommand, hworn]
      simp [quiet]
    | strokeEnd => simp [complete, hstep, afterMove_eq, Crusher.holdCommand]
    | fault => simp [complete, Crusher.stopCommand]

/-- Where a status finds its move, the crusher is in MOVE or RECOVER. -/
theorem isRun_of_hit {c : Crusher} (h : ContextInv c) {st : ActStatus} {m : Move} (hh : c.hit st = some m) :
    c.state.isRun = true ∧ c.state ≠ .fault := by
  rcases (h.move m (hit_eq_some.1 hh).1).2 with hs | hs <;> rw [hs] <;> exact ⟨rfl, by decide⟩

/-- A reported status leaves the state, ends the move in a run state, or ends it in FAULT. -/
theorem reported_state {c : Crusher} (h : ContextInv c) (st : ActStatus) :
    (c.fails st = true → c.state.isRun = true ∧ c.state ≠ .fault ∧ (c.reported st).state = .fault) ∧
      (c.fails st = false → StaysUp c { c with state := (c.reported st).state }) := by
  unfold Crusher.fails Crusher.reported
  cases hh : c.hit st with
  | none => exact ⟨fun hf => absurd hf (by simp), fun _ => .same rfl rfl⟩
  | some m =>
    obtain ⟨hrun, hfault⟩ := isRun_of_hit h hh
    have hback : (if c.state = .move then CrusherState.run else c.state).isRun = true := by
      split
      · rfl
      · exact hrun
    cases hr : st.result with
    | fault => exact ⟨fun _ => ⟨hrun, hfault, rfl⟩, fun hf => absurd hf (by simp)⟩
    | idle | busy => exact ⟨fun hf => absurd hf (by simp), fun _ => .same rfl rfl⟩
    | done | strokeEnd => exact ⟨fun hf => absurd hf (by simp), fun _ => .of_run rfl hrun hback⟩

/-- Wear and closeBlocked never go back at a status. -/
theorem reported_due {c : Crusher} (h : ContextInv c) (st : ActStatus) (hd : c.due = true) :
    (c.reported st).due = true := by
  have hwear := h.ranges.2
  rw [Crusher.due_iff] at hd ⊢
  unfold Crusher.reported
  cases hh : c.hit st with
  | none => exact hd
  | some m =>
    cases st.result with
    | done =>
      refine hd.imp_left fun hl => ?_
      dsimp only
      split <;> omega
    | strokeEnd => exact hd.imp_right fun hb => by simp [hb]
    | _ => exact hd

/-- What a status raises (R46, R56, R58). -/
theorem count_reported {c : Crusher} (h : ContextInv c) (st : ActStatus) (x : Cause) :
    ((statusOnMove st c).causes c).count x =
      match x with
      | .moveFailed => if c.fails st || c.blocks st then 1 else 0
      | .crusherFault => if c.fails st then 1 else 0
      | .linerDue => if (c.reported st).isDue ∧ ¬c.isDue then 1 else 0
      | _ => 0 := by
  have hfault : (c.state ≠ .fault ∧ (c.reported st).state = .fault) ↔ c.fails st = true := by
    obtain ⟨hyes, hno⟩ := reported_state h st
    cases hf : c.fails st with
    | true => exact iff_of_true (hyes hf).2 rfl
    | false => exact iff_of_false (fun hn => hn.1 ((hno hf).fault.1 hn.2)) (by decide)
  have hdue : (c.due = false ∧ (c.reported st).due = true) ↔ ((c.reported st).isDue ∧ ¬c.isDue) := by
    rw [Crusher.due_iff, ← Bool.not_eq_true, Crusher.due_iff, and_comm]
  rw [statusOnMove_eq h]
  unfold Change.causes
  dsimp only
  rw [if_congr hfault rfl rfl, if_congr hdue rfl rfl]
  simp only [List.count_append, count_ite_singleton]
  cases x <;> simp only [reduceCtorEq, if_false, if_true, Nat.zero_add, Nat.add_zero]

/-- A status with the relief closed is no sample of a relief that is not open (R65, R68). -/
theorem takeSample_closed {now : Long} {smp : Sample} (hs : smp ≠ .onset) {c : Crusher}
    (hr : ∀ r, c.reliefRec = some r → r.phase = .cleared) : takeSample now smp c = quiet c := by
  have hopen {r : Relief} (h : c.reliefRec = some r) : r.phase ≠ .opened := by rw [hr r h]; decide
  unfold takeSample
  split
  case h_1 | h_2 | h_3 => exact if_neg hs
  case h_4 =>
    split
    · exact if_neg (hopen ‹_›)
    · rfl
  case h_5 =>
    split
    · rw [if_neg (hopen ‹_›), if_neg hs]
    · exact if_neg hs
  all_goals rfl

theorem changeCrusher_self {s : State} (h : PlantCauses s) (k : Fin 4) :
    changeCrusher k (quiet (s.crusher k)) s = s := by
  rw [changeCrusher_staysUp h (.same rfl rfl)]
  have hset : s.crushers.set k (s.crusher k) = s.crushers := Vector.set_getElem_self _
  rw [hset]

/-- An ACTUATOR arrival with the relief closed bears on the move alone (R55). -/
theorem actuatorArrival_eq {s : State} (h : PlantCauses s) {k : Fin 4} {st : ActStatus}
    (hst : s.heldStatus k = some st) (hopen : st.reliefOpen = false)
    (hr : ∀ r, (s.crusher k).reliefRec = some r → r.phase = .cleared) :
    actuatorArrival k s = changeCrusher k (statusOnMove st (s.crusher k)) s := by
  have hsmp : statusSample st.reliefOpen (s.isFresh (.pressure k)) ≠ .onset := by
    rw [hopen]
    unfold statusSample
    simp only [Bool.false_eq_true, if_false]
    split <;> decide
  unfold actuatorArrival
  rw [hst]
  dsimp only
  rw [takeSample_closed hsmp hr, changeCrusher_self h]

/-! ### The three arrivals (O56) -/

/-- A GAP arrival changes the context and nothing else. -/
theorem gapOf_eq {s : State} (h : PlantCauses s) {k : Fin 4} {gap : Nat} (hgap : s.freshScalar (.gap k) = some gap) :
    gapOf k s = { s with crushers := s.crushers.set k (gapArrival (s.view k) (s.crusher k)) } := by
  unfold gapOf
  refine changeCrusher_staysUp h ?_
  rw [gapArrival_eq hgap]
  split
  · exact checked_staysUp _ _ _ _ _
  · split
    · exact evaluated_staysUp _ _ _ _ _ _
    · exact .same rfl rfl

/-- A move issued at a GAP arrival has a sequence the actuator does not report (R53). -/
theorem gapArrival_issued {s : State} {k : Fin 4} {gap : Nat} (hgap : s.freshScalar (.gap k) = some gap)
    (hissued : ∃ m, (gapArrival (s.view k) (s.crusher k)).moveRec = some m ∧ m.phase = .issued)
    (hw : (s.crusher k).moveRec.all (fun m => m.phase = .waiting) = true) :
    (s.heldStatus k).map (fun st => st.lastSeq) ≠ some (gapArrival (s.view k) (s.crusher k)).moveSeq := by
  obtain ⟨m, hm, hp⟩ := hissued
  have hseq : (gapArrival (s.view k) (s.crusher k)).moveSeq = s.seqFor k (s.crusher k) := by
    rw [gapArrival_eq hgap] at hm ⊢
    by_cases hsome : (s.crusher k).moveRec.isSome = true
    · rw [if_pos hsome] at hm ⊢
      exact checked_issued hm hp hw
    · have hnone : (s.crusher k).moveRec = none := by simpa using hsome
      rw [if_neg hsome] at hm ⊢
      split
      · rename_i hgov
        rw [if_pos hgov] at hm
        exact evaluated_issued hnone hm hp
      · rename_i hgov
        rw [if_neg hgov, hnone] at hm
        cases hm
  rw [hseq]
  exact seqFor_ne_last s k _

/-- A POWER arrival: the feeder computes, and the context checks its move by the output that gives (R18, R52). -/
theorem powerArrival_eq {s : State} (h : PlantCauses s) (k : Fin 4) :
    powerArrival k s =
      { computeFeeder k s with
        crushers :=
          s.crushers.set k
            ((s.freshScalar (.gap k)).elim (s.crusher k) fun gap =>
              (s.crusher k).checked (s.freshScalar (.power k)) (s.seqFor k (s.crusher k)) gap
                ((computeFeeder k s).feeder k).output) } := by
  have hplant := (h.computeFeeder k).1
  have hcrushers : (computeFeeder k s).crushers = s.crushers := by simp
  have hcrusher : (computeFeeder k s).crusher k = s.crusher k := State.crusher_congr hcrushers k
  have hfresh (r : Role) : (computeFeeder k s).freshScalar r = s.freshScalar r := by
    simp [State.freshScalar, State.recordOf]
  have hheld : (computeFeeder k s).heldStatus k = s.heldStatus k := by simp [State.heldStatus, State.recordOf]
  have hseq : (computeFeeder k s).seqFor k (s.crusher k) = s.seqFor k (s.crusher k) := by
    unfold State.seqFor
    rw [hheld]
  unfold powerArrival
  dsimp only
  generalize computeFeeder k s = t at *
  have hnew : issueCheck (t.view k) (t.crusher k) = (s.freshScalar (.gap k)).elim (s.crusher k) fun gap =>
      (s.crusher k).checked (s.freshScalar (.power k)) (s.seqFor k (s.crusher k)) gap (t.feeder k).output := by
    cases hgap : s.freshScalar (.gap k) with
    | none =>
      rw [issueCheck_of_no_gap ((hfresh _).trans hgap), hcrusher]
      rfl
    | some gap =>
      rw [issueCheck_eq ((hfresh _).trans hgap) _ rfl, hcrusher, hfresh, hseq]
      rfl
  rw [hnew, changeCrusher_staysUp hplant ?_, hcrushers]
  rw [hcrusher]
  cases s.freshScalar (.gap k) with
  | none => exact .same rfl rfl
  | some gap => exact checked_staysUp _ _ _ _ _

/-- The feeder of a crusher whose move fails is zeroed, and no other (R92). -/
theorem feedersAfter_reported {s : State} {k : Fin 4} (hc : ContextInv (s.crusher k)) (st : ActStatus) :
    feedersAfter s k ((s.crusher k).reported st) =
      if (s.crusher k).fails st then
        s.feeders.set k { s.feeder k with output := 0, driveValue := driveValueOf s.activeTable k 0 }
      else s.feeders := by
  obtain ⟨hyes, hno⟩ := reported_state hc st
  refine if_congr ?_ rfl rfl
  rw [Bool.and_eq_true, Bool.not_eq_true']
  cases hf : (s.crusher k).fails st with
  | true =>
    obtain ⟨hrun, -, hfault⟩ := hyes hf
    exact iff_of_true ⟨hrun, by rw [hfault]; rfl⟩ rfl
  | false =>
    refine iff_of_false (fun hleft => ?_) (by decide)
    have hstays : ((s.crusher k).reported st).state.isRun = true := (hno hf).run hleft.1
    rw [hstays] at hleft
    exact absurd hleft.2 (by decide)

/-- An ACTUATOR arrival with the relief closed: the causes of what it makes of the move, the context, and the feeder of
a move that fails (R55, R56). -/
theorem actuatorArrival_reported {s : State} (h : CauseInv s) {k : Fin 4} (hc : ContextInv (s.crusher k))
    {st : ActStatus} (hst : s.heldStatus k = some st) (hopen : st.reliefOpen = false)
    (hr : ∀ r, (s.crusher k).reliefRec = some r → r.phase = .cleared) :
    RaisedEach s.params.causeMask
        (fun x =>
          match x with
          | .moveFailed => if (s.crusher k).fails st || (s.crusher k).blocks st then 1 else 0
          | .crusherFault => if (s.crusher k).fails st then 1 else 0
          | .linerDue => if ((s.crusher k).reported st).isDue ∧ ¬(s.crusher k).isDue then 1 else 0
          | _ => 0)
        s.causes (actuatorArrival k s).causes ∧
      actuatorArrival k s =
        { s with
          crushers := s.crushers.set k ((s.crusher k).reported st)
          feeders :=
            if (s.crusher k).fails st then
              s.feeders.set k { s.feeder k with output := 0, driveValue := driveValueOf s.activeTable k 0 }
            else s.feeders
          causes := (actuatorArrival k s).causes } := by
  have hcrusher : (statusOnMove st (s.crusher k)).crusher = (s.crusher k).reported st := by rw [statusOnMove_eq hc]
  have hedge : ∀ x ∈ (statusOnMove st (s.crusher k)).raises, x.isLevel = false := by
    rw [statusOnMove_eq hc]
    dsimp only
    split
    · intro x hx
      rw [List.mem_singleton.1 hx]
      rfl
    · simp
  have hfault (hf : (s.crusher k).state = .fault) : ((s.crusher k).reported st).state = .fault := by
    obtain ⟨hyes, hno⟩ := reported_state hc st
    cases hfails : (s.crusher k).fails st with
    | true => exact (hyes hfails).2.2
    | false => exact (hno hfails).fault.2 hf
  rw [actuatorArrival_eq h.plantCauses hst hopen hr]
  refine ⟨(raisedEach_changeCrusher h.plantCauses hedge (by rw [hcrusher]; exact reported_due hc st)
    (by rw [hcrusher]; exact hfault)).congr fun x => (count_reported hc st x).symm, ?_⟩
  rw [changeCrusher_eq, hcrusher, feedersAfter_reported hc]

/-- Settles O56: an arrival of GAP, of POWER, and of a status that bears on the move alone. -/
theorem gapMoves : Obligations.GapMoves := by
  intro s k h hc c after last seq mayIssue within refused stepOf issued checked waiting begun evaluated
  have hplant := h.plantCauses
  refine ⟨fun gap hgap => ?_, ?_, fun st hst hopen hr => ?_⟩
  · intro new
    have hnew : gapArrival (s.view k) (s.crusher k) = new := gapArrival_eq hgap
    rw [← hnew]
    exact ⟨gapOf_eq hplant hgap, fun hissued hw => gapArrival_issued hgap hissued hw⟩
  · exact powerArrival_eq hplant k
  · intro hit hold new failed blocked raises
    obtain ⟨hraised, heq⟩ := actuatorArrival_reported h hc hst hopen hr
    refine ⟨_, hraised.congr fun x => ?_, heq⟩
    cases x <;> rfl

end Sys2Proof.Machine
end

section
/-!
PROOF. Line time (Chapter 2), each event said once: what a marker can do, what an expiry does, and how the tracker
stands after an acquisition and a loss of lock.
-/

namespace Sys2Proof.Machine

/-! ### Markers (R24, R26, R29, R30) -/

/-- A marker is valid with two bytes of payload and a period of 2 to 250 (R24). -/
theorem validMarker_eq_some {payload : List Byte} {number : Byte} {period : Nat} :
    validMarker payload = some (number, period) ↔
      ∃ p : Byte, payload = [number, p] ∧ period = p.toNat ∧ 2 ≤ p.toNat ∧ p.toNat ≤ 250 := by
  unfold validMarker
  split
  · rename_i n p
    by_cases hp : 2 ≤ p.toNat ∧ p.toNat ≤ 250
    · simp only [inRange, hp, decide_true, Bool.and_true, if_true, Option.some.injEq, Prod.mk.injEq, List.cons.injEq,
        and_true, and_assoc]
      exact ⟨fun ⟨hn, he⟩ => ⟨p, hn, rfl, he.symm, hp⟩, fun ⟨_, hn, hq, he, _⟩ => ⟨hn, by rw [he, hq]⟩⟩
    · have hr : inRange 2 250 p.toNat = false := by simpa [inRange] using hp
      rw [hr]
      refine ⟨fun h => (by cases h), fun ⟨q, he, _, hq⟩ => ?_⟩
      simp only [List.cons.injEq, and_true] at he
      exact absurd (he.2 ▸ hq) hp
  · rename_i hne
    exact ⟨fun h => (by cases h), fun ⟨p, he, _⟩ => absurd he (hne number p)⟩

/-- A marker is invalid with another length, or a period outside 2 to 250 (R24). -/
theorem validMarker_eq_none {payload : List Byte}
    (h : payload.length ≠ 2 ∨ ∃ n p : Byte, payload = [n, p] ∧ (p.toNat < 2 ∨ 250 < p.toNat)) :
    validMarker payload = none := by
  rw [Option.eq_none_iff_forall_ne_some]
  rintro ⟨number, period⟩ hv
  obtain ⟨q, rfl, -, hq⟩ := validMarker_eq_some.1 hv
  rcases h with hl | ⟨n, p, he, hp⟩
  · exact hl rfl
  · cases he
    omega

/-- The tracker after a valid marker in SEARCH (R25, R26). -/
def Tracker.runMarker (t : Tracker) (number : Byte) (period : Nat) : Tracker :=
  { t.noteMarker number period with runCount := t.runAfter number }

/-- What a marker can do: it is invalid; in SEARCH it falls short of the threshold or acquires lock; in LOCKED it counts
a cycle, after which lock ends at the fourth slip. -/
theorem takeMarker_keeps {P : State → Prop} {payload : List Byte} {s : State}
    (hinvalid : validMarker payload = none →
      P (raise .lineError { s with tracker := { s.tracker with invalidMarkers := countUp s.tracker.invalidMarkers } }))
    (hshort : ∀ number period, validMarker payload = some (number, period) → s.tracker.lockState = .search →
      s.tracker.runAfter number < s.params.lockThreshold → P { s with tracker := s.tracker.runMarker number period })
    (hacquire : ∀ number period, validMarker payload = some (number, period) → s.tracker.lockState = .search →
      P (acquireLock { s with tracker := s.tracker.runMarker number period }))
    (hcount : ∀ number period, validMarker payload = some (number, period) → s.tracker.lockState = .locked →
      (s.tracker.countMarker number period).slipRun < 4 →
      P (countedCycle { s with tracker := s.tracker.countMarker number period }))
    (hend : ∀ number period, validMarker payload = some (number, period) → s.tracker.lockState = .locked →
      P (endLock (countedCycle { s with tracker := s.tracker.countMarker number period }))) :
    P (takeMarker payload s) := by
  unfold takeMarker
  split
  · rename_i number period hv
    split
    · rename_i hl
      unfold markerInSearch
      dsimp only
      split
      · exact hacquire number period hv hl
      · exact hshort number period hv hl (by rename_i hrun; exact Nat.lt_of_not_le hrun)
    · rename_i hl
      unfold markerInLock
      dsimp only
      split
      · exact hend number period hv hl
      · exact hcount number period hv hl (by rename_i hs; exact Nat.lt_of_not_le hs)
  · exact hinvalid ‹_›

/-! ### Lock acquired, lost and expired (R27, R28, R31) -/

theorem acquireLock_tracker (s : State) :
    (acquireLock s).tracker = { s.tracker with lockState := .locked, slipRun := 0 } := by
  simp [acquireLock]

/-- The tracker after a loss of lock (R31). -/
def Tracker.lost (t : Tracker) : Tracker :=
  { t with lockState := .search, runCount := 0, slipRun := 0, expected := none, supervision := none,
           lockLosses := countUp t.lockLosses }

theorem loseLock_tracker (s : State) : (loseLock s).tracker = s.tracker.lost := by
  simp [loseLock, Tracker.lost]

/-- Lock ends as a loss of lock, for the tracker and the LOCK pin, whatever reply waits (R31). -/
theorem endLock_tracker (s : State) : (endLock s).tracker = s.tracker.lost := by
  rcases endLock_cases s with ⟨-, h⟩ | ⟨-, ⟨-, h⟩ | ⟨-, h⟩⟩ <;> rw [h] <;> simp [loseLock_tracker]

/-- What a loss of lock and each onset sample keep, the end of lock keeps (R31, R76). -/
theorem endLock_keeps {P : State → Prop} {s : State} (hl : P (loseLock s))
    (hf : P (loseLock { s with freeCount := s.freeCount + 1 })) (ho : ∀ k u, P u → P (takeOnset k u)) :
    P (endLock s) := by
  rcases endLock_cases s with ⟨-, h⟩ | ⟨-, ⟨-, h⟩ | ⟨-, h⟩⟩ <;> rw [h]
  · exact hl
  · exact hf
  · exact List.foldlRecOn _ _ hf fun u hu k _ => ho k u hu

theorem expireSupervision_search {s : State} (h : s.tracker.lockState = .search) :
    expireSupervision s =
      { s with tracker := { s.tracker with runCount := 0, expected := none, supervision := none } } := by
  unfold expireSupervision
  rw [h]

theorem expireSupervision_locked {s : State} (h : s.tracker.lockState = .locked) :
    expireSupervision s = endLock { s with tracker := { s.tracker with supervision := none } } := by
  unfold expireSupervision
  rw [h]

end Sys2Proof.Machine
end

section
/-!
PROOF. The line mode's records, pins and crusher states (O3): what brings a crusher into the states Table 7-1 allows in
RUN and STOPPING alone, what a change of line mode needs, and that every block keeps the two in agreement.
-/

namespace Sys2Proof.Machine

/-! ### Crushers that do not rise (Table 3-3) -/

/-- The event of one context did not bring it into RUN, MOVE, RECOVER or RELIEF: it is there only if it was. -/
def Crusher.NoRise (x y : Crusher) : Prop := y.state.isEnabled = true → x.state.isEnabled = true

theorem Crusher.NoRise.of_state {x y : Crusher} (h : y.state = x.state) : x.NoRise y := fun hy => h ▸ hy

theorem Crusher.NoRise.of_off {x y : Crusher} (h : y.state.isEnabled = false) : x.NoRise y := fun hy => by
  rw [h] at hy; cases hy

theorem Crusher.NoRise.of_on {x y : Crusher} (h : x.state.isEnabled = true) : x.NoRise y := fun _ => h

theorem Crusher.NoRise.trans {x y z : Crusher} (h : x.NoRise y) (g : y.NoRise z) : x.NoRise z := fun hz => h (g hz)

@[simp] theorem isEnabled_afterMove (st : CrusherState) : st.afterMove.isEnabled = st.isEnabled := by cases st <;> rfl

theorem Crusher.NoRise.of_afterMove {x y : Crusher} (h : y.state = x.state.afterMove) : x.NoRise y := fun hy => by
  rw [h, isEnabled_afterMove] at hy
  exact hy

theorem issue_noRise (v : View) (m : Move) (gap : Nat) (x : Crusher) : x.NoRise (issue v m gap x) := by
  unfold issue
  dsimp only
  split
  · exact .of_afterMove rfl
  · split
    · exact .of_afterMove rfl
    · exact .of_state rfl

theorem issueCheck_noRise (v : View) (x : Crusher) : x.NoRise (issueCheck v x) := by
  unfold issueCheck
  split
  · split
    · exact issue_noRise _ _ _ _
    · exact .of_state rfl
  · exact .of_state rfl

/-- A gap arrives in RUN or RECOVER, or checks a move that waits (R50, R52, R71). -/
theorem gapArrival_noRise (v : View) (x : Crusher) : x.NoRise (gapArrival v x) := by
  unfold gapArrival
  split
  · exact issueCheck_noRise _ _
  · split
    · exact .of_state rfl
    · split
      · split
        case h_1 hs => exact .of_on (by rw [hs]; rfl)
        case h_2 hs => exact .of_on (by rw [hs]; rfl)
        all_goals exact .of_state rfl
      · exact .of_state rfl

theorem statusOnMove_noRise (st : ActStatus) (x : Crusher) : x.NoRise (statusOnMove st x).crusher := by
  have hcomplete (m : Move) (r : ActResult) : x.NoRise (complete m r x).crusher := by
    cases r with
    | done | strokeEnd => exact .of_afterMove rfl
    | fault => exact .of_off rfl
    | idle | busy => exact .of_state rfl
  unfold statusOnMove
  split
  · exact .of_state rfl
  · split
    · exact .of_state rfl
    · split
      · exact .of_state rfl
      · exact .of_state rfl
      all_goals exact hcomplete _ _

theorem cycleCrusher_noRise (g : Bool) (x : Crusher) : x.NoRise (cycleCrusher g x).crusher := by
  unfold cycleCrusher
  dsimp only
  split
  · split
    · unfold expireMove
      split
      · exact .of_afterMove rfl
      all_goals exact .of_off rfl
    · exact .of_state rfl
  · split
    · rename_i h
      simp only [Bool.and_eq_true, beq_iff_eq] at h
      exact .of_on (by rw [h.1.1]; rfl)
    · exact .of_state rfl

theorem standDown_off (g : Bool) (x : Crusher) : (standDown g x).state.isEnabled = false := by
  unfold standDown
  split
  · rfl
  · exact Bool.not_eq_true _ ▸ ‹_›

theorem standDown_noRise (g : Bool) (x : Crusher) : x.NoRise (standDown g x) := .of_off (standDown_off g x)

/-- A sample brings RELIEF to a crusher in RUN, MOVE or RECOVER, and RECOVER to one in RELIEF (R66, R69). -/
theorem takeSample_noRise (now : Long) (smp : Sample) (x : Crusher) : x.NoRise (takeSample now smp x).crusher := by
  have hopen (r : Relief) (hs : x.state = .standby) : x.NoRise (sampleOpen smp r x) := by
    cases smp with
    | onset | breaking | neither => exact .of_state rfl
    | clearing =>
      unfold sampleOpen reliefCleared
      dsimp only
      split
      · split
        · exact .of_off rfl
        · rw [if_neg (by rw [hs]; decide)]
          exact .of_state rfl
      · exact .of_state rfl
  unfold takeSample
  split
  case h_4 hs => exact .of_on (by rw [hs]; rfl)
  case h_5 hs =>
    split
    · split
      · exact hopen _ hs
      · split <;> exact .of_state rfl
    · split <;> exact .of_state rfl
  case h_1 hs | h_2 hs | h_3 hs => exact .of_on (by rw [hs]; rfl)
  all_goals exact .of_state rfl

theorem retarget_noRise (css : Nat) (x : Crusher) : x.NoRise (retarget css x) := .of_state (retarget_state css x)

theorem writeParams_noRise (p : CrusherParams) (x : Crusher) : x.NoRise (writeParams p x) :=
  .of_state (retarget_state _ _)

theorem dryRunOn_noRise (x : Crusher) : x.NoRise (dryRunOn x) := by
  unfold dryRunOn
  split
  · exact .of_afterMove rfl
  · exact .of_state rfl

theorem restartCrusher_noRise (g : Bool) (x : Crusher) : x.NoRise (restartCrusher g x) := by
  refine .of_off ?_
  unfold restartCrusher
  dsimp only
  split <;> rfl

/-- A station commit takes a crusher to STANDBY or ABSENT, or out of its move (R41, R42, R75). -/
theorem commitCrusher_noRise (n : CommitNews) (x : Crusher) : x.NoRise (commitCrusher n x) := by
  have hgovernance : x.NoRise (commitGovernance n x) := by
    unfold commitGovernance
    split
    · exact .of_afterMove rfl
    · split
      · exact .of_afterMove rfl
      · exact .of_state rfl
  have hrelief (y : Crusher) : y.NoRise (commitRelief n y) := by
    unfold commitRelief
    split
    · exact .of_state rfl
    · split
      case h_1 => exact .of_off rfl
      all_goals exact .of_state rfl
  unfold commitCrusher
  split
  · split
    · exact .of_off rfl
    · exact hgovernance.trans (hrelief _)
  · split
    · exact .of_state rfl
    · exact .of_off rfl

/-! ### What the invariant reads (R35, R127, R131, R143) -/

/-- The line of `t` follows from that of `s` without a change of mode, lock, records or pins, and no crusher rose. -/
structure LineFollows (s t : State) : Prop where
  mode : t.line.lineMode = s.line.lineMode
  stop : t.line.stopRec.isSome = s.line.stopRec.isSome
  trip : t.line.tripRec.isSome = s.line.tripRec.isSome
  tripOut : t.pins.tripOut = s.pins.tripOut
  lock : t.pins.lock = s.pins.lock
  lockState : t.tracker.lockState = s.tracker.lockState
  crushers : ∀ k, (s.crusher k).NoRise (t.crusher k)

theorem LineFollows.of_eq {s t : State} (hl : t.line = s.line) (hp : t.pins = s.pins) (ht : t.tracker = s.tracker)
    (hc : t.crushers = s.crushers) : LineFollows s t :=
  ⟨by rw [hl], by rw [hl], by rw [hl], by rw [hp], by rw [hp], by rw [ht],
    fun k => .of_state (by rw [State.crusher_congr hc])⟩

namespace LineInv

variable {s t : State}

theorem follows (h : LineInv s) (hf : LineFollows s t) : LineInv t where
  stop := by rw [hf.stop, hf.mode]; exact h.stop
  trip := by rw [hf.trip, hf.mode]; exact h.trip
  tripOut := by rw [hf.tripOut, hf.mode]; exact h.tripOut
  lock := by rw [hf.lock, hf.lockState]; exact h.lock
  locked := by rw [hf.mode, hf.lockState]; exact h.locked
  crushers k hk := by rw [hf.mode]; exact h.crushers k (hf.crushers k hk)

theorem of_eq (h : LineInv s) (hl : t.line = s.line) (hp : t.pins = s.pins) (ht : t.tracker = s.tracker)
    (hc : t.crushers = s.crushers) : LineInv t :=
  h.follows (.of_eq hl hp ht hc)

theorem raised (h : LineInv s) (c : Cause) : LineInv (raise c s) := h.of_eq (by simp) (by simp) (by simp) (by simp)

theorem of_lockState (h : LineInv s) {x : Tracker} (hx : x.lockState = s.tracker.lockState) :
    LineInv { s with tracker := x } :=
  h.follows ⟨rfl, rfl, rfl, rfl, rfl, hx, fun _ => .of_state rfl⟩

theorem change (h : LineInv s) {k : Fin 4} {ch : Change} (hc : (s.crusher k).NoRise ch.crusher) :
    LineInv (changeCrusher k ch s) :=
  h.follows ⟨by simp, by simp, by simp, by simp, by simp, by simp, fun j => by
    rw [State.crusher_changeCrusher]
    split
    · subst_vars; exact hc
    · exact .of_state rfl⟩

/-- Each of the four crushers in turn changes without rising. -/
theorem changeFour (h : LineInv s) (f : Fin 4 → State → Change)
    (hf : ∀ k (t : State), (t.crusher k).NoRise (f k t).crusher) :
    LineInv (forFour (fun k t => changeCrusher k (f k t) t) s) :=
  forFour_induct LineInv h fun k t ht => ht.change (hf k t)

/-! ### Changes of mode (R131) -/

/-- A change of mode drives TRIP_OUT and, on entry to TRIPPED or STOPPED, stands the crushers down; the records and the
lock have to fit the new mode already. -/
theorem enter {mode : LineMode} (hstop : s.line.stopRec.isSome = (mode == .stopping))
    (htrip : s.line.tripRec.isSome = (mode == .tripped)) (hlock : s.pins.lock = (s.tracker.lockState == .locked))
    (hlocked : mode.needsLock = true → s.tracker.lockState = .locked)
    (hcrushers : ∀ k, (s.crusher k).state.isEnabled = true →
      mode.feeds = true ∨ signalsCrushers s.line.lineMode mode = true) : LineInv (changeMode mode s) := by
  obtain ⟨hl, hp⟩ := changeMode_line mode s
  have htracker : (changeMode mode s).tracker = s.tracker := by simp
  refine ⟨by rw [hl]; exact hstop, by rw [hl]; exact htrip, by rw [hl, hp], ?_, ?_, fun k hk => ?_⟩
  · rw [hp, htracker]; exact hlock
  · rw [hl, htracker]; exact hlocked
  · rw [hl]
    rw [crusher_changeMode] at hk
    split at hk
    · rw [standDown_off] at hk; cases hk
    · exact (hcrushers k hk).resolve_right ‹_›

theorem stopRec_none (h : LineInv s) (hm : s.line.lineMode ≠ .stopping) : s.line.stopRec = none := by
  have := h.stop
  rw [beq_eq_false_iff_ne.2 hm] at this
  exact Option.isNone_iff_eq_none.1 (Option.isSome_eq_false_iff.1 this)

theorem tripRec_isSome (h : LineInv s) (hm : s.line.lineMode ≠ .tripped) : s.line.tripRec.isSome = false := by
  rw [h.trip]; exact beq_eq_false_iff_ne.2 hm

/-- Entry to TRIPPED: the stop record is discarded, the trip record made, and every crusher stood down (R134). -/
theorem enterTripped (h : LineInv s) (hm : s.line.lineMode ≠ .tripped) (a : TripInputs) :
    LineInv (enterTripped a s) := by
  unfold Machine.enterTripped
  rw [discardStop_eq]
  exact enter rfl rfl h.lock (fun hn => by cases hn) fun k _ => .inr (by simp [signalsCrushers, hm])

theorem addTripInputs (h : LineInv s) (a : TripInputs) : LineInv (addTripInputs a s) :=
  h.follows ⟨rfl, rfl, by simp [Machine.addTripInputs], rfl, rfl, rfl, fun _ => .of_state rfl⟩

theorem takeTripInputs (h : LineInv s) (a : TripInputs) : LineInv (takeTripInputs a s) := by
  unfold Machine.takeTripInputs
  split
  · split
    · exact h.addTripInputs a
    · exact h.enterTripped ‹_› a
  · exact h

theorem evaluateTrip (h : LineInv s) : LineInv (evaluateTrip s) := h.takeTripInputs _

/-- The line enters a mode other than STOPPING and TRIPPED, any stop ended; the crushers were not enabled in the old
mode, or may stay so in the new one, or are stood down on entry. -/
theorem leaveStop (h : LineInv s) {mode : LineMode} (how : StopEnd) (hs : mode ≠ .stopping) (ht : mode ≠ .tripped)
    (hm : s.line.lineMode ≠ .tripped) (hlocked : mode.needsLock = true → s.line.lineMode.needsLock = true)
    (hk : s.line.lineMode.feeds = true → mode.feeds = true ∨ signalsCrushers s.line.lineMode mode = true) :
    LineInv (changeMode mode (discardStop how s)) := by
  rw [discardStop_eq]
  exact enter (by simpa using hs) (by rw [h.tripRec_isSome hm, beq_eq_false_iff_ne.2 ht]) h.lock
    (fun hn => h.locked (hlocked hn)) fun k hk' => hk (h.crushers k hk')

theorem endStop (h : LineInv s) (how : StopEnd) (hm : s.line.lineMode = .stopping) : LineInv (endStop how s) := by
  unfold Machine.endStop
  exact enter rfl (h.tripRec_isSome (by rw [hm]; decide)) h.lock (fun _ => h.locked (by rw [hm]; rfl)) fun k _ =>
    .inr (by simp [signalsCrushers, hm])

/-- The counted cycle of the controller (R140). -/
theorem cycleLine (h : LineInv s) : LineInv (cycleLine s) := by
  unfold Machine.cycleLine
  split
  · rename_i hm
    split
    · exact h.endStop _ hm
    · split
      · rename_i r hr
        split
        · exact (h.endStop .forced hm).of_eq rfl rfl rfl rfl
        · exact h.follows ⟨rfl, by rw [hr]; rfl, rfl, rfl, rfl, rfl, fun _ => .of_state rfl⟩
      · exact h
  · exact h

theorem lineAcquired (h : LineInv s) (hl : s.tracker.lockState = .locked) : LineInv (lineAcquired s) := by
  unfold Machine.lineAcquired
  refine evaluateTrip ?_
  split
  · rename_i hm
    refine enter ?_ (h.tripRec_isSome (by rw [hm]; decide)) h.lock (fun _ => hl) fun k hk => ?_
    · rw [h.stopRec_none (by rw [hm]; decide)]; rfl
    · have := h.crushers k hk
      rw [hm] at this
      cases this
  · exact h

/-! ### Arrivals (R18) -/

theorem actuatorArrival (h : LineInv s) (k : Fin 4) : LineInv (actuatorArrival k s) := by
  unfold Machine.actuatorArrival
  split
  · exact (h.change (takeSample_noRise _ _ _)).change (statusOnMove_noRise _ _)
  · exact h

theorem travelArrival (h : LineInv s) (d : Nat) : LineInv (travelArrival d s) := by
  have hlots (x : LotTracker) (n : Nat) : LineInv (raiseTimes .lotTableFull n (s.setLots x)) :=
    h.of_eq (by simp) (by simp) (by simp) (by simp)
  unfold Machine.travelArrival
  split
  · exact h
  · split
    · exact hlots _ 0
    · unfold lotEvents retirementTest
      dsimp only
      split
      · split
        · exact (hlots _ _).endStop _ (by rename_i hm; exact hm.1)
        · exact hlots _ _
      · exact hlots _ _

theorem deliverArrival (h : LineInv s) (a : Arrival) : LineInv (deliverArrival a s) := by
  unfold Machine.deliverArrival
  split
  case h_1 => exact h.evaluateTrip
  case h_2 k _ =>
    unfold pressureArrival
    split
    · exact h.change (takeSample_noRise _ _ _)
    · exact h
  case h_3 k _ => exact h.actuatorArrival k
  case h_4 k _ => exact h.change (gapArrival_noRise _ _)
  case h_5 k _ =>
    have hf : LineInv (computeFeeder k s) := h.of_eq (by simp) (by simp) (by simp) (by simp)
    exact hf.change (issueCheck_noRise _ _)
  case h_8 => exact h.travelArrival _
  all_goals exact h.of_eq (by simp) (by simp) (by simp) (by simp)

/-! ### The store and commits (R13, R19) -/

theorem noticeStale (h : LineInv s) (i : Fin 32) : LineInv (noticeStale i s) := by
  rcases noticeStale_cases i s with ⟨k, -, he⟩ | ⟨-, he⟩ | ⟨-, -, he⟩ <;> rw [he]
  · exact h.of_eq (by simp) (by simp) (by simp) (by simp)
  · exact h.evaluateTrip
  · exact h

theorem noticeStales (h : LineInv s) (l : List (Fin 32)) : LineInv (inFreeOrder l Machine.noticeStale s) :=
  inFreeOrder_induct LineInv (h.of_eq rfl rfl rfl rfl) fun i _ _ ht => ht.noticeStale i

theorem cycleStore (h : LineInv s) : LineInv (cycleStore s) := by
  unfold Machine.cycleStore
  exact noticeStales (h.of_eq (by simp) (by simp) (by simp) (by simp)) _

theorem applyStation (h : LineInv s) : LineInv (applyStation s) := by
  unfold Machine.applyStation
  dsimp only
  refine raised (inFreeOrder_induct LineInv ?_ fun x _ t ht => ?_) .tableCommitted
  · exact h.of_eq (by simp) (by simp) (by simp) (by simp)
  · cases x with
    | record i => exact ht.noticeStale i
    | crusher k => exact ht.change (commitCrusher_noRise _ _)

theorem applyCommits (h : LineInv s) : LineInv (applyCommits s) := by
  refine inFreeOrder_induct LineInv (h.of_eq rfl rfl rfl rfl) fun b _ t ht => ?_
  unfold applyPending
  split
  · split
    · exact ht.applyStation
    · exact ht
  · split
    · exact ht.of_eq (by simp) (by simp) (by simp) (by simp)
    · exact ht

theorem cycleCrushers (h : LineInv s) : LineInv (cycleCrushers s) := by
  unfold Machine.cycleCrushers
  exact forFour_induct LineInv h fun _ _ ht => ht.change (cycleCrusher_noRise _ _)

theorem cycleWork (h : LineInv s) (u : CycleUser) : LineInv (cycleWork u s) := by
  cases u with
  | store => exact h.cycleStore
  | crushers => exact h.cycleCrushers
  | confirm =>
    exact h.of_eq (by simp [Machine.cycleWork]) (by simp [Machine.cycleWork]) (by simp [Machine.cycleWork])
      (by simp [Machine.cycleWork])
  | line => exact h.cycleLine
  | handler => exact h.applyCommits

/-! ### Lock (R28, R31, R32) -/

theorem acquireWork (h : LineInv s) (hl : s.tracker.lockState = .locked) (u : AcquireUser) :
    LineInv (acquireWork u s) := by
  cases u with
  | store => exact h.noticeStales _
  | line => exact h.lineAcquired hl
  | handler => exact h.applyCommits

theorem acquireLock (h : LineInv s) : LineInv (acquireLock s) := by
  have hall : LineInv (Machine.acquireLock s) ∧ (Machine.acquireLock s).tracker.lockState = .locked := by
    refine inFreeOrder_induct (fun t => LineInv t ∧ t.tracker.lockState = .locked) ⟨?_, rfl⟩
      fun u _ t ht => ⟨ht.1.acquireWork ht.2 u, by simpa using ht.2⟩
    exact ⟨h.stop, h.trip, h.tripOut, rfl, fun _ => rfl, h.crushers⟩
  exact hall.1

/-- After a loss of lock the line is in IDLE or TRIPPED, with no crusher enabled (R32, R137). -/
theorem loseLock (h : LineInv s) : LineInv (loseLock s) := by
  unfold Machine.loseLock
  dsimp only
  generalize ht : raise .lockLost _ = t
  have hline : t.line = s.line := by rw [← ht]; rfl
  have hout : t.pins.tripOut = s.pins.tripOut := by rw [← ht]; rfl
  have hlock : t.pins.lock = (t.tracker.lockState == .locked) := by rw [← ht]; rfl
  have hend {u : State} (hs : u.line.stopRec.isSome = (u.line.lineMode == .stopping))
      (hr : u.line.tripRec.isSome = (u.line.lineMode == .tripped)) (ho : u.pins.tripOut = (u.line.lineMode == .tripped))
      (hp : u.pins.lock = (u.tracker.lockState == .locked)) (hn : u.line.lineMode.needsLock = false) :
      LineInv (zeroFeeders (signalCrushers u)) :=
    ⟨by simpa using hs, by simpa using hr, by simpa using ho, by simpa using hp, by simp [hn], fun k hk => by
      rw [crusher_zeroFeeders, crusher_signalCrushers, standDown_off] at hk; cases hk⟩
  unfold lineLockLost
  split
  · rename_i hm
    refine hend (by rw [hline]; exact h.stop) (by rw [hline]; exact h.trip) (by rw [hout, hline]; exact h.tripOut)
      hlock ?_
    rcases hm with hm | hm <;> rw [hm] <;> rfl
  · rename_i hm
    obtain ⟨hl, hp⟩ := changeMode_line .idle (discardStop .lockLost t)
    have htrip : s.line.tripRec.isSome = false := h.tripRec_isSome fun he => hm (.inl (hline ▸ he))
    rw [discardStop_eq] at hl hp
    refine hend ?_ ?_ ?_ ?_ ?_
    · rw [discardStop_eq, hl]; rfl
    · rw [discardStop_eq, hl, hline, htrip]; rfl
    · rw [discardStop_eq, hl, hp]
    · rw [discardStop_eq, hp]; simpa using hlock
    · rw [discardStop_eq, hl]; rfl

theorem endLock (h : LineInv s) : LineInv (endLock s) :=
  endLock_keeps h.loseLock (loseLock (h.of_eq rfl rfl rfl rfl)) fun _ _ hu => hu.change (takeSample_noRise _ _ _)

theorem marker (h : LineInv s) (payload : List Byte) : LineInv (takeMarker payload s) := by
  have hcycle (number : Byte) (period : Nat) :
      LineInv (countedCycle { s with tracker := s.tracker.countMarker number period }) := by
    refine inFreeOrder_induct LineInv ?_ fun u _ t ht => ht.cycleWork u
    refine of_eq (h.of_lockState ?_) rfl rfl rfl rfl
    unfold Tracker.countMarker
    dsimp only
    split <;> rfl
  refine takeMarker_keeps (fun _ => ?_) (fun _ _ _ _ _ => ?_) (fun _ _ _ _ => ?_) (fun _ _ _ _ _ => hcycle _ _)
    fun _ _ _ _ => (hcycle _ _).endLock
  · exact (h.of_lockState (x := { s.tracker with invalidMarkers := countUp s.tracker.invalidMarkers }) rfl).raised _
  · exact h.of_lockState rfl
  · exact (h.of_lockState (x := s.tracker.runMarker _ _) rfl).acquireLock

theorem expiry (h : LineInv s) : LineInv (expireSupervision s) := by
  cases hl : s.tracker.lockState with
  | search => rw [expireSupervision_search hl]; exact h.of_lockState rfl
  | locked => rw [expireSupervision_locked hl]; exact (h.of_lockState rfl).endLock

/-! ### Requests (R129, R130, R136) -/

theorem lineStart (h : LineInv s) (payload : List Byte) : LineInv (lineStartAct payload s).state := by
  have hrun (hm : s.line.lineMode = .ready ∨ s.line.lineMode = .stopped) :
      LineInv (if (tripInputs s).any then withMode .wrongMode (Machine.enterTripped (tripInputs s) s)
        else withMode .done (changeMode .run s)).state := by
    have htripped : s.line.lineMode ≠ .tripped := by rcases hm with hm | hm <;> rw [hm] <;> decide
    have hstopping : s.line.lineMode ≠ .stopping := by rcases hm with hm | hm <;> rw [hm] <;> decide
    split
    · exact h.enterTripped htripped _
    · refine enter ?_ (h.tripRec_isSome htripped) h.lock (fun _ => h.locked ?_) fun _ _ => .inl rfl
      · rw [h.stopRec_none hstopping]; rfl
      · rcases hm with hm | hm <;> rw [hm] <;> rfl
  unfold lineStartAct
  split
  case h_1 hm => exact hrun (.inl hm)
  case h_2 hm => exact hrun (.inr hm)
  case h_3 hm =>
    exact h.leaveStop _ (by decide) (by decide) (by rw [hm]; decide) (fun _ => by rw [hm]; rfl) fun _ => .inl rfl
  all_goals exact h

theorem lineStop (h : LineInv s) (payload : List Byte) : LineInv (lineStopAct payload s).state := by
  unfold lineStopAct
  split
  case h_1 hm =>
    exact enter rfl (h.tripRec_isSome (by rw [hm]; decide)) h.lock (fun _ => h.locked (by rw [hm]; rfl)) fun _ _ =>
      .inl rfl
  all_goals exact h

/-- TRIP_RELEASE leaves TRIPPED for READY while LOCKED, for IDLE in SEARCH (R136). -/
theorem tripRelease (h : LineInv s) (payload : List Byte) : LineInv (tripReleaseAct payload s).state := by
  unfold tripReleaseAct
  split
  · rename_i hm
    dsimp only
    split
    · exact h.addTripInputs _
    · unfold releaseTrip
      have hstop := h.stopRec_none (by rw [hm]; decide)
      have hoff (k : Fin 4) (hk : (s.crusher k).state.isEnabled = true) : False := by
        have := h.crushers k hk
        rw [hm] at this
        cases this
      split
      · exact enter (by rw [hstop]; rfl) rfl h.lock (fun _ => ‹_›) fun k hk => (hoff k hk).elim
      · exact enter (by rw [hstop]; rfl) rfl h.lock (fun hn => by cases hn) fun k hk => (hoff k hk).elim
  · exact h

/-- CRUSHER_ENABLE is refused outside RUN, where crushers may be enabled (R43). -/
theorem crusherEnable (h : LineInv s) (payload : List Byte) : LineInv (crusherEnableAct payload s).state := by
  unfold crusherEnableAct
  split
  · exact h
  · split
    · exact h
    · rename_i hm
      refine indexed_keeps h (fun k => ?_) payload
      split
      · refine ⟨?_, ?_, ?_, ?_, ?_, fun _ _ => ?_⟩ <;> simp only [answered, changeCrusher_frame]
        · exact h.stop
        · exact h.trip
        · exact h.tripOut
        · exact h.lock
        · exact h.locked
        · rw [not_not.1 hm]; rfl
      all_goals exact h

theorem writeCrusher (h : LineInv s) (payload : List Byte) : LineInv (writeCrusherAct payload s).state := by
  unfold writeCrusherAct
  split
  · split
    · split
      · exact h
      · exact h.change (writeParams_noRise _ _)
    · exact h
  · exact h

theorem setTarget (h : LineInv s) (payload : List Byte) : LineInv (setTargetAct payload s).state := by
  unfold setTargetAct
  split
  · split
    · dsimp only
      split
      · exact h
      · exact h.change (retarget_noRise _ _)
    · exact h
  · exact h

theorem crusherDisable (h : LineInv s) (payload : List Byte) : LineInv (crusherDisableAct payload s).state := by
  refine indexed_keeps h (fun k => ?_) payload
  split
  · exact h
  · exact h.change (standDown_noRise _ _)

theorem faultClear (h : LineInv s) (payload : List Byte) : LineInv (faultClearAct payload s).state := by
  refine indexed_keeps h (fun k => ?_) payload
  split
  · exact h.change (.of_off rfl)
  · exact h

theorem dryRun (h : LineInv s) (payload : List Byte) : LineInv (dryRunAct payload s).state := by
  have ht (on : Bool) {t : State} (h : LineInv t) : LineInv (takeDryRun on t).state := by
    unfold takeDryRun
    dsimp only
    split
    · exact h
    · have h1 : LineInv { t with handler := { t.handler with dryRun := on } } := h.of_eq rfl rfl rfl rfl
      refine h1.changeFour (fun k u => quiet (if on then dryRunOn (u.crusher k) else dryRunOff (u.crusher k)))
        fun k u => ?_
      cases on
      · exact .of_state rfl
      · exact dryRunOn_noRise _
  unfold dryRunAct
  split
  · split
    · exact ht _ h
    · exact ht _ (h.of_eq rfl rfl rfl rfl)
  · exact h

theorem writeLine (h : LineInv s) (payload : List Byte) : LineInv (writeLineAct payload s).state := by
  unfold writeLineAct
  split
  · split
    · exact h
    · exact evaluateTrip (h.of_eq rfl rfl rfl rfl)
  · exact h

theorem deviceClear (h : LineInv s) (payload : List Byte) : LineInv (deviceClearAct payload s).state := by
  have hc : LineInv (clearCounters s) := h.follows ⟨rfl, rfl, rfl, rfl, rfl, rfl, fun _ => .of_state rfl⟩
  unfold deviceClearAct answered
  exact hc.of_eq (by simp) (by simp) (by simp) (by simp)

/-- The blocks restarted leave no crusher enabled and lock in SEARCH; the controller then leaves for IDLE or stays in
TRIPPED, and evaluates PIN (R36, R63, R144). -/
theorem warmRestart (h : LineInv s) : LineInv (warmRestart s) := by
  rw [warmRestart_eq]
  refine of_eq (s := lineRestart (restartedBlocks s)) ?_ (by simp) (by simp) (by simp) (by simp)
  obtain ⟨-, -, -, -, -, -, hline, -, -, -, hpins, htracker⟩ := restartedBlocks_frame s
  have hoff (k : Fin 4) : ((restartedBlocks s).crusher k).state.isEnabled = false := by
    rw [crusher_restartedBlocks]
    unfold restartCrusher
    dsimp only
    split <;> rfl
  generalize restartedBlocks s = u at hline hpins htracker hoff
  have hlock : u.pins.lock = (u.tracker.lockState == .locked) := by rw [hpins, htracker]; rfl
  unfold lineRestart
  dsimp only
  refine takeTripInputs ?_ _
  split
  · rename_i hm
    refine ⟨by rw [hline]; exact h.stop, by rw [hline]; exact h.trip, by rw [hpins, hline]; exact h.tripOut, hlock,
      fun hn => ?_, fun k hk => ?_⟩
    · rw [hm] at hn; cases hn
    · rw [hoff] at hk; cases hk
  · rename_i hm
    rw [discardStop_eq]
    refine enter rfl ?_ hlock (fun hn => by cases hn) fun k hk => ?_
    · rw [hline] at hm
      dsimp only
      rw [hline]
      exact h.tripRec_isSome hm
    · have hk' : (u.crusher k).state.isEnabled = true := hk
      rw [hoff] at hk'
      cases hk'

theorem rejectLot (h : LineInv s) (payload : List Byte) : LineInv (rejectLotAct payload s).state := by
  unfold rejectLotAct
  split
  · dsimp only
    split
    · exact h.of_eq rfl rfl rfl rfl
    · exact h
  · exact h

theorem loadOpen (h : LineInv s) (payload : List Byte) : LineInv (loadOpenAct payload s).state := by
  have hopen (b : Bank) (start : Nat) : LineInv (openSession b start s) :=
    h.of_eq (by simp [openSession, setSession]) (by simp [openSession, setSession])
      (by simp [openSession, setSession]) (by simp [openSession, setSession])
  unfold loadOpenAct
  split
  · split
    · split
      · exact h
      · split
        · exact h
        · exact hopen _ _
    · exact h
  · exact h

theorem commit (h : LineInv s) (payload : List Byte) : LineInv (commitAct payload s).state := by
  have hset (b : Bank) : LineInv (setPending b s) := by
    cases b <;> exact h.of_eq rfl rfl rfl rfl
  unfold commitAct
  split
  · split
    · split
      · exact h
      · split
        · exact h
        · split
          · exact h
          · exact hset _
    · exact h
  · exact h

/-- No request puts the line's records, pins and crushers out of agreement. -/
theorem request {act : List Byte → State → Served} (ha : act ∈ requestActs) (payload : List Byte) (h : LineInv s) :
    LineInv (act payload s).state := by
  have hread : (readRecordAct payload s).state = s := by
    unfold readRecordAct
    repeat' split
    all_goals rfl
  simp only [requestActs, List.mem_cons, List.not_mem_nil, or_false] at ha
  rcases ha with rfl | rfl | rfl | rfl | rfl | rfl | rfl | rfl | rfl | rfl | rfl | rfl | rfl | rfl | rfl | rfl | rfl |
    rfl | rfl | rfl | rfl | rfl
  · exact h.of_eq rfl rfl rfl rfl
  · exact h.of_eq rfl rfl rfl rfl
  · rw [hread]; exact h
  · exact h.writeCrusher payload
  · unfold writeFeederAct Machine.writeFeeder answered badParameter
    dsimp only
    repeat' split
    all_goals exact h.of_eq (by simp) (by simp) (by simp) (by simp)
  · exact h.writeLine payload
  · exact h.setTarget payload
  · exact h.crusherEnable payload
  · exact h.crusherDisable payload
  · exact h.faultClear payload
  · exact indexed_keeps h (fun k => h.change (.of_state rfl)) payload
  · exact h.lineStart payload
  · exact h.lineStop payload
  · exact h.tripRelease payload
  · exact h.rejectLot payload
  · exact h.loadOpen payload
  · exact h.commit payload
  · exact h.dryRun payload
  · exact h.deviceClear payload
  · simp only [warmRestartAct, answered]
    exact h.warmRestart
  · exact h
  · exact h

end LineInv

theorem lineInv_keptByBlocks : KeptByBlocks LineInv where
  ports _ _ _ _ h := h.of_eq rfl rfl rfl rfl
  relay _ _ h := h.of_eq rfl rfl rfl rfl
  rewriter _ _ h := h.of_eq rfl rfl rfl rfl
  waiting _ _ h := h.of_eq rfl rfl rfl rfl
  raise _ _ _ h := h.of_eq rfl rfl rfl rfl
  rollMisses _ _ h := h.of_eq rfl rfl rfl rfl
  timer _ _ h := h.of_lockState rfl
  reset s addr rate low _ := LineInv.takeTripInputs (s := powerOn addr rate low s)
    ⟨rfl, rfl, rfl, rfl, fun h => (by cases h), fun k hk => by
      have hc : (powerOn addr rate low s).crusher k = Crusher.reset := crusher_reset k
      rw [hc] at hk
      cases hk⟩ _
  pin _ _ h := LineInv.evaluateTrip (h.follows ⟨rfl, rfl, rfl, rfl, rfl, rfl, fun _ => .of_state rfl⟩)
  marker _ payload h := h.marker payload
  expiry _ h := h.expiry
  reply _ _ h := observe_keeps h (h.of_eq (by simp) (by simp) (by simp) (by simp)) fun a _ hu => hu.deliverArrival a
  session _ _ h := h.of_eq (by simp) (by simp) (by simp) (by simp)
  stream _ _ _ h := h.of_eq (by simp) (by simp) (by simp) (by simp)
  request _ ha payload _ h := h.request ha payload

/-- Settles O3: every block keeps the records, pins and crusher states in agreement with the line mode and the lock. -/
theorem lineInvariantKept : Obligations.LineInvariantKept := fun _ _ h ht => lineInv_keptByBlocks.step h ht

end Sys2Proof.Machine
end

section
/-!
PROOF. The tracker's ranges and the line parameters (O8). Markers, expiries, WRITE_LINE and the two resets change what
the invariants read; every other event leaves it, which `State.time` says once. The timer bounds the supervision that
the tick counts down, so this ladder does not go through `KeptByBlocks`, whose timer is free.
-/

namespace Sys2Proof.Machine

/-! ### What the invariants read -/

/-- All that TrackerInv and ParamsInv read of a state. -/
def State.time (s : State) := (s.straps, s.tracker, s.handler.params)

/-- The tracker's ranges and valid line parameters (R25, R26, R29, R30, R174, R175). -/
def TimeInv (s : State) : Prop := TrackerInv s ∧ ParamsInv s

theorem TrackerInv.of_tracker {s t : State} (h : TrackerInv s) (ht : t.tracker = s.tracker) : TrackerInv t where
  run := by rw [ht]; exact h.run
  searching := by rw [ht]; exact h.searching
  slips := by rw [ht]; exact h.slips
  period := by rw [ht]; exact h.period
  supervision := by rw [ht]; exact h.supervision
  locked := by rw [ht]; exact h.locked

theorem ParamsInv.of_eq {s t : State} (h : ParamsInv s) (hs : t.straps = s.straps)
    (hp : t.handler.params = s.handler.params) : ParamsInv t := by
  unfold ParamsInv State.params State.ownAddress
  rw [hs, hp]
  exact h

theorem TimeInv.of_time {s t : State} (h : TimeInv s) (ht : t.time = s.time) : TimeInv t := by
  simp only [State.time, Prod.mk.injEq] at ht
  obtain ⟨hstraps, htracker, hparams⟩ := ht
  exact ⟨h.1.of_tracker htracker, h.2.of_eq hstraps hparams⟩

/-! ### Line parameters kept by line time -/

@[simp] theorem applyPending_params (b : Bank) (s : State) :
    (applyPending b s).handler.params = s.handler.params := by
  unfold applyPending
  repeat' split
  · simp [applyStation]
  · rfl
  · simp [applyCurve]
  · rfl

@[simp] theorem applyCommits_params (s : State) : (applyCommits s).handler.params = s.handler.params :=
  inFreeOrder_keeps (fun t => t.handler.params) (by simp) (fun _ _ => rfl) _ _

@[simp] theorem countedCycle_params (s : State) : (countedCycle s).handler.params = s.handler.params := by
  refine inFreeOrder_keeps (fun t => t.handler.params) (fun u t => ?_) (fun _ _ => rfl) _ _
  cases u <;> simp [cycleWork]

@[simp] theorem acquireLock_params (s : State) : (acquireLock s).handler.params = s.handler.params := by
  refine (inFreeOrder_keeps (fun t => t.handler.params) (fun u t => ?_) (fun _ _ => rfl) _ _).trans (by simp)
  cases u <;> simp [acquireWork]

/-! ### The tracker (R25, R26, R29, R30, R31) -/

/-- A tracker that keeps the ranges of Table 2-1, in a state that keeps the line parameters. -/
theorem TimeInv.of_tracker {s t : State} (h : TimeInv s) (ht : TrackerInv t) (hs : t.straps = s.straps)
    (hp : t.handler.params = s.handler.params) : TimeInv t :=
  ⟨ht, h.2.of_eq hs hp⟩

/-- A tracker that searches with no run has no expected number and no supervision to speak of. -/
theorem TrackerInv.of_search {s : State} (hl : s.tracker.lockState = .search) (hr : s.tracker.runCount ≤ 31)
    (hs : s.tracker.slipRun ≤ 3) (hp : ∀ p, s.tracker.period = some p → 2 ≤ p ∧ p ≤ 250)
    (hn : ∀ n, s.tracker.supervision = some n → n ≤ 750) : TrackerInv s :=
  ⟨by omega, fun _ => hr, hs, hp, hn, fun h => by rw [hl] at h; cases h⟩

theorem TimeInv.endLock {s : State} (h : ParamsInv s) (hp : ∀ p, s.tracker.period = some p → 2 ≤ p ∧ p ≤ 250) :
    TimeInv (endLock s) := by
  refine ⟨TrackerInv.of_search ?_ ?_ ?_ ?_ ?_, h.of_eq (by simp) (by simp)⟩ <;> rw [endLock_tracker]
  · rfl
  · exact Nat.zero_le _
  · exact Nat.zero_le _
  · exact hp
  · intro n hn; cases hn

theorem TimeInv.expiry {s : State} (h : TimeInv s) : TimeInv (expireSupervision s) := by
  cases hl : s.tracker.lockState with
  | search =>
    rw [expireSupervision_search hl]
    exact ⟨.of_search hl (Nat.zero_le _) h.1.slips h.1.period (fun _ hn => by cases hn), h.2⟩
  | locked =>
    rw [expireSupervision_locked hl]
    exact TimeInv.endLock h.2 h.1.period

/-- What a valid marker writes lies within the ranges: the period by R24, supervision at three periods (R25). -/
theorem markerRanges {payload : List Byte} {number : Byte} {period : Nat}
    (hv : validMarker payload = some (number, period)) : (2 ≤ period ∧ period ≤ 250) ∧ 3 * period ≤ 750 := by
  obtain ⟨p, -, rfl, hlow, hhigh⟩ := validMarker_eq_some.1 hv
  omega

theorem runAfter_le (t : Tracker) (number : Byte) : t.runAfter number ≤ t.runCount + 1 := by
  unfold Tracker.runAfter
  split <;> omega

/-- The tracker after a marker counted in LOCKED, whatever its slip run (R29, R30). -/
theorem countMarker_fields (t : Tracker) (number : Byte) (period : Nat) :
    (t.countMarker number period).lockState = t.lockState ∧ (t.countMarker number period).runCount = t.runCount ∧
      (t.countMarker number period).period = some period ∧
      (t.countMarker number period).expected = some (number + 1) ∧
      (t.countMarker number period).supervision = some (3 * period) := by
  unfold Tracker.countMarker Tracker.noteMarker
  dsimp only
  split <;> exact ⟨rfl, rfl, rfl, rfl, rfl⟩

theorem TimeInv.marker {s : State} (h : TimeInv s) (payload : List Byte) : TimeInv (takeMarker payload s) := by
  refine takeMarker_keeps (fun _ => ?_) (fun number period hv hl hrun => ?_) (fun number period hv hl => ?_)
    (fun number period hv hl hslips => ?_) fun number period hv hl => ?_
  · exact ⟨⟨h.1.run, h.1.searching, h.1.slips, h.1.period, h.1.supervision, h.1.locked⟩, h.2⟩
  · obtain ⟨hp, hn⟩ := markerRanges hv
    have hthreshold : s.params.lockThreshold ≤ 32 := h.2.threshold.2
    refine ⟨.of_search hl ?_ h.1.slips ?_ ?_, h.2⟩
    · show s.tracker.runAfter number ≤ 31
      omega
    · rintro p ⟨⟩; exact hp
    · rintro n ⟨⟩; exact hn
  · obtain ⟨hp, hn⟩ := markerRanges hv
    refine h.of_tracker ?_ (by simp) (by simp)
    have hrun : s.tracker.runAfter number ≤ 32 := (runAfter_le _ _).trans (by have := h.1.searching hl; omega)
    refine ⟨?_, fun hs => ?_, ?_, ?_, ?_, fun _ => ?_⟩ <;> rw [acquireLock_tracker] at *
    · exact hrun
    · cases hs
    · exact Nat.zero_le _
    · rintro p ⟨⟩; exact hp
    · rintro n ⟨⟩; exact hn
    · exact ⟨rfl, rfl, rfl⟩
  · obtain ⟨hp, hn⟩ := markerRanges hv
    obtain ⟨hlock, hrun, hperiod, hexpected, hsupervision⟩ := countMarker_fields s.tracker number period
    refine h.of_tracker ?_ (by simp) (by simp)
    have ht : (countedCycle { s with tracker := s.tracker.countMarker number period }).tracker =
        s.tracker.countMarker number period := by simp
    refine ⟨?_, fun hs => ?_, ?_, ?_, ?_, fun _ => ?_⟩ <;> rw [ht] at *
    · rw [hrun]; exact h.1.run
    · rw [hlock, hl] at hs; cases hs
    · omega
    · rw [hperiod]; rintro p ⟨⟩; exact hp
    · rw [hsupervision]; rintro n ⟨⟩; exact hn
    · rw [hexpected, hperiod, hsupervision]; exact ⟨rfl, rfl, rfl⟩
  · obtain ⟨hp, -⟩ := markerRanges hv
    refine TimeInv.endLock (h.2.of_eq (by simp) (by simp)) ?_
    obtain ⟨-, -, hperiod, -, -⟩ := countMarker_fields s.tracker number period
    have ht : (countedCycle { s with tracker := s.tracker.countMarker number period }).tracker =
        s.tracker.countMarker number period := by simp
    rw [ht, hperiod]
    rintro p ⟨⟩; exact hp

/-! ### Requests (R174, R175, R178) -/

/-- An accepted group address lies in 1 to 126 (R175). -/
theorem groupArg_range {n : Nat} {g : Byte} (h : groupArg n = some (some g)) : 1 ≤ g.toNat ∧ g.toNat ≤ 126 := by
  unfold groupArg at h
  split at h
  · rename_i hn
    simp only [inRange, Bool.and_eq_true, decide_eq_true_eq] at hn
    simp only [Option.some.injEq] at h
    rw [← h, BitVec.toNat_ofNat, Nat.mod_eq_of_lt (by omega)]
    exact hn
  · split at h <;> simp at h

/-- WRITE_LINE is accepted when every range holds, the group is not the own address, the line is long enough for a lot
and its divert, and the bin holds its draw down (R175). -/
theorem lineFailure_eq_none {s : State} {p : LineParams} {ranges : List Bool} (h : lineFailure s p ranges = none) :
    (∀ ok ∈ ranges, ok = true) ∧ ¬ (p.groupAddress.isSome ∧ p.groupAddress = s.ownAddress) ∧
      p.lotLength + p.divertLead < p.transportDistance ∧ p.drawDown ≤ p.capacity := by
  unfold lineFailure at h
  split at h
  · cases h
  · rename_i hranges
    split at h
    · cases h
    · split at h
      · cases h
      · split at h
        · cases h
        · exact ⟨firstFailing_eq_none.1 hranges, ‹_›, Nat.lt_of_not_le ‹_›, Nat.le_of_not_lt ‹_›⟩

/-- Line parameters that pass the checks of R175 are valid. -/
theorem LineParams.valid_of_checks {s : State} {args : List Nat} {p : LineParams} {ranges : List Bool}
    (ha : lineArgs args = some (p, ranges)) (hf : lineFailure s p ranges = none) : p.Valid s.ownAddress := by
  obtain ⟨hpass, hown, hspan, hdrawn⟩ := lineFailure_eq_none hf
  unfold lineArgs at ha
  split at ha
  · simp only [Option.some.injEq, Prod.mk.injEq] at ha
    obtain ⟨rfl, rfl⟩ := ha
    simp only [List.mem_cons, List.not_mem_nil, or_false, forall_eq_or_imp, forall_eq, inRange, Bool.and_eq_true,
      decide_eq_true_eq] at hpass
    obtain ⟨hlot, hdistance, -, hincrement, hcapacity, -, hblend, hconfirm, hthreshold, hlimit, -, -, -, -, hgroup,
      -⟩ := hpass
    dsimp only at hown hspan hdrawn
    refine ⟨hlot, ⟨hdistance.2, hspan⟩, hincrement, ⟨hcapacity.1, hcapacity.2, hdrawn⟩, hblend.2, hconfirm, hthreshold,
      hlimit, fun g hg => ?_⟩
    obtain ⟨x, hx⟩ := Option.isSome_iff_exists.1 hgroup
    dsimp only at hg
    refine ⟨fun ho => hown (by rw [hg, ho]; exact ⟨rfl, rfl⟩), ?_⟩
    rw [hx] at hg
    exact groupArg_range (hx.trans (congrArg some hg))
  · cases ha

theorem TimeInv.writeLine {s : State} (h : TimeInv s) (payload : List Byte) :
    TimeInv (writeLineAct payload s).state := by
  unfold writeLineAct
  split
  · rename_i p ranges ha
    split
    · exact h
    · obtain ⟨args, -, hargs⟩ := Option.bind_eq_some_iff.1 ha
      have hvalid := LineParams.valid_of_checks hargs ‹_›
      have hwritten : TimeInv { s with
          handler := { s.handler with params := p }
          lots := { s.lots with inventory := min p.capacity s.lots.inventory } } :=
        ⟨h.1.of_tracker rfl, hvalid⟩
      exact hwritten.of_time (by simp [State.time, answered, Machine.writeLine])
  · exact h

theorem TimeInv.warmRestart {s : State} (h : TimeInv s) : TimeInv (warmRestart s) := by
  obtain ⟨hstraps, -, -, -, -, -, -, hparams, -, -, -, htracker⟩ := restartedBlocks_frame s
  rw [warmRestart_eq]
  refine ⟨?_, h.2.of_eq (by simp [hstraps]) (by simpa [State.params] using hparams)⟩
  have ht : (clearCauses (lineRestart (restartedBlocks s))).tracker = (restartedBlocks s).tracker := by simp
  refine .of_search (by rw [ht, htracker]) ?_ ?_ ?_ ?_ <;> rw [ht, htracker]
  · exact Nat.zero_le _
  · exact Nat.zero_le _
  · exact h.1.period
  · intro n hn; cases hn

theorem TimeInv.deviceClear {s : State} (h : TimeInv s) (payload : List Byte) :
    TimeInv (deviceClearAct payload s).state := by
  have hc : TimeInv (clearCounters s) :=
    ⟨⟨h.1.run, h.1.searching, h.1.slips, h.1.period, h.1.supervision, h.1.locked⟩, h.2⟩
  unfold deviceClearAct answered
  exact hc.of_time (by simp [State.time])

/-- A request whose argument is one index leaves what line time reads where it leaves it for each index (R172). -/
theorem indexed_time {act : Fin 4 → State → Served} {s : State} (h : ∀ k, (act k s).state.time = s.time)
    (payload : List Byte) : (indexed act payload s).state.time = s.time :=
  indexed_keeps (P := fun t => t.time = s.time) rfl h payload

theorem lineAct_time (s : State) (payload : List Byte) :
    (lineStartAct payload s).state.time = s.time ∧ (lineStopAct payload s).state.time = s.time ∧
      (tripReleaseAct payload s).state.time = s.time := by
  refine ⟨?_, ?_, ?_⟩
  · unfold lineStartAct withMode
    repeat' split
    all_goals simp [State.time]
  · unfold lineStopAct withMode
    split <;> simp [State.time, beginStop]
  · unfold tripReleaseAct
    dsimp only
    repeat' split
    all_goals simp [State.time, releaseTrip]

theorem crusherAct_time (s : State) (payload : List Byte) :
    (writeCrusherAct payload s).state.time = s.time ∧ (setTargetAct payload s).state.time = s.time ∧
      (crusherEnableAct payload s).state.time = s.time ∧ (crusherDisableAct payload s).state.time = s.time ∧
      (faultClearAct payload s).state.time = s.time ∧ (wearResetAct payload s).state.time = s.time := by
  refine ⟨?_, ?_, ?_, indexed_time (fun k => ?_) _, indexed_time (fun k => ?_) _, indexed_time (fun k => ?_) _⟩
  · unfold writeCrusherAct answered badParameter
    repeat' split
    all_goals simp [State.time]
  · unfold setTargetAct answered
    dsimp only
    repeat' split
    all_goals simp [State.time]
  · unfold crusherEnableAct
    split
    · rfl
    · split
      · rfl
      · refine indexed_time (fun k => ?_) _
        split <;> simp [State.time, answered]
  · split <;> simp [State.time, answered]
  · split <;> simp [State.time, answered]
  · simp [State.time, answered]

theorem otherAct_time (s : State) (payload : List Byte) :
    (readRecordAct payload s).state.time = s.time ∧ (writeFeederAct payload s).state.time = s.time ∧
      (rejectLotAct payload s).state.time = s.time ∧ (dryRunAct payload s).state.time = s.time := by
  refine ⟨?_, ?_, ?_, ?_⟩
  · unfold readRecordAct
    repeat' split
    all_goals rfl
  · unfold writeFeederAct writeFeeder answered badParameter
    dsimp only
    repeat' split
    all_goals simp [State.time]
  · unfold rejectLotAct
    dsimp only
    repeat' split
    all_goals rfl
  · have ht (on : Bool) (t : State) : (takeDryRun on t).state.time = t.time := by
      unfold takeDryRun
      dsimp only
      split
      · rfl
      · simp [State.time, changeDryRun_handler]
    unfold dryRunAct
    split
    · split <;> exact ht _ _
    · rfl

theorem bankAct_time (s : State) (payload : List Byte) :
    (loadOpenAct payload s).state.time = s.time ∧ (commitAct payload s).state.time = s.time := by
  refine ⟨?_, ?_⟩
  · unfold loadOpenAct openSession
    repeat' split
    all_goals simp [State.time, setSession, answered]
  · have hset (b : Bank) : (setPending b s).time = s.time := by cases b <;> rfl
    unfold commitAct
    repeat' split
    case h_2 => exact hset _
    all_goals rfl

/-- No request ends the invariants of line time. All but WRITE_LINE, DEVICE_CLEAR and WARM_RESTART leave what they
read. -/
theorem TimeInv.request {act : List Byte → State → Served} (ha : act ∈ requestActs) (payload : List Byte) {s : State}
    (h : TimeInv s) : TimeInv (act payload s).state := by
  obtain ⟨hstart, hstop, hrelease⟩ := lineAct_time s payload
  obtain ⟨hwrite, htarget, henable, hdisable, hclear, hwear⟩ := crusherAct_time s payload
  obtain ⟨hread, hfeeder, hreject, hdry⟩ := otherAct_time s payload
  obtain ⟨hopen, hcommit⟩ := bankAct_time s payload
  simp only [requestActs, List.mem_cons, List.not_mem_nil, or_false] at ha
  rcases ha with rfl | rfl | rfl | rfl | rfl | rfl | rfl | rfl | rfl | rfl | rfl | rfl | rfl | rfl | rfl | rfl | rfl |
    rfl | rfl | rfl | rfl | rfl
  · exact h.of_time rfl
  · exact h.of_time rfl
  · exact h.of_time hread
  · exact h.of_time hwrite
  · exact h.of_time hfeeder
  · exact h.writeLine payload
  · exact h.of_time htarget
  · exact h.of_time henable
  · exact h.of_time hdisable
  · exact h.of_time hclear
  · exact h.of_time hwear
  · exact h.of_time hstart
  · exact h.of_time hstop
  · exact h.of_time hrelease
  · exact h.of_time hreject
  · exact h.of_time hopen
  · exact h.of_time hcommit
  · exact h.of_time hdry
  · exact h.deviceClear payload
  · simp only [warmRestartAct, answered]
    exact h.warmRestart
  · exact h
  · exact h

/-! ### Ports, telegrams and the relay -/

namespace TimeInv

variable {s : State}

theorem raised (h : TimeInv s) (c : Cause) : TimeInv (raise c s) := h.of_time (by simp [State.time])

theorem setPort (h : TimeInv s) (p : PortId) (x : Port) : TimeInv (s.setPort p x) := by
  cases p <;> exact h.of_time rfl

theorem setRx (h : TimeInv s) (p : PortId) (rx : Rx) : TimeInv (setRx p rx s) := h.setPort p _

/-- An error at a receiver changes its port and raises LINE_ERROR (R145, R146, R147, R148). -/
theorem portError (h : TimeInv s) (p : PortId) (x : Port) : TimeInv (raise .lineError (s.setPort p x)) :=
  (h.setPort p x).raised _

theorem ended (h : TimeInv s) (how : SessionEnd) : TimeInv (endSession how s) := h.of_time (by simp [State.time])

theorem joinF (h : TimeInv s) (x : Telegram) : TimeInv (joinF x s) := h.of_time (by simp [State.time])

theorem joinM (h : TimeInv s) (x : Telegram) : TimeInv (joinM x s) := h.of_time (by simp [State.time])

theorem joinReply (h : TimeInv s) (x : Telegram) : TimeInv (joinReply x s) := h.of_time (by simp [State.time])

theorem receiveAt (h : TimeInv s) (p : PortId) (payload : List Byte) {deliver : State → State}
    (hd : ∀ u, TimeInv u → TimeInv (deliver u)) : TimeInv (receiveAt p payload deliver s) := by
  unfold Machine.receiveAt
  split
  · exact hd _ (h.setRx p .idle)
  · exact h.portError p _

/-- A request keeps, at every destination, what acting on it keeps (R153, R172, R173). -/
theorem serveRequest (h : TimeInv s) {act : List Byte → State → Served} (ha : act ∈ requestActs) (fn : Byte)
    (handed : Bool) (dst src : Byte) (payload : List Byte) :
    TimeInv (serveRequest fn handed act dst src payload s) := by
  have hact {u : State} (hu : TimeInv u) (c : Prop) [Decidable c] :
      TimeInv (if c then (act payload u).state else u) := by
    split
    · exact hu.request ha payload
    · exact hu
  have he := h.ended .request
  unfold Machine.serveRequest
  dsimp only
  split
  · exact (he.request ha payload).joinReply _
  · split
    · exact (hact h _).joinF _
    · split
      · exact (hact he _).joinF _
      · exact h.joinF _

theorem serveRollCall (h : TimeInv s) (dst src : Byte) (payload : List Byte) :
    TimeInv (serveRollCall dst src payload s) := by
  unfold Machine.serveRollCall
  split
  · refine joinF ?_ _
    unfold answerRollCall
    split
    · exact h.joinReply _
    · exact h
  · exact h.serveRequest (by simp [requestActs]) _ _ _ _ _

theorem deliverMarker (h : TimeInv s) (dst src fn : Byte) (payload : List Byte) :
    TimeInv (deliverMarker dst src fn payload s) :=
  (h.marker payload).joinF _

theorem takeWord (h : TimeInv s) (w : Word) : TimeInv (takeWord s w) := by
  have hp : (Machine.takeWord s w).handler.params = s.handler.params := by
    unfold Machine.takeWord
    repeat' split
    · rfl
    · unfold writeStaged
      split <;> rfl
    · simp [setSession]
  exact h.of_time (by simp [State.time, hp])

theorem takeStream (h : TimeInv s) (fn : Byte) (payload : List Byte) : TimeInv (takeStream fn payload s) := by
  have hw : TimeInv ((payloadWords payload).foldl Machine.takeWord s) :=
    List.foldlRecOn _ _ h fun _ hu w _ => hu.takeWord w
  unfold Machine.takeStream
  split
  · dsimp only
    split
    · exact hw.ended _
    · exact hw
  · exact h

theorem deliverStream (h : TimeInv s) (dst src fn : Byte) (payload : List Byte) :
    TimeInv (deliverStream dst src fn payload s) := by
  refine joinF ?_ _
  split
  · exact h.takeStream fn payload
  · exact h

theorem deliverRequest (h : TimeInv s) (dst src fn : Byte) (payload : List Byte) :
    TimeInv (deliverRequest dst src fn payload s) := by
  unfold Machine.deliverRequest
  split
  case h_21 => exact h.serveRollCall _ _ _
  all_goals exact h.serveRequest (by simp [requestActs]) _ _ _ _ _

theorem deliverReply (h : TimeInv s) (dst src fn : Byte) (payload : List Byte) :
    TimeInv (deliverReply dst src fn payload s) := by
  have ho (t : Telegram) : TimeInv (observe t s) := h.of_time (by simp [State.time])
  unfold Machine.deliverReply
  dsimp only
  split
  · refine joinM ?_ _
    unfold passRollCall
    split
    · dsimp only
      split <;> exact ho _
    · exact (ho _).of_time rfl
  · exact (ho _).joinM _

theorem deliver (h : TimeInv s) (p : PortId) (kind : Kind) (dst src fn : Byte) (payload : List Byte) :
    TimeInv (deliver p kind dst src fn payload s) := by
  cases p
  · cases kind
    · exact h.deliverMarker _ _ _ _
    · exact h.deliverRequest _ _ _ _
    · exact h.joinF _
    · exact h.deliverStream _ _ _ _
  · cases kind
    · exact h.joinM _
    · show TimeInv (if _ then _ else _)
      split
      · exact h.of_time (by simp [State.time, countMisdirected])
      · exact h.joinM _
    · exact h.deliverReply _ _ _ _
    · exact h.joinM _

theorem takeCharacter (h : TimeInv s) (p : PortId) (byte : Byte) : TimeInv (takeCharacter p byte s) := by
  unfold Machine.takeCharacter
  split
  · split
    · exact h.setRx _ _
    · exact h.portError p _
  · unfold extend
    split
    · split
      · exact h.portError p _
      · split
        · split
          · unfold judge
            dsimp only
            split
            · exact (h.setRx _ _).deliver _ _ _ _ _ _
            · exact h.portError p _
          · exact h.portError p _
        · exact h.setRx _ _
    · exact h.setRx _ _
  · exact h
  · exact h

theorem lineBreak (h : TimeInv s) {t : State} {p : PortId} (ht : execLineBreak p s = .next t) : TimeInv t := by
  cases ht
  have hb : TimeInv (breakAt p s) := h.setPort p _
  split
  · exact h
  · cases p
    · have hm : TimeInv (breakSession (breakAt .m s)) := by
        unfold breakSession
        split
        · exact (hb.ended _).raised _
        · exact hb
      show TimeInv (requestRepeat _)
      unfold requestRepeat
      split
      · exact hm
      · exact hm.of_time rfl
    · exact hb

theorem beginTransmission (h : TimeInv s) (p : PortId) : TimeInv (beginTransmission p s) := by
  unfold Machine.beginTransmission
  split
  · split
    · exact h.setPort _ _
    · split
      · exact h
      · split
        · exact setPort (h.of_time (by simp [State.time])) _ _
        · exact h.setPort _ _
  · exact h

theorem endTransmission (h : TimeInv s) (p : PortId) : TimeInv (endTransmission p s) := by
  unfold Machine.endTransmission
  split
  · cases p <;> exact (h.setPort _ _).of_time rfl
  · exact h

/-! ### Commands and steps -/

theorem reset (s : State) (addr : BitVec 7) (rate : BitVec 3) (low : Bool) :
    TimeInv (powerOnReset addr rate low s) := by
  have hparams : ParamsInv (powerOn addr rate low s) := by
    obtain ⟨hlot, hdistance, hincrement, hcapacity, hblend, hconfirm, hthreshold, hlimit, -⟩ := paramsInv_reset
    exact ⟨hlot, hdistance, hincrement, hcapacity, hblend, hconfirm, hthreshold, hlimit, fun _ hg => by cases hg⟩
  have h : TimeInv (powerOn addr rate low s) := ⟨trackerInv_reset.of_tracker rfl, hparams⟩
  exact h.of_time (by simp [State.time, powerOnReset])

theorem exec (h : TimeInv s) {t : State} {i : Instr} (ht : exec i s = .next t) : TimeInv t := by
  have hif {c : Prop} [Decidable c] {u v : State} (hu : TimeInv u) (hv : TimeInv v) : TimeInv (if c then u else v) := by
    split <;> assumption
  cases i with
  | powerOnReset addr rate low => cases ht; exact reset s _ _ _
  | tripInChange low => cases ht; exact hif h (h.of_time (by simp [State.time]))
  | cycleMarker dst src fn payload => cases ht; exact h.receiveAt _ _ fun u hu => hu.deliverMarker _ _ _ _
  | supervisionExpiry => cases ht; exact hif h.expiry h
  | fieldReply dst src fn payload => cases ht; exact h.receiveAt _ _ fun u hu => hu.deliverReply _ _ _ _
  | mTelegramForward kind dst src fn payload =>
    cases ht; exact h.receiveAt _ _ fun u hu => hu.deliver .m kind _ _ _ _
  | fTelegramForward kind dst src fn payload =>
    cases ht; exact h.receiveAt _ _ fun u hu => hu.deliver .f kind _ _ _ _
  | streamTelegram dst src fn payload => cases ht; exact h.receiveAt _ _ fun u hu => hu.deliverStream _ _ _ _
  | parityError p => cases ht; exact hif (h.portError p _) h
  | framingError p => cases ht; exact hif (h.portError p _) h
  | kindError p => cases ht; exact hif (h.portError p _) h
  | lengthError p => cases ht; exact hif (h.portError p _) h
  | checkError p => cases ht; exact hif (h.portError p _) h
  | fragment p => cases ht; exact hif (h.portError p _) h
  | huntIdle p => cases ht; exact hif (h.setRx p _) h
  | lineBreak p => exact h.lineBreak ht
  | breakEnd p => cases ht; exact hif (h.setRx p _) h
  | breakRepeat => cases ht; exact hif (h.of_time rfl) h
  | breakRepeatEnd => cases ht; exact hif (h.of_time rfl) h
  | transmitStart p => cases ht; exact h.beginTransmission p
  | transmitComplete p => cases ht; exact h.endTransmission p
  | goodCharacter p byte => cases ht; exact h.takeCharacter p byte
  | unknownFunction dst src fn payload => cases ht; exact h.receiveAt _ _ fun u hu => hu.deliverRequest _ _ _ _
  | rollCall dst src payload => cases ht; exact h.receiveAt _ _ fun u hu => hu.serveRollCall _ _ _
  | _ => cases ht; exact h.receiveAt _ _ fun u hu => hu.serveRequest (by simp [requestActs]) _ _ _ _ _

/-- The tick counts the supervision down, so its bound holds after it (R25). -/
theorem tick (h : TimeInv s) : TimeInv (tick s) := by
  unfold Machine.tick
  split
  · rename_i left hleft
    split
    · exact h.expiry
    · refine ⟨⟨h.1.run, h.1.searching, h.1.slips, h.1.period, ?_, fun hl => ?_⟩, h.2⟩
      · rintro n ⟨⟩
        have := h.1.supervision left hleft
        omega
      · obtain ⟨hexpected, hperiod, -⟩ := h.1.locked hl
        exact ⟨hexpected, hperiod, rfl⟩
  · exact h

theorem step (h : TimeInv s) {t : State} (ht : step s = .next t) : TimeInv t := by
  unfold Machine.step at ht
  split at ht
  · rename_i rest _
    have hwaiting : TimeInv { s with pending := rest } := h.of_time rfl
    exact hwaiting.exec ht
  · cases ht
    exact h.tick

end TimeInv

/-- Settles O8: every command, and the tick of an idle step, keeps the ranges and the line parameters. -/
theorem trackerInvariantKept : Obligations.TrackerInvariantKept := fun _ _ htracker hparams ht =>
  TimeInv.step ⟨htracker, hparams⟩ ht

end Sys2Proof.Machine
end

section
/-!
PROOF. The step and the power-on reset (O1, O12), and a marker short of lock (O14): what the front of the queue and an
idle tick do, the reset blocks with the straps and the pin read, and the tracker's answer to a marker that neither
acquires lock nor counts a cycle.
-/

namespace Sys2Proof.Machine

/-! ### The step (R25) -/

theorem exec_supervisionExpiry {s : State} (h : s.tracker.supervision.isSome = true) :
    exec .supervisionExpiry s = .next (expireSupervision s) := by
  show Host.Outcome.next _ = _
  rw [if_pos h]

/-- A tick counts a running timer down, expires it at 0, and leaves a stopped one (R25). -/
theorem tick_cases (s : State) :
    (∀ n, s.tracker.supervision = some n → 1 < n →
      tick s = { s with tracker := { s.tracker with supervision := some (n - 1) } }) ∧
    (∀ n, s.tracker.supervision = some n → n ≤ 1 → tick s = expireSupervision s) ∧
    (s.tracker.supervision = none → tick s = s) := by
  unfold tick
  cases hs : s.tracker.supervision with
  | none => exact ⟨fun n hn => (by cases hn), fun n hn => (by cases hn), fun _ => rfl⟩
  | some left =>
    refine ⟨fun n hn hlong => ?_, fun n hn hshort => ?_, fun hn => (by cases hn)⟩
    · cases hn
      exact if_neg (by omega)
    · cases hn
      exact if_pos hshort

/-- Settles O1: the front command is executed on the rest of the queue; with none waiting the timer ticks. -/
theorem stepTakesFront : Obligations.StepTakesFront := by
  refine ⟨fun i rest s hp => ?_, fun s hp => ?_⟩
  · unfold step
    rw [hp]
  · have hstep : step s = .next (tick s) := by
      unfold step
      rw [hp]
    obtain ⟨hrunning, hexpired, hstopped⟩ := tick_cases s
    rw [hstep]
    refine ⟨fun n hn hlong => by rw [hrunning n hn hlong], fun n hn hshort => ?_, fun hn => by rw [hstopped hn]⟩
    rw [hexpired n hn hshort, exec_supervisionExpiry (by rw [hn]; rfl)]

/-! ### Power-on reset (R36, R144, R157) -/

theorem settled_reset : Settled State.reset := by
  refine ⟨fun k g => by rw [crusher_reset]; rfl, fun j => ?_⟩
  have hdrive : driveValueOf State.reset.activeTable j 0 = none := by
    unfold driveValueOf
    have hnone : entryOf State.reset.activeTable (.feederDrive j) = none := entryOf_eq_none fun i =>
      Bool.eq_false_iff.2 fun hi => by
        have := hasRole_reset (.feederDrive j)
        rw [hasRole_iff.2 ⟨i, hi⟩] at this
        cases this
    rw [hnone]
    rfl
  rw [feeder_reset]
  unfold Feeder.zeroed
  rw [hdrive]
  rfl

theorem State.crushers_ext {s t : State} (h : ∀ k, t.crusher k = s.crusher k) : t.crushers = s.crushers :=
  Vector.ext fun i hi => h ⟨i, hi⟩

theorem State.feeders_ext {s t : State} (h : ∀ j, t.feeder j = s.feeder j) : t.feeders = s.feeders :=
  Vector.ext fun i hi => h ⟨i, hi⟩

/-- With TRIP_IN low the controller enters TRIPPED by PIN over blocks just reset, which have nothing to stand down. -/
theorem powerOnReset_low (addr : BitVec 7) (rate : BitVec 3) (s : State) :
    powerOnReset addr rate true s =
      { powerOn addr rate true s with
        pins := { tripInLow := true, tripOut := true, lock := false }
        line :=
          trippedLine { pin := true, unitLine := false, unitStale := false, lines := 0 } (powerOn addr rate true s)
        causes := CauseUnit.reset.raise 0x3FFF .trip } := by
  have hidle : (powerOn addr rate true s).line.lineMode ≠ .tripped := by
    show LineControl.reset.lineMode ≠ .tripped
    decide
  have hplant : PlantCauses (powerOn addr rate true s) := causeInv_reset.plantCauses.of_eq rfl rfl
  have hsettled : Settled (powerOn addr rate true s) := ⟨settled_reset.crusher, settled_reset.feeder⟩
  have hsame := hsettled.takeTripInputs (pinInput (powerOn addr rate true s))
  have heq : takeTripInputs (pinInput (powerOn addr rate true s)) (powerOn addr rate true s) =
      enterTripped (pinInput (powerOn addr rate true s)) (powerOn addr rate true s) :=
    takeTripInputs_entered hidle rfl
  obtain ⟨hcauses, -, hline, hpins, -⟩ := enterTripped_eq hplant hidle (pinInput (powerOn addr rate true s))
  have hcrushers := State.crushers_ext hsame.crusher
  have hfeeders := State.feeders_ext hsame.feeder
  unfold powerOnReset
  dsimp only
  rw [heq] at hcrushers hfeeders ⊢
  exact State.ext_fields ⟨by simp, hpins, by simp, by simp, by simp, by simp, by simp, by simp, by simp, by simp,
    by simp, by simp, by simp, by simp, hcrushers, hfeeders, by simp, hline, by simp, by simp, hcauses, by simp,
    by simp⟩

/-- Settles O12: with TRIP_IN high no trip input is active; with it low the reset part enters TRIPPED by PIN. -/
theorem powerOnReset_blocks : Obligations.PowerOnReset := by
  intro addr rate s r
  refine ⟨?_, CauseUnit.reset.raise 0x3FFF .trip, raisedOnce_raise _ _ _, ?_⟩
  · show Host.Outcome.next (powerOnReset addr rate false s) = _
    unfold powerOnReset takeTripInputs
    dsimp only
    rw [pinInput_any]
    rfl
  · show Host.Outcome.next (powerOnReset addr rate true s) = _
    rw [powerOnReset_low]
    rfl

/-! ### A marker short of lock (R24, R25, R26) -/

/-- A marker command takes the marker and forwards its telegram (R153). -/
theorem exec_cycleMarker {payload : List Byte} (hlen : payload.length ≤ 40) (s : State) (dst src fn : Byte) :
    exec (.cycleMarker dst src fn payload) s =
      .next (joinF (Telegram.make .cycle dst src fn payload) (takeMarker payload s.heard)) := by
  show Host.Outcome.next (receiveAt .m payload (deliverMarker dst src fn payload) s) = _
  unfold receiveAt
  rw [if_pos hlen]
  rfl

theorem takeMarker_invalid {payload : List Byte} (h : validMarker payload = none) (s : State) :
    takeMarker payload s =
      raise .lineError { s with tracker := { s.tracker with invalidMarkers := countUp s.tracker.invalidMarkers } } := by
  unfold takeMarker
  rw [h]

theorem takeMarker_short {payload : List Byte} {number : Byte} {period : Nat} {s : State}
    (h : validMarker payload = some (number, period)) (hl : s.tracker.lockState = .search)
    (hrun : s.tracker.runAfter number < s.params.lockThreshold) :
    takeMarker payload s = { s with tracker := s.tracker.runMarker number period } := by
  unfold takeMarker
  rw [h]
  dsimp only
  rw [hl]
  dsimp only
  unfold markerInSearch
  dsimp only
  rw [if_neg (by omega)]
  rfl

/-- Settles O14: an invalid marker is counted and reported, a valid one short of the threshold notes its run; both are
forwarded. -/
theorem markersShortOfLock : Obligations.MarkersShortOfLock := by
  refine ⟨fun s dst src fn payload hlen hroom hbad => ?_, fun s dst src fn n p hl hroom h2 h250 => ?_⟩
  · refine ⟨_, raisedOnce_raise _ _ _, ?_⟩
    rw [exec_cycleMarker hlen, takeMarker_invalid (validMarker_eq_none hbad), joinF_of_room _ (by exact hroom)]
    rfl
  · intro run hrun
    have hv : validMarker [n, p] = some (n, p.toNat) := validMarker_eq_some.2 ⟨p, rfl, rfl, h2, h250⟩
    rw [exec_cycleMarker (by simp), takeMarker_short (s := s.heard) hv hl hrun, joinF_of_room _ (by exact hroom)]
    rfl

end Sys2Proof.Machine
end

section
/-!
PROOF. A marker in LOCKED (O16): the marker counted, the users' order, the loss of lock at the fourth slip, and what a
loss of lock leaves of the LOCK pin, the line mode, the feeders and the crushers.
-/

namespace Sys2Proof.Machine

/-! ### The F-bound queue (R151, R156) -/

theorem joinF_cases (t : Telegram) (u : State) :
    (u.relay.fBound.length < 4 → joinF t u = u.withForward t) ∧
      (4 ≤ u.relay.fBound.length →
        ∃ c, RaisedOnce u.params.causeMask .lineError u.causes c ∧
          joinF t u =
            { u with relay := { u.relay with overrunsF := min 65535 (u.relay.overrunsF + 1) }, causes := c }) := by
  refine ⟨joinF_of_room t, fun hfull => ⟨_, raisedOnce_raise _ _ _, ?_⟩⟩
  unfold joinF
  rw [if_neg (by unfold queueSize; omega)]
  rfl

/-! ### What a loss of lock leaves (R31, R32) -/

/-- The LOCK pin is deasserted, the line in a mode that lock is not needed in, every feeder at 0 and no crusher in RUN,
MOVE, RECOVER or RELIEF (R32). -/
structure Unlocked (s : State) : Prop where
  lock : s.pins.lock = false
  mode : s.line.lineMode.needsLock = false
  feeders : ∀ j : Fin 4, (s.feeder j).output = 0
  crushers : ∀ k : Fin 4, (s.crusher k).state.isEnabled = false

theorem Unlocked.congr {s t : State} (h : Unlocked s) (hp : t.pins = s.pins) (hl : t.line = s.line)
    (hf : t.feeders = s.feeders) (hc : t.crushers = s.crushers) : Unlocked t :=
  ⟨hp ▸ h.lock, hl ▸ h.mode, fun j => by rw [State.feeder_congr hf]; exact h.feeders j,
    fun k => by rw [State.crusher_congr hc]; exact h.crushers k⟩

/-- A loss of lock leaves the LOCK pin as it is; the controller goes to IDLE unless it is there or in TRIPPED (R137). -/
theorem lineLockLost_line (s : State) :
    (lineLockLost s).line.lineMode.needsLock = false ∧ (lineLockLost s).pins.lock = s.pins.lock := by
  unfold lineLockLost
  split
  · rename_i hm
    refine ⟨?_, rfl⟩
    rcases hm with hm | hm <;> rw [hm] <;> rfl
  · obtain ⟨hl, hp⟩ := changeMode_line .idle (discardStop .lockLost s)
    refine ⟨by rw [hl]; rfl, ?_⟩
    rw [hp, discardStop_eq]

theorem unlocked_loseLock (s : State) : Unlocked (loseLock s) := by
  unfold loseLock
  dsimp only
  generalize ht : raise .lockLost _ = t
  have hpin : t.pins.lock = false := by rw [← ht]; rfl
  obtain ⟨hmode, hlock⟩ := lineLockLost_line t
  refine ⟨by simpa [hlock] using hpin, by simpa using hmode, fun j => by rw [feeder_zeroFeeders]; rfl, fun k => ?_⟩
  rw [crusher_zeroFeeders, crusher_signalCrushers]
  exact standDown_off _ _

/-- An onset sample enables no crusher where none is enabled (R67). -/
theorem takeOnset_off {s : State} (hoff : ∀ k, (s.crusher k).state.isEnabled = false) (k j : Fin 4) :
    ((takeOnset k s).crusher j).state.isEnabled = false := by
  unfold takeOnset
  rw [State.crusher_changeCrusher]
  split
  · exact Bool.eq_false_iff.2 fun hj =>
      Bool.eq_false_iff.1 (hoff k) (takeSample_noRise s.tracker.cycleCount .onset (s.crusher k) hj)
  · exact hoff j

/-- An onset sample after the loss starts no feeder. -/
theorem Unlocked.takeOnset {s : State} (h : Unlocked s) (k : Fin 4) : Unlocked (takeOnset k s) where
  lock := by simpa using h.lock
  mode := by simpa using h.mode
  feeders j := by
    unfold Machine.takeOnset
    rw [State.feeder_changeCrusher]
    split
    · rfl
    · exact h.feeders j
  crushers := takeOnset_off h.crushers k

theorem unlocked_endLock (s : State) : Unlocked (endLock s) :=
  endLock_keeps (unlocked_loseLock _) (unlocked_loseLock _) fun k _ hu => hu.takeOnset k

/-! ### The counted marker (R29, R30) -/

/-- Lock ends alike whatever the supervision holds, which the loss stops (R31). -/
theorem endLock_supervision (s : State) (x : Option Nat) :
    endLock { s with tracker := { s.tracker with supervision := x } } = endLock s := rfl

theorem countMarker_eq (t : Tracker) (number : Byte) (period : Nat) :
    t.countMarker number period =
      { t with
        cycleCount := t.cycleCount + 1, expected := some (number + 1), period := some period
        supervision := some (3 * period), slipRun := if t.expected ≠ some number then t.slipRun + 1 else 0
        slips := if t.expected ≠ some number then min 65535 (t.slips + 1) else t.slips } := by
  unfold Tracker.countMarker Tracker.noteMarker
  dsimp only
  by_cases h : t.expected = some number
  · rw [if_pos h, if_neg (not_not.2 h), if_neg (not_not.2 h)]
  · rw [if_neg h, if_pos h, if_pos h]
    rfl

theorem takeMarker_locked {payload : List Byte} {number : Byte} {period : Nat} {s : State}
    (h : validMarker payload = some (number, period)) (hl : s.tracker.lockState = .locked) :
    takeMarker payload s =
      if 4 ≤ (s.tracker.countMarker number period).slipRun then
        endLock (countedCycle { s with tracker := s.tracker.countMarker number period })
      else countedCycle { s with tracker := s.tracker.countMarker number period } := by
  unfold takeMarker
  rw [h]
  dsimp only
  rw [hl]
  rfl

/-- The users of a counted cycle work once each, in some order (R34). -/
theorem countedCycle_order (s : State) :
    ∃ order : List CycleUser, order.Perm [.store, .crushers, .confirm, .line, .handler] ∧
      countedCycle s = order.foldl (fun w x => cycleWork x w) { s with freeCount := s.freeCount + 1 } :=
  ⟨_, shuffle_perm (Config.freeOrder s.freeCount) cycleUsers, rfl⟩

/-- Settles O16: the marker is counted, the users work in a free order, lock ends at the fourth slip as an expiry ends
it, and the marker joins the F-bound queue. -/
theorem markerInLock_counted : Obligations.MarkerInLock := by
  intro s dst src fn n p hl h2 h250 slip marked
  have hv : validMarker [n, p] = some (n, p.toNat) := validMarker_eq_some.2 ⟨p, rfl, rfl, h2, h250⟩
  let v := countedCycle { s.heard with tracker := s.tracker.countMarker n p.toNat }
  have hvt : v.tracker = s.tracker.countMarker n p.toNat := by simp [v]
  have hvr : v.relay = s.relay := by simp [v, State.heard]
  obtain ⟨hlock, -, hperiod, -, hsupervision⟩ := countMarker_fields s.tracker n p.toNat
  have hfourth : 4 ≤ (s.tracker.countMarker n p.toNat).slipRun ↔ slip ∧ 3 ≤ s.tracker.slipRun := by
    rw [countMarker_eq]
    dsimp only [slip]
    split <;> simp_all
  obtain ⟨u, hu, hexec, hur⟩ : ∃ u, u = (if slip ∧ 3 ≤ s.tracker.slipRun then endLock v else v) ∧
      exec (.cycleMarker dst src fn [n, p]) s = .next (joinF (Telegram.make .cycle dst src fn [n, p]) u) ∧
      u.relay = s.relay := by
    refine ⟨_, rfl, ?_, ?_⟩
    · rw [exec_cycleMarker (by simp), takeMarker_locked (s := s.heard) hv hl]
      exact congrArg (fun x => Host.Outcome.next (joinF _ x)) (if_congr hfourth rfl rfl)
    · split
      · exact Eq.trans (by simp) hvr
      · exact hvr
  refine ⟨?_, joinF (Telegram.make .cycle dst src fn [n, p]) u, hexec, ?_⟩
  · obtain ⟨order, hperm, horder⟩ := countedCycle_order { s.heard with tracker := s.tracker.countMarker n p.toNat }
    obtain ⟨hroom, hfull⟩ := joinF_cases (Telegram.make .cycle dst src fn [n, p]) u
    refine ⟨order, v, u, hperm, ?_, ?_, fun hr => ?_, fun hr => ?_⟩
    · show countedCycle _ = _
      rw [horder, countMarker_eq]
      rfl
    · split
      · rw [exec_supervisionExpiry (by rw [hvt, hsupervision]; rfl),
          expireSupervision_locked (by rw [hvt, hlock]; exact hl), endLock_supervision, hu, if_pos ‹_›]
      · rw [hu, if_neg ‹_›]
    · rw [hexec, hroom (by rw [hur]; exact hr)]
    · obtain ⟨c, hc, he⟩ := hfull (by rw [hur]; exact hr)
      exact ⟨c, hc, by rw [hexec, he, hur]⟩
  · rw [countMarker_eq] at hvt
    have ht : (joinF (Telegram.make .cycle dst src fn [n, p]) u).tracker = u.tracker := by simp
    have hut : u.tracker = if slip ∧ 3 ≤ s.tracker.slipRun then v.tracker.lost else v.tracker := by
      rw [hu]
      split
      · exact endLock_tracker v
      · rfl
    rw [ht, hut, hvt]
    refine ⟨?_, ?_, ?_, ?_, fun hs => ?_, fun hs => ?_⟩
    · split <;> rfl
    · split <;> rfl
    · split <;> rfl
    · split <;> rfl
    · exact if_neg fun hc => absurd (hs hc.1) (by omega)
    · have hunlocked : Unlocked (joinF (Telegram.make .cycle dst src fn [n, p]) u) := by
        rw [hu, if_pos hs]
        exact (unlocked_endLock v).congr (by simp) (by simp) (by simp) (by simp)
      rw [if_pos hs]
      exact ⟨rfl, rfl, rfl, rfl, rfl, rfl, hunlocked.lock, hunlocked.mode, hunlocked.feeders, hunlocked.crushers⟩

end Sys2Proof.Machine
end

section
/-!
PROOF. Lock lost (O19, R31, R32): the state a loss of lock leaves, written out, and the onset samples that may come with
it.
-/

namespace Sys2Proof.Machine

/-! ### The state after a loss of lock (R31, R32, R137) -/

/-- The line as a loss of lock leaves it: TRIPPED stays, every other mode goes to IDLE (R137). -/
def LineControl.lockLost (x : LineControl) : LineControl :=
  if x.lineMode = .tripped then x
  else
    { x with
      lineMode := .idle, stopRec := none
      lastStopEnd := if x.stopRec.isSome then .lockLost else x.lastStopEnd }

/-- The part as a loss of lock leaves it. -/
def afterLoss (s : State) : State :=
  { s with
    tracker := s.tracker.lost
    pins := { s.pins with lock := false }
    line := s.line.lockLost
    crushers := Vector.ofFn fun k => (s.crusher k).stoodDown (governed s.activeTable k)
    feeders := Vector.ofFn fun j => (s.feeder j).zeroed s.activeTable j
    causes := s.causes.raise s.params.causeMask .lockLost }

theorem crusher_afterLoss (s : State) (k : Fin 4) :
    (afterLoss s).crusher k = (s.crusher k).stoodDown (governed s.activeTable k) := by
  simp [State.crusher, afterLoss]

theorem feeder_afterLoss (s : State) (j : Fin 4) :
    (afterLoss s).feeder j = (s.feeder j).zeroed s.activeTable j := by
  simp [State.feeder, afterLoss]

theorem halted_afterLoss (s : State) : Halted s (afterLoss s) :=
  ⟨crusher_afterLoss s, feeder_afterLoss s⟩

/-- The controller's part of a loss of lock: its line, and feeders it may have zeroed (R93, R137). -/
theorem lineLockLost_eq {s : State} (hc : s.causes.Counted)
    (htrip : (s.causes.entry .trip).pending = levelHolds .trip s)
    (hstop : s.line.lineMode = .idle → s.line.stopRec = none)
    (hout : s.pins.tripOut = (s.line.lineMode == .tripped)) :
    lineLockLost s = { s with line := s.line.lockLost, feeders := (lineLockLost s).feeders } ∧
      ∀ j : Fin 4, ((lineLockLost s).feeder j).zeroed s.activeTable j = (s.feeder j).zeroed s.activeTable j := by
  unfold lineLockLost
  split
  · rename_i hm
    refine ⟨?_, fun _ => rfl⟩
    have hline : s.line.lockLost = s.line := by
      unfold LineControl.lockLost
      rcases hm with hm | hm
      · exact if_pos hm
      · have hnone := hstop hm
        rw [if_neg (by rw [hm]; decide)]
        cases hl : s.line
        simp_all
    rw [hline]
  · rename_i hm
    obtain ⟨htripped, -⟩ := not_or.1 hm
    have hnotrip : levelHolds .trip s = false := beq_eq_false_iff_ne.2 htripped
    obtain ⟨hl, hp⟩ := changeMode_line .idle (discardStop .lockLost s)
    have hcauses : (changeMode .idle (discardStop .lockLost s)).causes = s.causes := by
      unfold changeMode
      dsimp only
      have hsignals (old : LineMode) : signalsCrushers old .idle = false := by cases old <;> rfl
      rw [hsignals, if_neg (by decide), settleLevel_eq, raiseIf_eq]
      have hz (b : Bool) (u : State) : (if b then zeroFeeders u else u).causes = u.causes := by
        cases b <;> simp
      simp [hz, hc.cease_eq (htrip.trans hnotrip), discardStop_eq]
    have hline : s.line.lockLost = (changeMode .idle (discardStop .lockLost s)).line := by
      rw [hl, discardStop_eq]
      exact if_neg htripped
    have hpins : (changeMode .idle (discardStop .lockLost s)).pins = s.pins := by
      rw [hp, discardStop_eq, show (LineMode.idle == .tripped) = s.pins.tripOut from hout ▸ hnotrip.symm]
    have hcrusher (k : Fin 4) : (changeMode .idle (discardStop .lockLost s)).crusher k = s.crusher k := by
      rw [crusher_changeMode, if_neg (by simp [signalsCrushers]), discardStop_eq]
      rfl
    refine ⟨?_, fun j => ?_⟩
    · rw [hline]
      exact State.ext_fields ⟨by simp, hpins, by simp, by simp, by simp, by simp, by simp, by simp, by simp, by simp,
        by simp, by simp, by simp, by simp, State.crushers_ext hcrusher, rfl, by simp, rfl, by simp, by simp, hcauses,
        by simp, by simp⟩
    · have htable : (discardStop .lockLost s).activeTable = s.activeTable := by simp
      have hsame : (discardStop .lockLost s).feeder j = s.feeder j := by
        rw [discardStop_eq]
        rfl
      rw [feeder_changeMode, htable, hsame]
      split <;> rfl

theorem loseLock_eq {s : State} (h : LineInv s) (hc : CauseInv s) : loseLock s = afterLoss s := by
  unfold loseLock
  dsimp only
  generalize ht : raise .lockLost _ = t
  have hplant : PlantCauses t := by
    rw [← ht]
    refine PlantCauses.raised (s := s) (l := [.lockLost]) hc.plantCauses rfl rfl (by decide) (by decide)
  have htrip : (t.causes.entry .trip).pending = levelHolds .trip t := by
    rw [← ht]
    show ((s.causes.raise _ .lockLost).entry .trip).pending = _
    rw [CauseUnit.entry_raise, if_neg (by decide)]
    exact hc.level _ rfl
  have hstop : t.line.lineMode = .idle → t.line.stopRec = none := by
    rw [← ht]
    exact fun hm => h.stopRec_none (by rw [show s.line.lineMode = .idle from hm]; decide)
  have hout : t.pins.tripOut = (t.line.lineMode == .tripped) := by
    rw [← ht]
    exact h.tripOut
  obtain ⟨hline, hfeeder⟩ := lineLockLost_eq hplant.counted htrip hstop hout
  generalize lineLockLost t = w at hline hfeeder
  have hw : PlantCauses w := hplant.of_eq (by rw [hline]) (by rw [hline])
  have hcauses : (zeroFeeders (signalCrushers w)).causes = s.causes.raise s.params.causeMask .lockLost := by
    have hzero : (zeroFeeders (signalCrushers w)).causes = (signalCrushers w).causes := by simp
    rw [hzero, (signalCrushers_causes hw).2, hline, ← ht]
    rfl
  have hcrusher (k : Fin 4) : (zeroFeeders (signalCrushers w)).crusher k = (afterLoss s).crusher k := by
    rw [crusher_zeroFeeders, crusher_signalCrushers, standDown_eq, crusher_afterLoss, hline, ← ht]
    rfl
  have hfeeders (j : Fin 4) : (zeroFeeders (signalCrushers w)).feeder j = (afterLoss s).feeder j := by
    have hkept : w.activeTable = t.activeTable := by rw [hline]
    have htable : (signalCrushers w).activeTable = t.activeTable := Eq.trans (by simp) hkept
    have hzeroed : ((signalCrushers w).feeder j).zeroed t.activeTable j = (w.feeder j).zeroed t.activeTable j := by
      rw [feeder_signalCrushers]
      split
      · rw [hkept]
        rfl
      · rfl
    rw [feeder_zeroFeeders, htable, hzeroed, hfeeder, feeder_afterLoss, ← ht]
    rfl
  have hafter : (zeroFeeders (signalCrushers w)) = { w with
      crushers := (zeroFeeders (signalCrushers w)).crushers
      feeders := (zeroFeeders (signalCrushers w)).feeders
      causes := (zeroFeeders (signalCrushers w)).causes } :=
    State.ext_fields ⟨by simp, by simp, by simp, by simp, by simp, by simp, by simp, by simp, by simp, by simp, by simp,
      by simp, by simp, by simp, by dsimp only, by dsimp only, by simp, by simp, by simp, by simp, by dsimp only,
      by simp, by simp⟩
  rw [hafter, hcauses, State.crushers_ext hcrusher, State.feeders_ext hfeeders, hline, ← ht]
  rfl

end Sys2Proof.Machine
end

section
/-!
PROOF. The reply that waits as lock is lost (O19, R76): which replies wait, the onset samples they hold, and what the
crushers make of those.
-/

namespace Sys2Proof.Machine

/-! ### The reply that waits (R146, R147) -/

/-- Bytes on the line are those of a reply exactly where they are the bytes of one made of its header and payload. -/
theorem replyOfBytes_eq_some {bytes : List Byte} {t : Telegram} :
    replyOfBytes bytes = some t ↔
      ∃ (dst src fn : Byte) (payload : List Byte), payload.length ≤ 40 ∧ t = Telegram.make .reply dst src fn payload ∧
        bytes = t.bytes := by
  constructor
  · intro h
    unfold replyOfBytes at h
    split at h
    · dsimp only at h
      split at h
      · rename_i _ dst src fn n rest hfits
        cases h
        exact ⟨dst, src, fn, rest.take n.toNat, by rw [List.length_take]; omega, rfl, hfits.2.symm⟩
      · cases h
    · cases h
  · rintro ⟨dst, src, fn, payload, hlen, rfl, rfl⟩
    have hbytes : (Telegram.make .reply dst src fn payload).bytes =
        kindCode .reply :: dst :: src :: fn :: BitVec.ofNat 8 payload.length ::
          (payload ++ beBytes 2 (Telegram.make .reply dst src fn payload).check.toNat) := rfl
    have hn : (BitVec.ofNat 8 payload.length).toNat = payload.length := by
      rw [BitVec.toNat_ofNat, Nat.mod_eq_of_lt (by omega)]
    unfold replyOfBytes
    rw [hbytes]
    dsimp only
    rw [hn, List.take_left', if_pos ⟨hlen, hbytes⟩]
    rfl

theorem waitingReply_eq_some {s : State} {src : Byte} {payload : List Byte} :
    s.replyWaits src payload ↔ ∃ t, s.waitingReply = some t ∧ t.src = src ∧ t.payload = payload := by
  unfold State.replyWaits State.waitingReply
  constructor
  · rintro ⟨hlen, dst, fn, rest, hp | hp | ⟨part, byte, hp, hrx, hbytes⟩⟩
    · rw [hp]
      exact ⟨_, if_pos hlen, rfl, rfl⟩
    · rw [hp]
      exact ⟨_, if_pos hlen, rfl, rfl⟩
    · rw [hp]
      dsimp only
      rw [hrx]
      exact ⟨_, replyOfBytes_eq_some.2 ⟨dst, src, fn, payload, hlen, rfl, hbytes⟩, rfl, rfl⟩
  · rintro ⟨t, ht, rfl, rfl⟩
    split at ht
    · rename_i dst src fn payload rest hp
      split at ht
      · cases ht
        exact ⟨‹_›, dst, fn, rest, .inl hp⟩
      · cases ht
    · rename_i dst src fn payload rest hp
      split at ht
      · cases ht
        exact ⟨‹_›, dst, fn, rest, .inr (.inl hp)⟩
      · cases ht
    · rename_i byte rest hp
      split at ht
      · rename_i part hrx
        obtain ⟨dst, src, fn, payload, hlen, rfl, hbytes⟩ := replyOfBytes_eq_some.1 ht
        exact ⟨hlen, dst, fn, rest, .inr (.inr ⟨part, byte, hp, hrx, hbytes⟩)⟩
      · cases ht
    · cases ht

/-! ### The onset samples it holds (R18, R65) -/

/-- A field that a reply from `src` holds for entry i is an onset sample of crusher k (R65). -/
def onsetField (s : State) (src : Byte) (payload : List Byte) (k : Fin 4) (i : Fin 32) (bytes : List Byte) : Prop :=
  (s.readField src payload i = some (.pressure k, some bytes) ∧ ∃ pressure : Nat,
      storedValue s.activeTable[i] (.pressure k) bytes = some (.scalar (some pressure)) ∧
        (s.crusher k).params.reliefPressure ≤ pressure) ∨
    (s.readField src payload i = some (.actuator k, some bytes) ∧ ∃ st : ActStatus,
      storedValue s.activeTable[i] (.actuator k) bytes = some (.actuator (some st)) ∧ st.reliefOpen = true)

theorem pressureSample_eq_onset {p : CrusherParams} {pressure : Nat} {reported : Bool} :
    pressureSample p pressure reported = .onset ↔ p.reliefPressure ≤ pressure := by
  unfold pressureSample
  split
  · exact iff_of_true rfl ‹_›
  · split <;> simp_all

theorem statusSample_eq_onset {reliefOpen fresh : Bool} :
    statusSample reliefOpen fresh = .onset ↔ reliefOpen = true := by
  cases reliefOpen <;> cases fresh <;> simp [statusSample]

/-- The record of a role whose field a reply has brought is FRESH with the value of the field (R15). -/
theorem recordOf_storeReply {s : State} (hs : StoreInv s) (ht : TableInv s) {t : Telegram} {i : Fin 32} {r : Role}
    {bytes : List Byte} {x : Value} (hread : s.readField t.src t.payload i = some (r, some bytes))
    (hx : storedValue s.activeTable[i] r bytes = some x) :
    (storeReply t s).recordOf r = some (freshRecord s.tracker.cycleCount x) := by
  obtain ⟨hu, hrole⟩ := readField_eq_some hread
  rw [recordOf_of_holds (v := storeReply t s) ht rfl hu hrole, getElem_storeReply hs, readValue_of_read hread, hx]

theorem sampleAt_pressure {v : State} {k : Fin 4} {now : Long} {o : Option Nat}
    (h : v.recordOf (.pressure k) = some (freshRecord now (.scalar o))) :
    sampleAt (.pressure k) v = o.map fun p => (k, pressureSample (v.crusher k).params p (v.reliefReported k)) := by
  unfold sampleAt State.freshScalar
  dsimp only
  rw [h]
  rfl

theorem sampleAt_actuator {v : State} {k : Fin 4} {now : Long} {o : Option ActStatus}
    (h : v.recordOf (.actuator k) = some (freshRecord now (.actuator o))) :
    sampleAt (.actuator k) v = o.map fun st => (k, statusSample st.reliefOpen (v.isFresh (.pressure k))) := by
  unfold sampleAt State.heldStatus
  dsimp only
  rw [h]
  rfl

/-- A field of a role that is no counter makes an arrival with increment 0 (R18). -/
theorem mem_arrivalsOf_of_read {s : State} (hs : StoreInv s) {t : Telegram} {i : Fin 32} {r : Role} {bytes : List Byte}
    {x : Value} (hread : s.readField t.src t.payload i = some (r, some bytes))
    (hx : storedValue s.activeTable[i] r bytes = some x) (hne : ∀ last b, x ≠ .counter last b) :
    { role := r, increment := 0 } ∈ arrivalsOf s t := by
  obtain ⟨old, ho⟩ := Option.isSome_iff_exists.1 ((hs.held i).trans (readField_eq_some hread).1)
  exact mem_arrivalsOf.2 ⟨i, (arrivalAt_eq_some hs).2 ⟨old, bytes, x, ho, hread, hx, storedIncrement_of_ne hne _ _⟩⟩

/-- The onset samples of a reply are those of its fields. -/
theorem mem_onsetsOf {s : State} (hs : StoreInv s) (ht : TableInv s) {t : Telegram} {k : Fin 4} :
    k ∈ onsetsOf t s ↔ ∃ (i : Fin 32) (bytes : List Byte), onsetField s t.src t.payload k i bytes := by
  have hmem : k ∈ onsetsOf t s ↔ ∃ a ∈ arrivalsOf s t, sampleAt a.role (storeReply t s) = some (k, .onset) := by
    unfold onsetsOf
    rw [List.mem_filterMap]
    refine exists_congr fun a => and_congr_right fun _ => ?_
    split <;> simp_all
  rw [hmem]
  constructor
  · rintro ⟨a, ha, hsample⟩
    obtain ⟨i, hi⟩ := mem_arrivalsOf.1 ha
    obtain ⟨old, bytes, x, -, hread, hx, -⟩ := (arrivalAt_eq_some hs).1 hi
    have hrec := recordOf_storeReply hs ht hread hx
    have hfits := storedValue_fits hx
    refine ⟨i, bytes, ?_⟩
    cases hr : a.role with
    | pressure j =>
      rw [hr] at hsample hread hx hrec hfits
      cases x with
      | scalar o =>
        rw [sampleAt_pressure hrec] at hsample
        obtain ⟨p, rfl, hpair⟩ := Option.map_eq_some_iff.1 hsample
        obtain ⟨rfl, hp⟩ := Prod.mk.inj hpair
        exact .inl ⟨hread, p, hx, pressureSample_eq_onset.1 hp⟩
      | _ => simp [Value.fits, Role.counterModulus] at hfits
    | actuator j =>
      rw [hr] at hsample hread hx hrec hfits
      cases x with
      | actuator o =>
        rw [sampleAt_actuator hrec] at hsample
        obtain ⟨st, rfl, hpair⟩ := Option.map_eq_some_iff.1 hsample
        obtain ⟨rfl, hp⟩ := Prod.mk.inj hpair
        exact .inr ⟨hread, st, hx, statusSample_eq_onset.1 hp⟩
      | _ => simp [Value.fits, Role.isScalar, Role.counterModulus] at hfits
    | _ => rw [hr] at hsample; cases hsample
  · rintro ⟨i, bytes, ⟨hread, p, hx, hp⟩ | ⟨hread, st, hx, hopen⟩⟩
    · refine ⟨_, mem_arrivalsOf_of_read hs hread hx (by simp), ?_⟩
      rw [sampleAt_pressure (recordOf_storeReply hs ht hread hx)]
      exact congrArg (fun x => some (k, x)) (pressureSample_eq_onset.2 hp)
    · refine ⟨_, mem_arrivalsOf_of_read hs hread hx (by simp), ?_⟩
      rw [sampleAt_actuator (recordOf_storeReply hs ht hread hx)]
      exact congrArg (fun x => some (k, x)) (statusSample_eq_onset.2 hopen)

theorem waitingOnsets_eq_nil {s : State} (h : ∀ src payload, ¬s.replyWaits src payload) : waitingOnsets s = [] := by
  unfold waitingOnsets
  split
  · rename_i t ht
    exact absurd (waitingReply_eq_some.2 ⟨t, ht, rfl, rfl⟩) (h _ _)
  · rfl

theorem mem_waitingOnsets {s : State} (hs : StoreInv s) (ht : TableInv s) {k : Fin 4} :
    k ∈ waitingOnsets s ↔ s.onsetWaits k := by
  have hwaits : s.onsetWaits k ↔ ∃ t, s.waitingReply = some t ∧ k ∈ onsetsOf t s := by
    constructor
    · rintro ⟨src, payload, i, bytes, hw, hf⟩
      obtain ⟨t, hwait, rfl, rfl⟩ := waitingReply_eq_some.1 hw
      exact ⟨t, hwait, (mem_onsetsOf hs ht).2 ⟨i, bytes, hf⟩⟩
    · rintro ⟨t, hwait, hk⟩
      obtain ⟨i, bytes, hf⟩ := (mem_onsetsOf hs ht).1 hk
      exact ⟨t.src, t.payload, i, bytes, waitingReply_eq_some.2 ⟨t, hwait, rfl, rfl⟩, hf⟩
  rw [hwaits]
  unfold waitingOnsets
  cases hwait : s.waitingReply <;> simp

end Sys2Proof.Machine
end

section
/-!
PROOF. Expiry of supervision (O19): the onset samples taken after the loss, and the expiry in SEARCH, with the timer
stopped and in LOCKED.
-/

namespace Sys2Proof.Machine

/-! ### An onset sample after the loss (R67, R68) -/

/-- The relief record of a context is open. -/
def Crusher.reliefIsOpen (c : Crusher) : Bool := c.reliefRec.any fun r => decide (r.phase = .opened)

/-- The context in STANDBY after an onset: an open relief takes a breaking sample, another is created or reopened (R67,
R68). -/
def Crusher.onsetTaken (c : Crusher) (now : Long) : Crusher :=
  { c with
    reliefRec :=
      if c.reliefIsOpen then c.reliefRec.map fun (r : Relief) => { r with clearRun := 0 }
      else
        some
          { phase := .opened
            reliefCount := c.reliefRec.elim 1 fun r => min 255 (r.reliefCount + 1)
            clearRun := 0
            onsetCycle := now } }

theorem takeSample_onset {c : Crusher} (hs : c.state = .standby) (now : Long) :
    takeSample now .onset c =
      { crusher := c.onsetTaken now, raises := if c.reliefIsOpen then [] else [.relief] } := by
  rcases c with ⟨st, _, _, _, _, _, _, _, _ | ⟨_ | _, _, _, _⟩, _, _, _⟩ <;>
  · obtain rfl : st = .standby := hs
    rfl

/-- No onset brings a crusher that stands down into another state. -/
theorem takeSample_onset_other {c : Crusher} (hoff : c.state.isEnabled = false) (hs : c.state ≠ .standby) (now : Long) :
    takeSample now .onset c = quiet c := by
  unfold takeSample
  cases hc : c.state with
  | standby => exact absurd hc hs
  | fault | absent => rfl
  | run | move | recover | relief => rw [hc] at hoff; cases hoff

/-- Crusher k takes an onset sample: nothing outside STANDBY, and RELIEF where the sample opens the relief (R67). -/
theorem takeOnset_eq {s : State} (h : PlantCauses s) {k : Fin 4} (hoff : (s.crusher k).state.isEnabled = false) :
    takeOnset k s =
      if (s.crusher k).state = .standby then
        { s with
          crushers := s.crushers.set k ((s.crusher k).onsetTaken s.tracker.cycleCount)
          causes :=
            if (s.crusher k).reliefIsOpen then s.causes else s.causes.raise s.params.causeMask .relief }
      else s := by
  unfold takeOnset
  split
  · rename_i hs
    rw [takeSample_onset hs, changeCrusher_eq, causesAfter_eq h ?_ ?_ ?_]
    · have hfeeders : feedersAfter s k ((s.crusher k).onsetTaken s.tracker.cycleCount) = s.feeders := by
        unfold feedersAfter
        rw [hs]
        rfl
      have hcauses (l : List Cause) :
          Change.causes { crusher := (s.crusher k).onsetTaken s.tracker.cycleCount, raises := l } (s.crusher k) =
            l := by
        have hstate : ((s.crusher k).onsetTaken s.tracker.cycleCount).state = .standby := hs
        have hdue : ((s.crusher k).onsetTaken s.tracker.cycleCount).due = (s.crusher k).due := rfl
        simp [Change.causes, hstate, hdue]
      rw [hfeeders, hcauses]
      cases (s.crusher k).reliefIsOpen <;> rfl
    · have hrelief : Cause.isLevel .relief = false := by decide
      cases (s.crusher k).reliefIsOpen <;> simp [hrelief]
    · exact id
    · exact id
  · rw [takeSample_onset_other hoff ‹_›, changeCrusher_self h]

theorem PlantCauses.takeOnset {s : State} (h : PlantCauses s) {k : Fin 4}
    (hoff : (s.crusher k).state.isEnabled = false) : PlantCauses (takeOnset k s) := by
  refine h.changeCrusher fun x hx => ?_
  by_cases hs : (s.crusher k).state = .standby
  · rw [takeSample_onset hs] at hx
    split at hx
    · cases hx
    · obtain rfl : x = .relief := by simpa using hx
      decide
  · rw [takeSample_onset_other hoff hs] at hx
    cases hx

/-! ### The onset samples one after another (R76) -/

/-- An onset sample opens a relief: its crusher is in STANDBY without an open one. -/
def Crusher.opens (c : Crusher) : Bool := decide (c.state = .standby) && !c.reliefIsOpen

/-- What onset samples of some crushers make of the part: each crusher in STANDBY takes its own once, and RELIEF is
raised for each relief that opens. -/
structure OnsetsTaken (ks : List (Fin 4)) (s t : State) : Prop where
  same : t = { s with crushers := t.crushers, causes := t.causes }
  crusher : ∀ k, t.crusher k =
    if k ∈ ks ∧ (s.crusher k).state = .standby then (s.crusher k).onsetTaken s.tracker.cycleCount else s.crusher k
  causes : RaisedEach s.params.causeMask
    (fun x => if x = .relief then ((List.finRange 4).filter fun k => decide (k ∈ ks) && (s.crusher k).opens).length
      else 0) s.causes t.causes

theorem onsetTaken_open (c : Crusher) (now : Long) : (c.onsetTaken now).reliefIsOpen = true := by
  rcases c with ⟨_, _, _, _, _, _, _, _, _ | ⟨_ | _, _, _, _⟩, _, _, _⟩ <;> rfl

/-- A second onset at the same cycle changes nothing. -/
theorem onsetTaken_twice (c : Crusher) (now : Long) : (c.onsetTaken now).onsetTaken now = c.onsetTaken now := by
  rcases c with ⟨_, _, _, _, _, _, _, _, _ | ⟨_ | _, _, _, _⟩, _, _, _⟩ <;> rfl

/-- A count over the four splits off one of them. -/
theorem filter_length_split {k : Fin 4} {p q : Fin 4 → Bool} (hq : q k = false) (h : ∀ j, j ≠ k → p j = q j) :
    ((List.finRange 4).filter p).length = (if p k then 1 else 0) + ((List.finRange 4).filter q).length := by
  have hperm := List.perm_cons_erase (List.mem_finRange k)
  have hrest : ((List.finRange 4).erase k).countP p = ((List.finRange 4).erase k).countP q :=
    List.countP_congr fun j hj => by
      rw [h j fun he => (List.nodup_finRange 4).not_mem_erase (he ▸ hj)]
  rw [← List.countP_eq_length_filter, ← List.countP_eq_length_filter, hperm.countP_eq, hperm.countP_eq,
    List.countP_cons, List.countP_cons, hrest, hq]
  simp [Nat.add_comm]

/-- The state after the onset sample of one crusher, of which the others take theirs. -/
theorem onsetsTaken_cons {k : Fin 4} {rest : List (Fin 4)} {s t : State} (h : PlantCauses s)
    (hoff : ∀ k, (s.crusher k).state.isEnabled = false) (ht : OnsetsTaken rest (takeOnset k s) t) :
    OnsetsTaken (k :: rest) s t := by
  obtain ⟨hsame, hcrusher, hcauses⟩ := ht
  have htake := takeOnset_eq h (hoff k)
  have hone (j : Fin 4) : (takeOnset k s).crusher j =
      if k = j ∧ (s.crusher k).state = .standby then (s.crusher k).onsetTaken s.tracker.cycleCount
      else s.crusher j := by
    rw [htake]
    split
    · rename_i hs
      simp only [hs, and_true]
      exact State.crusher_setCrusher s k j _
    · simp [*]
  have hstate (j : Fin 4) : ((takeOnset k s).crusher j).state = (s.crusher j).state := by
    rw [hone]
    split
    · rename_i hkj
      rw [← hkj.1]
      rfl
    · rfl
  refine ⟨?_, fun j => ?_, ?_⟩
  · rw [hsame, htake]
    split <;> rfl
  · have hnow : (takeOnset k s).tracker = s.tracker := by simp
    rw [hcrusher, hstate, hone, hnow]
    by_cases hj : (s.crusher j).state = .standby
    · by_cases hkj : k = j
      · subst hkj
        simp only [hj, and_true, if_true, List.mem_cons, true_or, onsetTaken_twice, ite_self]
      · simp only [hj, and_true, List.mem_cons, hkj, false_and, if_false, Ne.symm hkj, false_or]
    · have hno : ¬(k = j ∧ (s.crusher k).state = .standby) := fun hc => hj (hc.1 ▸ hc.2)
      simp only [hj, and_false, if_false, hno]
  · have hparams : (takeOnset k s).params = s.params := by simp [State.params]
    rw [hparams] at hcauses
    have hfirst : RaisedEach s.params.causeMask
        (fun x => if x = .relief then (if (s.crusher k).opens then 1 else 0) else 0) s.causes
        (takeOnset k s).causes := by
      have hcauses : (takeOnset k s).causes =
          if (s.crusher k).opens then s.causes.raise s.params.causeMask .relief else s.causes := by
        by_cases hs : (s.crusher k).state = .standby
        · have hopens : (s.crusher k).opens = !(s.crusher k).reliefIsOpen := by simp [Crusher.opens, hs]
          rw [htake, if_pos hs, hopens]
          cases (s.crusher k).reliefIsOpen <;> rfl
        · have hopens : (s.crusher k).opens = false := by simp [Crusher.opens, hs]
          rw [htake, if_neg hs, hopens]
          rfl
      rw [hcauses]
      split
      · exact (raisedOnce_raise _ _ _).each fun _ => rfl
      · exact (raisedEach_none _ _).congr fun x => ite_self 0
    refine (hfirst.trans hcauses).congr fun x => ?_
    split
    · have hopened : ((takeOnset k s).crusher k).opens = false := by
        unfold Crusher.opens
        rw [hstate, hone]
        by_cases hs : (s.crusher k).state = .standby <;> simp [hs, onsetTaken_open]
      rw [filter_length_split (k := k) (q := fun j => decide (j ∈ rest) && ((takeOnset k s).crusher j).opens)
        (by rw [hopened, Bool.and_false]) fun j hj => ?_]
      · simp
      · simp [hone, hj, Ne.symm hj]
    · rfl

theorem onsetsTaken_foldl {ks : List (Fin 4)} {s : State} (h : PlantCauses s)
    (hoff : ∀ k, (s.crusher k).state.isEnabled = false) :
    OnsetsTaken ks s (ks.foldl (fun u k => takeOnset k u) s) := by
  induction ks generalizing s with
  | nil => exact ⟨rfl, fun k => by simp, by simpa using raisedEach_none _ _⟩
  | cons k rest ih =>
    refine onsetsTaken_cons h hoff (ih ?_ fun j => ?_)
    · exact h.takeOnset (hoff k)
    · exact takeOnset_off hoff k j

/-! ### The expiry (R27, R31) -/

theorem afterLoss_off (s : State) (k : Fin 4) : ((afterLoss s).crusher k).state.isEnabled = false := by
  rw [crusher_afterLoss, ← standDown_eq]
  exact standDown_off _ _

/-- A loss of lock ends no fault of a crusher and makes no liner due (R45). -/
theorem plantCauses_afterLoss {s : State} (h : PlantCauses s) : PlantCauses (afterLoss s) := by
  have hraised : PlantCauses { s with causes := s.causes.raise s.params.causeMask .lockLost } :=
    h.raised (l := [.lockLost]) rfl rfl (by decide) (by decide)
  refine ⟨hraised.counted, hraised.fault.trans ?_, hraised.due.trans ?_⟩ <;> rw [Bool.eq_iff_iff]
  · rw [levelHolds_crusherFault, levelHolds_crusherFault]
    exact exists_congr fun k => by rw [crusher_afterLoss, ← standDown_eq, standDown_fault]; rfl
  · rw [levelHolds_linerDue, levelHolds_linerDue]
    exact exists_congr fun k => by rw [crusher_afterLoss, ← standDown_eq, standDown_due]; rfl

/-- With no onset sample waiting, the end of lock is its loss. -/
theorem endLock_of_nil {s : State} (h : LineInv s) (hc : CauseInv s) (hw : waitingOnsets s = []) :
    endLock s = afterLoss s := by
  unfold endLock
  rw [hw]
  exact loseLock_eq h hc

/-- With onset samples waiting, lock ends as a loss alone, or as a loss and the samples (R76). -/
theorem endLock_of_waiting {s : State} (h : LineInv s) (hc : CauseInv s) (hw : waitingOnsets s ≠ []) :
    endLock s = { afterLoss s with freeCount := s.freeCount + 1 } ∨
      endLock s =
        (waitingOnsets s).foldl (fun u k => takeOnset k u) { afterLoss s with freeCount := s.freeCount + 1 } := by
  have hlose : loseLock { s with freeCount := s.freeCount + 1 } = { afterLoss s with freeCount := s.freeCount + 1 } :=
    loseLock_eq (h.of_eq rfl rfl rfl rfl) (hc.of_causes_eq rfl fun x => by cases x <;> rfl)
  rcases endLock_cases s with ⟨hnil, -⟩ | ⟨-, ⟨-, he⟩ | ⟨-, he⟩⟩
  · exact absurd hnil hw
  · exact .inl (he.trans hlose)
  · exact .inr (by rw [he, hlose])

/-- Settles O19: an expiry in SEARCH ends the run; in LOCKED it ends lock, with the onset samples that wait or
without. -/
theorem supervisionExpires : Obligations.SupervisionExpires := by
  refine ⟨fun s hs => ?_, fun s hl hsome hline hcause => ?_⟩
  · cases hx : s.tracker.supervision with
    | none => exact congrArg Host.Outcome.next (if_neg (by rw [hx]; decide))
    | some n =>
      have hsearch : s.tracker.lockState = .search := hs.resolve_right (by rw [hx]; simp)
      rw [exec_supervisionExpiry (by rw [hx]; rfl), expireSupervision_search hsearch]
      rfl
  · have hexec : exec .supervisionExpiry s = .next (endLock s) := by
      rw [exec_supervisionExpiry hsome, expireSupervision_locked hl, endLock_supervision]
    rw [hexec]
    refine ⟨afterLoss s, _, raisedOnce_raise _ _ _, rfl, halted_afterLoss s, fun hno => ?_, fun hstore htable =>
      ⟨fun hno => ?_, fun hsome => ?_⟩⟩
    · rw [endLock_of_nil hline hcause (waitingOnsets_eq_nil hno)]
    · rw [endLock_of_nil hline hcause (List.eq_nil_iff_forall_not_mem.2 fun k hk =>
        hno k ((mem_waitingOnsets hstore htable).1 hk))]
    · obtain ⟨k, hk⟩ := hsome
      have hmem (k : Fin 4) := mem_waitingOnsets hstore htable (k := k)
      have hwaits := endLock_of_waiting hline hcause (List.ne_nil_of_mem ((hmem k).2 hk))
      intro drawn isOpen
      obtain ⟨hsame, hcrusher, hcauses⟩ := onsetsTaken_foldl (ks := waitingOnsets s) (s := drawn)
        ((plantCauses_afterLoss hcause.plantCauses).of_eq rfl rfl) (afterLoss_off s)
      refine ⟨fun k => decide (k ∈ waitingOnsets s) && decide (((afterLoss s).crusher k).state = .standby), _,
        fun k => ?_, hsame, fun k => ?_, hcauses.congr fun x => ?_, ?_⟩
      · rw [Bool.and_eq_true, decide_eq_true_iff, decide_eq_true_iff, hmem]
      · rw [hcrusher]
        exact if_congr (by rw [Bool.and_eq_true, decide_eq_true_iff, decide_eq_true_iff]; rfl) rfl rfl
      · simp only [Bool.and_assoc]
        rfl
      · exact hwaits.imp (congrArg _) (congrArg _)

end Sys2Proof.Machine
end

section
/-!
PROOF. Requests that act on one crusher (O31 to O35): what a quiet change of its context does to the part, and the
answers of SET_TARGET, CRUSHER_ENABLE, CRUSHER_DISABLE, FAULT_CLEAR and WEAR_RESET.
-/

namespace Sys2Proof.Machine

/-! ### The index of a request (R172) -/

theorem indexed_fin4 (act : Fin 4 → State → Served) (k : Fin 4) (rest : List Byte) (s : State) :
    indexed act (BitVec.ofNat 8 k.val :: rest) s = act k s := by
  unfold indexed
  rw [arguments_byte, arguments_nil, toNat_ofNat_fin4]
  dsimp only [Option.map_some]
  rw [index4_val]

theorem indexed_above (act : Fin 4 → State → Served) {index : Byte} (h : 3 < index.toNat) (rest : List Byte)
    (s : State) : indexed act (index :: rest) s = answered .badArg s := by
  unfold indexed
  rw [arguments_byte, arguments_nil]
  dsimp only [Option.map_some]
  rw [index4_eq_none.2 h]

/-- A request that changes nothing at the own address: its reply alone. -/
theorem serve_own_refused {s : State} {own : Byte} {payload : List Byte} (h : Consumes s own payload) {fn src : Byte}
    {handed : Bool} {act : List Byte → State → Served} {r : Result} (ha : act payload s.asked = answered r s.asked) :
    receiveAt .m payload (serveRequest fn handed act own src payload) s = s.asked.answer own fn r [] :=
  serve_own_answer h ha (congrArg Relay.mBound s.asked_relay)

/-! ### A quiet change of one context -/

/-- At the own address, a context that stays up takes its new value and nothing else changes. -/
theorem changeCrusher_asked {s : State} (h : CauseInv s) {k : Fin 4} {new : Crusher}
    (hs : StaysUp (s.crusher k) new) :
    changeCrusher k (quiet new) s.asked = { s.asked with crushers := s.crushers.set k new } := by
  rw [changeCrusher_staysUp h.asked.plantCauses (s.asked_crusher k ▸ hs), State.asked_crushers]

/-- A context that does not leave the run states leaves its feeder as it is (R92). -/
theorem feedersAfter_of_still {s : State} {k : Fin 4} {new : Crusher}
    (h : (s.crusher k).state.isRun = true → new.state.isRun = true) : feedersAfter s k new = s.feeders := by
  refine if_neg fun hleft => ?_
  obtain ⟨hrun, hstill⟩ := Bool.and_eq_true_iff.1 hleft
  rw [h hrun] at hstill
  cases hstill

/-- After crusher k alone has taken a new value, a level condition holds for k's new value or for another crusher. -/
theorem exists_setCrusher {s : State} {k : Fin 4} {new : Crusher} {P : Crusher → Prop} :
    (∃ j, P ((s.setCrusher k new).crusher j)) ↔ P new ∨ ∃ j, j ≠ k ∧ P (s.crusher j) := by
  simp only [State.crusher_setCrusher]
  constructor
  · rintro ⟨j, hj⟩
    by_cases hkj : k = j
    · exact .inl (by rwa [if_pos hkj] at hj)
    · exact .inr ⟨j, Ne.symm hkj, by rwa [if_neg hkj] at hj⟩
  · rintro (hnew | ⟨j, hjk, hj⟩)
    · exact ⟨k, by rwa [if_pos rfl]⟩
    · exact ⟨j, by rwa [if_neg (Ne.symm hjk)]⟩

/-- A condition that crusher k's new value meets as its old one did holds of the crushers as before. -/
theorem exists_setCrusher_congr {s : State} {k : Fin 4} {new : Crusher} {P : Crusher → Prop}
    (h : P new ↔ P (s.crusher k)) : (∃ j, P ((s.setCrusher k new).crusher j)) ↔ ∃ j, P (s.crusher j) := by
  refine exists_congr fun j => ?_
  rw [State.crusher_setCrusher]
  split
  · subst_vars; exact h
  · rfl

theorem Crusher.due_iff_isDue (c : Crusher) : c.due = true ↔ c.isDue := c.due_iff

/-- A quiet change of a context that keeps its state bears on LINER_DUE alone (R58). -/
theorem causesAfter_sameState {s : State} (h : PlantCauses s) {k : Fin 4} {new : Crusher}
    (hs : new.state = (s.crusher k).state) :
    causesAfter s k (quiet new) =
      if new.isDue ∨ ∃ j, j ≠ k ∧ (s.crusher j).isDue then
        if new.isDue ∧ ¬(s.crusher k).isDue then s.causes.raise s.params.causeMask .linerDue else s.causes
      else s.causes.cease .linerDue := by
  have hraised : ((s.crusher k).state != .fault && new.state == .fault) = false := by
    rw [hs]; cases (s.crusher k).state <;> rfl
  have hfault : levelHolds .crusherFault (s.setCrusher k new) = levelHolds .crusherFault s := by
    rw [Bool.eq_iff_iff, levelHolds_crusherFault, levelHolds_crusherFault]
    exact exists_setCrusher_congr (P := fun x => x.state = .fault) (by rw [hs])
  have hdue : levelHolds .linerDue (s.setCrusher k new) = true ↔ new.isDue ∨ ∃ j, j ≠ k ∧ (s.crusher j).isDue := by
    rw [levelHolds_linerDue]
    simp only [Crusher.due_iff_isDue]
    exact exists_setCrusher (P := Crusher.isDue)
  have hbecomes : (!(s.crusher k).due && new.due) = true ↔ new.isDue ∧ ¬(s.crusher k).isDue := by
    rw [Bool.and_eq_true, Bool.not_eq_true', ← Bool.not_eq_true, Crusher.due_iff_isDue, Crusher.due_iff_isDue, and_comm]
  have hcounted : ∀ u : CauseUnit, (u = s.causes ∨ u = s.causes.raise s.params.causeMask .linerDue) →
      (if levelHolds .crusherFault s = true then u else u.cease .crusherFault) = u := by
    intro u hu
    split
    · rfl
    · rename_i hl
      have hpending : (s.causes.entry .crusherFault).pending = false := h.fault.trans (Bool.eq_false_iff.2 hl)
      rcases hu with rfl | rfl
      · exact h.counted.cease_eq hpending
      · refine (h.counted.raise _ _).cease_eq ?_
        rw [CauseUnit.entry_raise, if_neg (by decide), hpending]
  unfold causesAfter quiet
  dsimp only
  rw [hraised, hfault]
  simp only [List.foldl_nil, Bool.false_eq_true, if_false, hdue, hbecomes]
  rw [hcounted _ (by split <;> simp)]
  by_cases hany : new.isDue ∨ ∃ j, j ≠ k ∧ (s.crusher j).isDue
  · rw [if_pos hany, if_pos hany]
  · rw [if_neg hany, if_neg hany, if_neg fun hb => hany (.inl hb.1)]

theorem linerCause_causesAfter {s : State} (h : PlantCauses s) {k : Fin 4} {new : Crusher}
    (hs : new.state = (s.crusher k).state) : LinerCause s k new (causesAfter s k (quiet new)) := by
  rw [causesAfter_sameState h hs]
  refine ⟨fun hnew hold => ?_, fun hno hany => ?_, fun hnew hothers => ?_⟩
  · rw [if_pos (.inl hnew), if_pos ⟨hnew, hold⟩]
    exact raisedOnce_raise _ _ _
  · rw [if_pos hany, if_neg hno]
  · rw [if_neg (not_or.2 ⟨hnew, hothers⟩)]
    exact ⟨fun x hx => by rw [CauseUnit.entry_cease, if_neg hx], by rw [CauseUnit.entry_cease, if_pos rfl], rfl, rfl,
      rfl⟩

/-- At the own address, a context that keeps its state takes its new value, and LINER_DUE follows it. -/
theorem changeCrusher_asked_sameState {s : State} {k : Fin 4} {new : Crusher}
    (hs : new.state = (s.crusher k).state) :
    changeCrusher k (quiet new) s.asked =
      { s.asked with
        crushers := s.crushers.set k new
        causes := causesAfter s.asked k (quiet new) } := by
  rw [changeCrusher_eq, feedersAfter_of_still (by rw [State.asked_crusher]; exact fun h => hs ▸ h),
    State.asked_crushers]
  rfl

/-- What the crushers make of the causes is the same at the own address. -/
theorem LinerCause.of_asked {s : State} {k : Fin 4} {new : Crusher} {u : CauseUnit}
    (h : LinerCause s.asked k new u) : LinerCause s k new u := by
  obtain ⟨hraised, hkept, hceased⟩ := h
  simp only [State.asked_crusher, State.asked_params, State.asked_causes] at hraised hkept hceased
  exact ⟨hraised, hkept, hceased⟩

/-! ### SET_TARGET (R47, R54) -/

/-- Settles O31: the target is clamped, and the context keeps its state and whether it is due. -/
theorem setTarget : Obligations.SetTarget := by
  intro s own src index hi lo rest hcause h
  have hargs : arguments [1, 2] (index :: hi :: lo :: rest) = some [index.toNat, hi.toNat * 256 + lo.toNat] := by
    rw [arguments_byte, arguments_word, arguments_nil]
    rfl
  refine ⟨fun k hk => congrArg Host.Outcome.next ?_, fun hindex => congrArg Host.Outcome.next ?_⟩
  · split
    · rename_i habsent
      refine serve_own_refused h (act := setTargetAct) ?_
      unfold setTargetAct
      rw [hargs, hk]
      dsimp only
      rw [index4_val]
      dsimp only
      rw [State.asked_crusher, if_pos habsent]
    · rename_i hpresent
      refine serve_own_answer h (act := setTargetAct) ?_ (congrArg Relay.mBound s.asked_relay)
      unfold setTargetAct
      rw [hargs, hk]
      dsimp only
      rw [index4_val]
      dsimp only
      rw [State.asked_crusher, if_neg hpresent,
        changeCrusher_asked hcause (.same (retarget_due _ _) (retarget_state _ _))]
      rfl
  · refine serve_own_refused h (act := setTargetAct) ?_
    unfold setTargetAct
    rw [hargs]
    dsimp only
    rw [index4_eq_none.2 hindex]

/-! ### CRUSHER_ENABLE (R43, R74) -/

/-- Outside RUN the command is refused before its index is judged; in RUN the index decides. -/
theorem crusherEnableAct_byte (index : Byte) (rest : List Byte) (s : State) :
    crusherEnableAct (index :: rest) s =
      if s.line.lineMode ≠ .run then answered .wrongMode s
      else
        indexed
          (fun k s =>
            match (s.crusher k).state with
            | .standby => answered .done (changeCrusher k (quiet (enable (s.crusher k))) s)
            | .run | .move | .relief | .recover => answered .done s
            | .absent | .fault => answered .wrongMode s)
          (index :: rest) s := by
  unfold crusherEnableAct
  rw [arguments_byte, arguments_nil]
  exact if_neg (by simp)

theorem enable_staysUp {x : Crusher} (hs : x.state = .standby) : StaysUp x (enable x) := by
  have hnot : (enable x).state ≠ .fault := by
    unfold enable
    split
    · exact nofun
    · split <;> exact nofun
  exact ⟨enable_due x, by simp [hs, hnot], by simp [hs, CrusherState.isRun]⟩

theorem enable_eq (x : Crusher) :
    enable x =
      match x.reliefRec with
      | none => { x with state := .run }
      | some r =>
        if r.phase = ReliefPhase.opened then { x with state := .relief }
        else { x with state := .recover, settleCount := x.params.settleCycles } := by
  rcases x with ⟨_, _, _, _, _, _, _, _, _ | ⟨_ | _, _, _, _⟩, _, _, _⟩ <;> rfl

/-- Settles O32: by the line mode, then by the state of the crusher. -/
theorem crusherEnable : Obligations.CrusherEnable := by
  refine ⟨fun s own src k rest hcause h => congrArg Host.Outcome.next ?_,
    fun s own src index rest h hindex => congrArg Host.Outcome.next ?_,
    fun s own src h => congrArg Host.Outcome.next (serve_own_refused h (act := crusherEnableAct) rfl)⟩
  · have hact := crusherEnableAct_byte (BitVec.ofNat 8 k.val) rest s.asked
    rw [indexed_fin4, State.asked_line, State.asked_crusher] at hact
    by_cases hmode : s.line.lineMode = .run
    · rw [if_neg (not_not.2 hmode)] at hact
      cases hs : (s.crusher k).state with
      | standby =>
        rw [hs] at hact
        rw [if_neg (by simp [hmode]), if_pos rfl]
        refine serve_own_answer h (act := crusherEnableAct) (hact.trans ?_) (congrArg Relay.mBound s.asked_relay)
        dsimp only
        rw [changeCrusher_asked hcause (enable_staysUp hs), enable_eq]
        rfl
      | absent | fault =>
        rw [hs] at hact
        rw [if_pos (by simp)]
        exact serve_own_refused h (act := crusherEnableAct) hact
      | run | move | relief | recover =>
        rw [hs] at hact
        rw [if_neg (by simp [hmode]), if_neg nofun]
        exact serve_own_refused h (act := crusherEnableAct) hact
    · rw [if_pos hmode] at hact
      rw [if_pos (.inl hmode)]
      exact serve_own_refused h (act := crusherEnableAct) hact
  · refine serve_own_refused h (act := crusherEnableAct) ?_
    rw [crusherEnableAct_byte, indexed_above _ hindex, State.asked_line]
    by_cases hmode : s.line.lineMode = .run <;> simp [hmode]

/-! ### CRUSHER_DISABLE (R40, R44, R92) -/

/-- A disable takes an enabled context out of the run states, with its feeder, or out of RELIEF. -/
theorem changeCrusher_standDown {s : State} (h : PlantCauses s) {k : Fin 4} (g : Bool)
    (hs : (s.crusher k).state.isEnabled = true) :
    changeCrusher k (quiet (standDown g (s.crusher k))) s =
      { s with
        crushers := s.crushers.set k (standDown g (s.crusher k))
        feeders :=
          if (s.crusher k).state = .relief then s.feeders
          else s.feeders.set k ((s.feeder k).zeroed s.activeTable k) } := by
  have hcauses := causes_changeCrusher_quiet (new := standDown g (s.crusher k)) h (standDown_due _ _)
    (standDown_fault _ _)
  rw [changeCrusher_eq] at hcauses ⊢
  dsimp only at hcauses
  have hstandby : (standDown g (s.crusher k)).state = .standby := by
    unfold standDown
    rw [if_pos hs]
  have hfeeders : feedersAfter s k (standDown g (s.crusher k)) =
      if (s.crusher k).state = .relief then s.feeders
      else s.feeders.set k ((s.feeder k).zeroed s.activeTable k) := by
    unfold feedersAfter
    rw [hstandby]
    cases hc : (s.crusher k).state with
    | run | move | recover | relief => rfl
    | absent | standby | fault => rw [hc] at hs; cases hs
  rw [hcauses, show (quiet (standDown g (s.crusher k))).crusher = standDown g (s.crusher k) from rfl, hfeeders]

theorem standDown_of_enabled {g : Bool} {x : Crusher} (hs : x.state.isEnabled = true) :
    standDown g x =
      { x with
        state := .standby, settleCount := 0, moveRec := none
        command :=
          if x.moveRec.isSome ∨ g = true then { kind := .stop, seq := x.moveSeq, step := 0 } else x.command } := by
  rw [standDown_eq, Crusher.stoodDown, if_pos (by cases hx : x.state <;> simp_all [CrusherState.isEnabled])]
  simp only [Bool.or_eq_true]

/-- Settles O33: an enabled crusher stands down, one in STANDBY or FAULT stays. -/
theorem crusherDisable : Obligations.CrusherDisable := by
  refine ⟨fun s own src k rest hcause h => congrArg Host.Outcome.next ?_,
    fun s own src index rest h hindex =>
      congrArg Host.Outcome.next (serve_own_refused h (act := crusherDisableAct) (indexed_above _ hindex _ _))⟩
  have hact : crusherDisableAct (BitVec.ofNat 8 k.val :: rest) s.asked =
      if (s.crusher k).state = .absent then answered .wrongMode s.asked
      else answered .done (changeCrusher k (quiet (standDown (governed s.activeTable k) (s.crusher k))) s.asked) := by
    refine (indexed_fin4 _ k rest s.asked).trans ?_
    rw [State.asked_crusher, State.governed, State.asked_activeTable]
  have hplant := hcause.asked.plantCauses
  cases hs : (s.crusher k).state.isEnabled with
  | false =>
    have hself : standDown (governed s.activeTable k) (s.crusher k) = s.asked.crusher k := by
      rw [State.asked_crusher]
      exact if_neg (by rw [hs]; decide)
    rw [hself, changeCrusher_self hplant] at hact
    cases hst : (s.crusher k).state with
    | absent | standby | fault => rw [hst] at hact; exact serve_own_refused h hact
    | run | move | recover | relief => rw [hst] at hs; cases hs
  | true =>
    rw [if_neg (by intro ha; rw [ha] at hs; cases hs)] at hact ⊢
    rw [if_neg (by rintro (ha | ha) <;> rw [ha] at hs <;> cases hs)]
    refine serve_own_answer h (act := crusherDisableAct) (hact.trans ?_) (congrArg Relay.mBound s.asked_relay)
    have hchange := changeCrusher_standDown hplant (k := k) (governed s.activeTable k)
      (by rw [State.asked_crusher]; exact hs)
    have hzeroed : (s.asked.feeder k).zeroed s.asked.activeTable k = (s.feeder k).zeroed s.activeTable k := by
      rw [State.asked_feeder, State.asked_activeTable]
    rw [State.asked_crusher, standDown_of_enabled hs, State.asked_crushers, State.asked_feeders, hzeroed] at hchange
    rw [standDown_of_enabled hs]
    exact congrArg (answered .done) hchange

/-! ### FAULT_CLEAR (R46) -/

/-- A quiet change that takes a crusher out of FAULT and keeps whether it is due ends CRUSHER_FAULT where no other
crusher is in FAULT, and touches no other cause. -/
theorem causesAfter_faultLeft {s : State} (h : PlantCauses s) {k : Fin 4} {new : Crusher}
    (hd : new.due = (s.crusher k).due) (hn : new.state ≠ .fault) :
    causesAfter s k (quiet new) =
      if ∃ j, j ≠ k ∧ (s.crusher j).state = .fault then s.causes else s.causes.cease .crusherFault := by
  have hraised : ((s.crusher k).state != .fault && new.state == .fault) = false := by
    simp [hn]
  have hbecomes : (!(s.crusher k).due && new.due) = false := by rw [hd, Bool.not_and_self]
  have hfault : levelHolds .crusherFault (s.setCrusher k new) = true ↔
      ∃ j, j ≠ k ∧ (s.crusher j).state = .fault := by
    rw [levelHolds_crusherFault]
    exact (exists_setCrusher (P := fun x => x.state = .fault)).trans (or_iff_right hn)
  have hdue : levelHolds .linerDue (s.setCrusher k new) = levelHolds .linerDue s := by
    rw [Bool.eq_iff_iff, levelHolds_linerDue, levelHolds_linerDue]
    exact exists_setCrusher_congr (P := fun x => x.due = true) (by rw [hd])
  unfold causesAfter quiet
  dsimp only
  rw [hraised, hbecomes, hdue]
  simp only [List.foldl_nil, Bool.false_eq_true, if_false, hfault]
  split
  · rfl
  · rename_i hl
    have hpending : (s.causes.entry .linerDue).pending = false := h.due.trans (Bool.eq_false_iff.2 hl)
    split
    · exact h.counted.cease_eq hpending
    · refine (h.counted.cease _).cease_eq ?_
      rw [CauseUnit.entry_cease, if_neg (by decide), hpending]

/-- Settles O34: the crusher leaves FAULT, and CRUSHER_FAULT with it if it was the last. -/
theorem faultClear : Obligations.FaultClear := by
  refine ⟨fun s own src k rest hcause h => ⟨fun hs => congrArg Host.Outcome.next ?_, fun hs => ?_⟩,
    fun s own src index rest h hindex =>
      congrArg Host.Outcome.next (serve_own_refused h (act := faultClearAct) (indexed_above _ hindex _ _)),
    fun s own src h => congrArg Host.Outcome.next (serve_own_refused h (act := faultClearAct) rfl)⟩
  · refine serve_own_refused h (act := faultClearAct) ((indexed_fin4 _ k rest s.asked).trans ?_)
    rw [State.asked_crusher, if_neg hs]
  · have hplant := hcause.asked.plantCauses
    have hcauses := causesAfter_faultLeft (new := clearFault (governed s.activeTable k) (s.crusher k)) hplant (k := k)
      (by rw [State.asked_crusher]; rfl) nofun
    simp only [State.asked_crusher, State.asked_causes] at hcauses
    refine ⟨causesAfter s.asked k (quiet (clearFault (governed s.activeTable k) (s.crusher k))),
      congrArg Host.Outcome.next (serve_own_answer h (act := faultClearAct)
        ((indexed_fin4 _ k rest s.asked).trans ?_) (congrArg Relay.mBound s.asked_relay)), ?_⟩
    · rw [State.asked_crusher, if_pos hs, State.governed, State.asked_activeTable, changeCrusher_eq,
        feedersAfter_of_still (by rw [State.asked_crusher, hs]; exact nofun),
        State.asked_crushers]
      rfl
    · rw [hcauses]
      split
      · exact ⟨fun _ _ => rfl, rfl, rfl, rfl⟩
      · exact ⟨fun x hx => by rw [CauseUnit.entry_cease, if_neg hx], rfl, rfl, by
          rw [CauseUnit.entry_cease, if_pos rfl]⟩

/-! ### WEAR_RESET (R58, R59) -/

/-- Settles O35: a crusher whose wear is reset is not due, so that LINER_DUE stays for the others or ceases. -/
theorem wearReset : Obligations.WearReset := by
  refine ⟨fun s own src k rest hcause hcrusher h => ?_, fun s own src index rest h hindex =>
    congrArg Host.Outcome.next (serve_own_refused h (act := wearResetAct) (indexed_above _ hindex _ _))⟩
  have hnot : ¬(resetWear (s.crusher k)).isDue := by
    have hrange : inRange 1 65535 (s.crusher k).params.linerLimit = true :=
      (hcrusher.context k).params _ (by simp [CrusherParams.checks])
    have hlimit : 1 ≤ (s.crusher k).params.linerLimit := of_decide_eq_true (Bool.and_eq_true_iff.1 hrange).1
    rintro (hwear | hblocked)
    · exact absurd (hlimit.trans hwear) (Nat.not_succ_le_zero 0)
    · cases hblocked
  have hliner := LinerCause.of_asked (linerCause_causesAfter hcause.asked.plantCauses (k := k)
    (new := resetWear (s.crusher k)) (by rw [State.asked_crusher]; rfl))
  refine ⟨causesAfter s.asked k (quiet (resetWear (s.crusher k))), congrArg Host.Outcome.next
    (serve_own_answer h (act := wearResetAct) ((indexed_fin4 _ k rest s.asked).trans ?_)
      (congrArg Relay.mBound s.asked_relay)), ?_⟩
  · rw [State.asked_crusher, changeCrusher_asked_sameState (new := resetWear (s.crusher k)) rfl]
    rfl
  · split
    · rename_i hothers
      rw [hliner.kept (fun hb => hnot hb.1) (.inr hothers)]
      exact ⟨fun _ _ => rfl, rfl, rfl, rfl⟩
    · rename_i hothers
      obtain ⟨hentries, hdue, hattention, hsequence, -⟩ := hliner.ceased hnot hothers
      exact ⟨hentries, hattention, hsequence, hdue⟩

end Sys2Proof.Machine
end

section
/-!
PROOF. WRITE_CRUSHER (O28) and DRY_RUN (O43): the arguments and the checks of Table 3-2, the target clamped into the new
window, and the change of the flag as the four contexts take it.
-/

namespace Sys2Proof.Machine

/-! ### The arguments of WRITE_CRUSHER (R172, Table 3-2) -/

/-- The curve id, or none, that the byte of an argument codes. -/
def curveOf (curve : Byte) : Option (Fin 8) := (curveArg curve.toNat).getD none

theorem curveArg_isSome (curve : Byte) :
    (curveArg curve.toNat).isSome = decide (curve.toNat ≤ 7 ∨ curve = 0xFF) := by
  have hff : curve = 0xFF ↔ curve.toNat = 255 := by rw [← BitVec.toNat_inj]; rfl
  rw [Bool.eq_iff_iff, decide_eq_true_iff, hff]
  unfold curveArg
  split
  · simp; omega
  · split <;> simp <;> omega

/-- A byte that codes a curve or none is the code of that curve or none. -/
theorem curve_eq_code {curve : Byte} (h : (curveArg curve.toNat).isSome = true) :
    curve = (curveOf curve).elim 0xFF fun i => BitVec.ofNat 8 i.val := by
  unfold curveOf
  unfold curveArg at h ⊢
  split
  · simp
  · split
    · rename_i hn
      exact BitVec.eq_of_toNat_eq hn
    · simp_all

theorem curveArg_code (id : Option (Fin 8)) :
    curveArg (id.elim (0xFF : Byte) fun i => BitVec.ofNat 8 i.val).toNat = some id := by
  cases id with
  | none => rfl
  | some i =>
    have hi := i.isLt
    have hcode : (BitVec.ofNat 8 i.val).toNat = i.val := by simp; omega
    simp [curveArg, hcode]

theorem crusherArgs_wire {p : CrusherParams} (hp : p.sized) (k : Fin 4) (curve : Byte) (rest : List Byte) :
    (arguments crusherWidths (BitVec.ofNat 8 k.val :: (p.wire curve ++ rest))).bind crusherArgs =
      some (k.val, { p with loadCurve := curveOf curve }, (curveArg curve.toNat).isSome) := by
  obtain ⟨hwords, hbytes⟩ := hp
  simp only [List.mem_cons, List.not_mem_nil, or_false, forall_eq_or_imp, forall_eq] at hwords hbytes
  obtain ⟨hcssMin, hcssMax, hmoveTimeout, hmoveCap, hmoveLoadMax, hrecoverCap, hreliefPressure, hreliefClear,
    hlinerLimit, hratedPower, hlevelTarget⟩ := hwords
  obtain ⟨hdeadband, hstepMax, hsettleCycles, hreliefClearCount, hreliefLimit, hlevelGain⟩ := hbytes
  unfold crusherWidths CrusherParams.wire
  simp only [List.append_assoc, List.cons_append, List.nil_append]
  rw [arguments_byte, arguments_beBytes hcssMin, arguments_beBytes hcssMax, arguments_beBytes hdeadband,
    arguments_beBytes hstepMax, arguments_beBytes hsettleCycles, arguments_beBytes hmoveTimeout,
    arguments_beBytes hmoveCap, arguments_beBytes hmoveLoadMax, arguments_beBytes hrecoverCap,
    arguments_beBytes hreliefPressure, arguments_beBytes hreliefClear, arguments_beBytes hreliefClearCount,
    arguments_beBytes hreliefLimit, arguments_beBytes hlinerLimit, arguments_beBytes hratedPower, arguments_byte,
    arguments_beBytes hlevelTarget, arguments_beBytes hlevelGain, arguments_nil, toNat_ofNat_fin4]
  rfl

/-- The checks of the model are the rows of Table 3-2. -/
theorem rows_eq_checks (p : CrusherParams) (curve : Byte) :
    p.rows curve = p.checks (curveArg curve.toNat).isSome := by
  unfold CrusherParams.rows CrusherParams.checks inRange
  simp only [curveArg_isSome, Bool.decide_and, Bool.and_assoc, Nat.zero_le, decide_true, Bool.true_and]

/-- Parameters within the rows of Table 3-2 fit the bytes of their arguments. -/
theorem sized_of_checks {p : CrusherParams} (h : ∀ ok ∈ p.checks true, ok = true) : p.sized := by
  simp only [CrusherParams.checks, List.mem_cons, List.not_mem_nil, or_false, forall_eq_or_imp, forall_eq, inRange,
    Bool.and_eq_true, decide_eq_true_iff] at h
  unfold CrusherParams.sized
  simp only [List.mem_cons, List.not_mem_nil, or_false, forall_eq_or_imp, forall_eq]
  omega

/-- The first false among some checks is the one that is named. -/
theorem firstFailing_of_getElem {base n : Nat} {checks : List Bool} (hn : checks[n]? = some false)
    (hm : ∀ m, m < n → checks[m]? = some true) : firstFailing base checks = some (base + n) := by
  have hjudges : Judges checks fun m => checks[m]? = some true := fun m hlt _ => by simp [hlt]
  refine hjudges.eq_some.2 ⟨?_, hm, by simp [hn]⟩
  obtain ⟨hlt, -⟩ := List.getElem?_eq_some_iff.1 hn
  exact hlt

/-! ### WRITE_CRUSHER (R38, R48) -/

/-- The request once its arguments are read: the checks in their order, then the write. -/
theorem writeCrusherAct_wire {p : CrusherParams} (hp : p.sized) (k : Fin 4) (curve : Byte) (rest : List Byte)
    (s : State) :
    writeCrusherAct (BitVec.ofNat 8 k.val :: (p.wire curve ++ rest)) s =
      match firstFailing 1 (p.rows curve) with
      | some position => badParameter position s
      | none =>
        let new := writeParams { p with loadCurve := curveOf curve } (s.crusher k)
        answered (if new.cssTarget = (s.crusher k).cssTarget then .done else .clamped)
          (changeCrusher k (quiet new) s) := by
  unfold writeCrusherAct
  rw [crusherArgs_wire hp]
  dsimp only
  rw [index4_val, rows_eq_checks]
  rfl

/-- Parameters that pass every check are written. -/
theorem writeCrusherAct_passed {p : CrusherParams} (h : ∀ ok ∈ p.checks true, ok = true) (k : Fin 4)
    (rest : List Byte) (s : State) :
    writeCrusherAct (BitVec.ofNat 8 k.val :: (codeCrusherParams p ++ rest)) s =
      answered (if (writeParams p (s.crusher k)).cssTarget = (s.crusher k).cssTarget then .done else .clamped)
        (changeCrusher k (quiet (writeParams p (s.crusher k))) s) := by
  have hpass : firstFailing 1 (p.rows (p.loadCurve.elim 0xFF fun i => BitVec.ofNat 8 i.val)) = none := by
    rw [rows_eq_checks, curveArg_code]
    exact firstFailing_eq_none.2 h
  have hcurve : curveOf (p.loadCurve.elim 0xFF fun i => BitVec.ofNat 8 i.val) = p.loadCurve := by
    unfold curveOf
    rw [curveArg_code]
    rfl
  rw [codeCrusherParams_eq, writeCrusherAct_wire (sized_of_checks h), hpass, hcurve]

/-- The parameters written and the target re-clamped, field by field (R47, R48, R54). -/
theorem writeParams_eq (p : CrusherParams) (x : Crusher) :
    writeParams p x =
      { x with
        params := p
        cssTarget := clamp p.cssMin p.cssMax x.cssTarget
        targetSettled := if clamp p.cssMin p.cssMax x.cssTarget = x.cssTarget then x.targetSettled else false
        moveRec :=
          if clamp p.cssMin p.cssMax x.cssTarget = x.cssTarget then x.moveRec
          else
            x.moveRec.map fun (m : Move) =>
              if m.phase = MovePhase.waiting ∧ m.cause = MoveCause.wear then { m with cause := .target } else m } := by
  unfold writeParams retarget
  by_cases hsame : clamp p.cssMin p.cssMax x.cssTarget = x.cssTarget <;> simp [hsame]

theorem writeParams_state (p : CrusherParams) (x : Crusher) : (writeParams p x).state = x.state :=
  retarget_state _ _

theorem writeParams_cssTarget (p : CrusherParams) (x : Crusher) :
    (writeParams p x).cssTarget = clamp p.cssMin p.cssMax x.cssTarget := by
  rw [writeParams_eq]

/-- The index is the first argument, whatever the others are. -/
theorem crusherArgs_cons {k n : Nat} {p : CrusherParams} {ok : Bool} {args : List Nat}
    (h : crusherArgs (k :: args) = some (n, p, ok)) : n = k := by
  unfold crusherArgs at h
  split at h
  · rename_i hargs
    obtain ⟨rfl, -⟩ := List.cons.inj hargs
    cases h
    rfl
  · cases h

theorem writeCrusherAct_short {payload : List Byte} (h : payload.length < 30) (s : State) :
    writeCrusherAct payload s = answered .badArg s := by
  have hnone : arguments crusherWidths payload = none := by
    cases hargs : arguments crusherWidths payload with
    | none => rfl
    | some args =>
      have hsum : 30 ≤ payload.length := (arguments_sum_le hargs).1
      omega
  unfold writeCrusherAct
  rw [hnone]
  rfl

theorem writeCrusherAct_above {index : Byte} (h : 3 < index.toNat) (rest : List Byte) (s : State) :
    writeCrusherAct (index :: rest) s = answered .badArg s := by
  unfold writeCrusherAct
  split
  · rename_i k p ok hargs
    have hk : k = index.toNat := by
      rw [show crusherWidths = 1 :: crusherWidths.tail from rfl, arguments_byte] at hargs
      obtain ⟨args, hsome, hcons⟩ := Option.bind_eq_some_iff.1 hargs
      obtain ⟨others, -, rfl⟩ := Option.map_eq_some_iff.1 hsome
      exact crusherArgs_cons hcons
    rw [hk, index4_eq_none.2 h]
  · rfl

/-- After a quiet change of a context that keeps its state, LINER_DUE alone may have changed, and is pending exactly
while some crusher is due (R58). -/
theorem linerDue_of_sameState {s : State} (h : PlantCauses s) {k : Fin 4} {new : Crusher}
    (hs : new.state = (s.crusher k).state) :
    (∀ x, x ≠ .linerDue → (causesAfter s k (quiet new)).entry x = s.causes.entry x) ∧
      (((causesAfter s k (quiet new)).entry .linerDue).pending = true ↔
        new.isDue ∨ ∃ j : Fin 4, j ≠ k ∧ (s.crusher j).isDue) := by
  constructor
  · intro x hx
    rw [causesAfter_sameState h hs]
    split
    · split
      · rw [CauseUnit.entry_raise, if_neg hx]
      · rfl
    · rw [CauseUnit.entry_cease, if_neg hx]
  · rw [causesAfter_linerDue h.due (by simp [quiet]), levelHolds_linerDue]
    simp only [Crusher.due_iff_isDue]
    exact exists_setCrusher (P := Crusher.isDue)

/-- Settles O28: the arguments are read and checked in their order, then written over the context. -/
theorem writeCrusher : Obligations.WriteCrusher := by
  refine ⟨fun s own src k p rest hchecks h hcause => ?_, fun p curve hp => ⟨fun hrows => ?_,
    fun s own src k rest n h hn hm => congrArg Host.Outcome.next ?_⟩, fun s own src payload h hbad => ?_⟩
  · have hplant := hcause.asked.plantCauses
    have hstate : (writeParams p (s.crusher k)).state = (s.asked.crusher k).state := by
      rw [writeParams_state, State.asked_crusher]
    have hact := writeCrusherAct_passed hchecks k rest s.asked
    rw [State.asked_crusher, changeCrusher_asked_sameState (writeParams_state _ _), writeParams_cssTarget] at hact
    have hserved := serve_own_answer (src := src) (fn := 0x04) (handed := true) h hact
      (congrArg Relay.mBound s.asked_relay)
    have hliner := (linerCause_causesAfter hplant hstate).of_asked
    obtain ⟨hothers, hpending⟩ := linerDue_of_sameState hplant hstate
    simp only [State.asked_crusher, State.asked_causes] at hothers hpending
    rw [writeParams_eq] at hserved hliner hothers hpending
    exact ⟨_, congrArg Host.Outcome.next hserved, hliner, hothers, hpending⟩
  · rw [rows_eq_checks] at hrows
    have hsome : (curveArg curve.toNat).isSome = true := hrows _ (by simp [CrusherParams.checks])
    have hcode := curve_eq_code hsome
    refine ⟨curveOf curve, ?_, ?_, fun ok hok => hrows ok (hsome ▸ hok)⟩
    · cases hc : curveOf curve <;> rw [hc] at hcode <;> exact hcode
    · rw [codeCrusherParams_eq]
      exact congrArg p.wire hcode
  · refine serve_own_answer h (act := writeCrusherAct) ?_ (congrArg Relay.mBound s.asked_relay)
    rw [writeCrusherAct_wire hp, firstFailing_of_getElem hn hm, Nat.add_comm]
    simp [badParameter, code1, beBytes]
  · refine congrArg Host.Outcome.next (serve_own_refused h (act := writeCrusherAct) ?_)
    rcases hbad with hshort | ⟨index, rest, rfl, hindex⟩
    · exact writeCrusherAct_short hshort _
    · exact writeCrusherAct_above hindex _ _

/-! ### DRY_RUN (R61, R73, R176) -/

/-- What a context makes of a change of the flag (R61). -/
def Crusher.takesDryRun (on : Bool) (x : Crusher) : Crusher := if on then dryRunOn x else dryRunOff x

theorem takesDryRun_staysUp (on : Bool) (x : Crusher) : StaysUp x (x.takesDryRun on) := by
  cases on with
  | false => exact .same rfl rfl
  | true =>
    show StaysUp x (dryRunOn x)
    unfold dryRunOn
    split
    · by_cases hm : x.state = .move
      · exact .of_run rfl (by rw [hm]; rfl) (by simp [CrusherState.afterMove, hm, CrusherState.isRun])
      · refine .same rfl ?_
        show x.state.afterMove = x.state
        cases hs : x.state with
        | move => exact absurd hs hm
        | absent | standby | run | relief | recover | fault => rfl
    · exact .same rfl rfl

/-- A change of the flag touches the flag and the contexts, each by itself. -/
theorem changeDryRun_eq {s : State} (h : PlantCauses s) (on : Bool) :
    changeDryRun on s =
        { s with handler := { s.handler with dryRun := on }, crushers := (changeDryRun on s).crushers } ∧
      ∀ k, (changeDryRun on s).crusher k = (s.crusher k).takesDryRun on := by
  have hset : PlantCauses { s with handler := { s.handler with dryRun := on } } := h.of_eq rfl rfl
  refine ⟨?_, crusher_forFour (fun _ _ x => quiet (x.takesDryRun on)) (fun _ _ => rfl) _⟩
  refine (forFour_induct (fun t => PlantCauses t ∧
    t = { s with handler := { s.handler with dryRun := on }, crushers := t.crushers }) ⟨hset, rfl⟩
    fun k t ht => ?_).2
  obtain ⟨hplant, hsame⟩ := ht
  refine ⟨hplant.changeCrusher (by simp [quiet]), ?_⟩
  show changeCrusher k (quiet ((t.crusher k).takesDryRun on)) t =
    { s with
      handler := { s.handler with dryRun := on }
      crushers := (changeCrusher k (quiet ((t.crusher k).takesDryRun on)) t).crushers }
  rw [changeCrusher_staysUp hplant (takesDryRun_staysUp on (t.crusher k))]
  generalize t.crushers.set k _ = contexts
  rw [hsame]

theorem dryRunAct_flag (on : Bool) (rest : List Byte) (s : State) :
    dryRunAct ((if on then 1 else 0) :: rest) s = takeDryRun on s := by
  unfold dryRunAct
  rw [arguments_byte, arguments_nil]
  cases on <;> rfl

theorem takesDryRun_eq (on : Bool) (x : Crusher) :
    x.takesDryRun on =
      if on then
        if x.moveRec.isSome then
          { x with
            moveRec := none
            command := { kind := .stop, seq := x.moveSeq, step := 0 }
            settleCount := x.params.settleCycles
            state := if x.state = .move then .run else x.state }
        else x
      else { x with proposedStep := none } := by
  have hafter : x.state.afterMove = if x.state = .move then .run else x.state := by
    cases hs : x.state <;> rfl
  unfold Crusher.takesDryRun dryRunOn
  rw [hafter]
  rfl

/-- Settles O43: the setting held changes nothing; another is taken by each context. -/
theorem dryRun : Obligations.DryRun := by
  intro s own src on rest hcause h
  have hact := dryRunAct_flag on rest s.asked
  unfold takeDryRun at hact
  rw [State.asked_dryRun] at hact
  have hserved {t : State} (ht : (if on = s.handler.dryRun then s.asked else changeDryRun on s.asked) = t)
      (hr : t.relay = s.relay) :
      exec (.dryRun own src ((if on then 1 else 0) :: rest)) s =
        .next (t.answer own 0x12 .done [if on then 1 else 0]) := by
    rw [ht] at hact
    exact congrArg Host.Outcome.next (serve_own_answer h hact (congrArg Relay.mBound hr))
  by_cases hsame : on = s.handler.dryRun
  · refine ⟨s.asked, hserved (if_pos hsame) s.asked_relay, ?_, fun k => ?_⟩
    · rw [hsame, ← State.asked_dryRun]
    · rw [if_pos hsame, State.asked_crusher]
  · obtain ⟨hrest, hcrusher⟩ := changeDryRun_eq hcause.asked.plantCauses on
    refine ⟨changeDryRun on s.asked, hserved (if_neg hsame) ?_, hrest, fun k => ?_⟩
    · rw [hrest]
      exact s.asked_relay
    · rw [if_neg hsame, hcrusher, State.asked_crusher, takesDryRun_eq]

end Sys2Proof.Machine
end

section
/-!
PROOF. The trip inputs and their evaluation (O13): what R132 finds active, and what R133 makes of it.
-/

namespace Sys2Proof.Machine

/-! ### The inputs found active (R132) -/

theorem tripInputs_pin (s : State) : (tripInputs s).pin = s.pins.tripInLow := by
  unfold tripInputs
  split
  · split
    · split <;> rfl
    · rfl
  · rfl

/-- Without a TRIP_UNIT entry the pin alone can be active. -/
theorem tripInputs_of_noUnit {s : State} (h : hasRole s.activeTable .tripUnit = false) :
    tripInputs s = { pin := s.pins.tripInLow, unitLine := false, unitStale := false, lines := 0 } := by
  unfold tripInputs
  rw [h]
  rfl

/-- The record of the TRIP_UNIT entry decides the other two. -/
theorem tripInputs_of_record {s : State} {rec : Record} (hrole : hasRole s.activeTable .tripUnit = true)
    (hrec : s.recordOf .tripUnit = some rec) :
    tripInputs s =
      if rec.fresh then
        { pin := s.pins.tripInLow
          unitLine := (rec.tripWord?.getD 0) &&& s.params.tripMask != 0
          unitStale := false
          lines := (rec.tripWord?.getD 0) &&& s.params.tripMask }
      else { pin := s.pins.tripInLow, unitLine := false, unitStale := true, lines := 0 } := by
  unfold tripInputs
  rw [hrole, hrec]
  rfl

/-- Some line is enabled and set just where the enabled lines are not all clear. -/
theorem and_ne_zero_iff (x y : Byte) :
    (x &&& y != 0) = decide (∃ n : Fin 8, x.getLsbD n.val = true ∧ y.getLsbD n.val = true) := by
  rw [Bool.eq_iff_iff, decide_eq_true_iff, bne_iff_ne, ← not_iff_not, not_not, not_exists]
  constructor
  · intro h n hn
    have hbit : (x &&& y).getLsbD n.val = true := by rw [BitVec.getLsbD_and, hn.1, hn.2]; rfl
    rw [h] at hbit
    simp at hbit
  · intro h
    refine BitVec.eq_of_getLsbD_eq fun i hi => ?_
    have hclear := h ⟨i, hi⟩
    simpa using hclear

/-! ### What an evaluation makes of them (R133, R134) -/

theorem TripInputs.any_iff (a : TripInputs) : a.any = true ↔ a.active := by
  simp [TripInputs.any, or_assoc]

theorem tripTaken_takeTripInputs (a : TripInputs) (s : State) : TripTaken s a (takeTripInputs a s) := by
  refine ⟨fun hquiet => ?_, fun hactive hmode => ?_, fun hactive hmode hcause => ?_⟩
  · exact if_neg fun hany => hquiet (a.any_iff.1 hany)
  · exact takeTripInputs_added hmode (a.any_iff.2 hactive)
  · have hentered := takeTripInputs_entered hmode (a.any_iff.2 hactive)
    obtain ⟨hcauses, hhalted, hline, hpins, -⟩ := enterTripped_eq hcause.plantCauses hmode a
    rw [← hentered] at hcauses hhalted hline hpins
    refine ⟨hcauses ▸ raisedOnce_raise _ _ _, hhalted, ?_⟩
    exact State.ext_fields ⟨by simp, hpins, by simp, by simp, by simp, by simp, by simp, by simp, by simp, by simp,
      by simp, by simp, by simp, by simp, rfl, rfl, by simp, hline, by simp, by simp, rfl, by simp, by simp⟩

/-- Settles O13: the inputs by the pin and the record of the trip unit, and an evaluation at each of the two events. -/
theorem tripInputsEvaluated : Obligations.TripInputsEvaluated := by
  intro s
  refine ⟨tripInputs_pin s, fun hnone => tripInputs_of_noUnit ?_, fun ht i rec hu hr hstored => ?_,
    fun low => ⟨fun hsame => congrArg Host.Outcome.next (if_pos hsame), fun hchanged => ?_⟩,
    tripTaken_takeTripInputs _ _⟩
  · rw [← Bool.not_eq_true, hasRole_iff]
    rintro ⟨i, hi⟩
    obtain ⟨hu, hr⟩ := (Entry.holds_iff _ _).1 hi
    exact hnone i hu hr
  · have hrole : hasRole s.activeTable .tripUnit = true := hasRole_iff.2 ⟨i, (Entry.holds_iff _ _).2 ⟨hu, hr⟩⟩
    have hrec : s.recordOf .tripUnit = some rec := (recordOf_of_holds ht rfl hu hr).trans hstored
    have hinputs := tripInputs_of_record hrole hrec
    refine ⟨fun hstale => ?_, fun word hfresh hword => ?_⟩
    · rwa [hstale] at hinputs
    · have hheld : rec.tripWord? = some word := by rw [Record.tripWord?, hword]
      rw [hfresh, hheld] at hinputs
      rw [← and_ne_zero_iff]
      exact hinputs
  · exact ⟨_, congrArg Host.Outcome.next (if_neg hchanged), tripTaken_takeTripInputs _ _⟩

end Sys2Proof.Machine
end

section
/-!
PROOF. The walk of the lot table (O59): the events of one lot, the walk as a map and a filter of the table, and the end
of an orderly stop at a retirement.
-/

namespace Sys2Proof.Machine

/-! ### The events of one lot (R108, R109, R110) -/

/-- A lot after its close and head events, given whether a row is free. -/
def movedLot (p : LineParams) (pos : Long) (free : Bool) (x : Lot) : Lot :=
  headEvent p pos (closeEvent p pos free x).1

/-- Whether a row is free matters to an OPEN lot alone. -/
theorem closeEvent_closed {x : Lot} (h : x.state ≠ .opened) (p : LineParams) (pos : Long) (free : Bool) :
    closeEvent p pos free x = (x, false) :=
  if_neg fun hc => h hc.1

theorem closeEvent_lot (p : LineParams) (pos : Long) (free : Bool) (x : Lot) :
    (closeEvent p pos free x).1 =
      if x.state = .opened ∧ p.lotLength ≤ (pos - x.startPos).toNat then
        if free then { x with state := .riding, endPos := some pos } else { x with extended := true }
      else x := by
  unfold closeEvent distance
  split
  · split <;> rfl
  · rfl

theorem closeEvent_full (p : LineParams) (pos : Long) (free : Bool) (x : Lot) :
    (closeEvent p pos free x).2 =
      (decide (x.state = .opened ∧ p.lotLength ≤ (pos - x.startPos).toNat) && !free && !x.extended) := by
  unfold closeEvent distance
  split
  · rename_i h
    rw [decide_eq_true h]
    cases free <;> rfl
  · rename_i h
    simp only [h, decide_false, Bool.false_and]

theorem headEvent_eq (p : LineParams) (pos : Long) (y : Lot) :
    headEvent p pos y =
      if p.transportDistance - p.divertLead ≤ (pos - y.startPos).toNat then
        { y with state := .passing, endPos := if y.state = LotState.opened then some pos else y.endPos }
      else y := by
  rcases y with ⟨_, _ | _ | _, _, _, _, _, _, _⟩ <;> rfl

/-- The close and head events of one lot, written out. -/
theorem movedLot_eq (p : LineParams) (pos : Long) (free : Bool) (x : Lot) :
    movedLot p pos free x =
      let y :=
        if x.state = .opened ∧ p.lotLength ≤ (pos - x.startPos).toNat then
          if free then { x with state := .riding, endPos := some pos } else { x with extended := true }
        else x
      if p.transportDistance - p.divertLead ≤ (pos - x.startPos).toNat then
        { y with state := .passing, endPos := if y.state = LotState.opened then some pos else y.endPos }
      else y := by
  have hstart : (closeEvent p pos free x).1.startPos = x.startPos := by
    rw [closeEvent_lot]
    split
    · split <;> rfl
    · rfl
  have hfar : (pos - (closeEvent p pos free x).1.startPos).toNat = (pos - x.startPos).toNat := by rw [hstart]
  unfold movedLot
  rw [headEvent_eq, hfar, closeEvent_lot]

theorem tailReached_eq (p : LineParams) (pos : Long) (x : Lot) :
    tailReached p pos x =
      (decide (x.state = .passing) && x.endPos.any fun e => decide (p.transportDistance ≤ (pos - e).toNat)) := by
  rcases x with ⟨_, _ | _ | _, _, _, _ | _, _, _, _⟩ <;> rfl

/-! ### The walk (R107) -/

/-- How many of some lots are extended for the first time at an advance (R108). -/
def firstExtensions (p : LineParams) (pos : Long) (free : Bool) (table : List Lot) : Nat :=
  table.countP fun x => (closeEvent p pos free x).2

/-- What a walk over some lots adds to what it has done before, where a row is free or is not for every OPEN lot of
them. -/
def Walk.over (w : Walk) (p : LineParams) (pos : Long) (free : Bool) (table : List Lot) : Walk :=
  let walked := table.map (movedLot p pos free)
  let gone := walked.filter (tailReached p pos)
  let credited := gone.filter fun x => !x.reject
  { kept := w.kept ++ walked.filter fun x => !tailReached p pos x
    inventory := min p.capacity (w.inventory + (credited.map fun (x : Lot) => x.tonnage.toNat).sum)
    credited := w.credited + (credited.map fun (x : Lot) => x.tonnage).sum
    rejected := w.rejected + ((gone.filter fun (x : Lot) => x.reject).map fun (x : Lot) => x.tonnage).sum
    fulls := w.fulls + firstExtensions p pos free table
    retired := w.retired || decide (gone ≠ []) }

theorem Walk.over_nil {w : Walk} {p : LineParams} (h : w.inventory ≤ p.capacity) (pos : Long) (free : Bool) :
    w.over p pos free [] = w := by
  cases w
  simp only [Walk.over, List.map_nil, List.filter_nil, List.sum_nil, firstExtensions, List.countP_nil, List.append_nil,
    add_zero, ne_eq, not_true, decide_false, Bool.or_false, Nat.min_eq_right h]

/-- What a walk does at one lot, with the rows still free said beforehand. -/
def Walk.passed (w : Walk) (p : LineParams) (pos : Long) (free : Bool) (x : Lot) : Walk :=
  let w1 := { w with fulls := w.fulls + (if (closeEvent p pos free x).2 then 1 else 0) }
  if tailReached p pos (movedLot p pos free x) then retireLot p (movedLot p pos free x) w1
  else { w1 with kept := w1.kept ++ [movedLot p pos free x] }

theorem Walk.passed_inventory {w : Walk} {p : LineParams} (h : w.inventory ≤ p.capacity) (pos : Long) (free : Bool)
    (x : Lot) : (w.passed p pos free x).inventory ≤ p.capacity := by
  unfold Walk.passed retireLot
  dsimp only
  split
  · split
    · exact h
    · exact Nat.min_le_left _ _
  · exact h

/-- The accounts of a walk, lot by lot (R110). -/
theorem Walk.over_cons {w : Walk} {p : LineParams} (pos : Long) (free : Bool) (x : Lot) (rest : List Lot) :
    w.over p pos free (x :: rest) = (w.passed p pos free x).over p pos free rest := by
  have hmin (a b c : Nat) : min p.capacity (min p.capacity (a + b) + c) = min p.capacity (a + (b + c)) := by omega
  unfold Walk.passed retireLot
  cases ht : tailReached p pos (movedLot p pos free x) with
  | false =>
    cases hf : (closeEvent p pos free x).2 <;>
      simp [Walk.over, firstExtensions, ht, hf, Nat.add_assoc, Nat.add_comm 1]
  | true =>
    cases hr : (movedLot p pos free x).reject <;> cases hf : (closeEvent p pos free x).2 <;>
      simp [Walk.over, firstExtensions, ht, hf, hr, hmin, Nat.add_assoc, Nat.add_comm 1, BitVec.add_assoc]

/-- The rows are free, or are not, for every OPEN lot still to be walked. -/
def Walk.Rows (w : Walk) (p : LineParams) (pos : Long) (free : Bool) (table : List Lot) : Prop :=
  ∀ (older : List Lot) (x : Lot) (younger : List Lot), table = older ++ x :: younger → x.state = .opened →
    decide ((w.over p pos free older).kept.length + 1 + younger.length < lotTableSize) = free

theorem walkLots_eq {p : LineParams} {pos : Long} {free : Bool} {table : List Lot} {w : Walk}
    (hw : w.inventory ≤ p.capacity) (hrows : w.Rows p pos free table) :
    walkLots p pos table w = w.over p pos free table := by
  induction table generalizing w with
  | nil => exact (Walk.over_nil hw pos free).symm
  | cons x rest ih =>
    have hclose : closeEvent p pos (decide (w.kept.length + 1 + rest.length < lotTableSize)) x =
        closeEvent p pos free x := by
      by_cases hx : x.state = .opened
      · have hfree := hrows [] x rest rfl hx
        rw [Walk.over_nil hw] at hfree
        rw [hfree]
      · rw [closeEvent_closed hx, closeEvent_closed hx]
    have hstep : walkLots p pos (x :: rest) w = walkLots p pos rest (w.passed p pos free x) := by
      rw [walkLots]
      dsimp only
      rw [hclose]
      unfold Walk.passed movedLot
      dsimp only
      split <;> rfl
    rw [hstep, Walk.over_cons]
    refine ih (Walk.passed_inventory hw pos free x) fun older y younger hsplit hy => ?_
    rw [← Walk.over_cons]
    exact hrows (x :: older) y younger (congrArg (x :: ·) hsplit) hy

/-! ### The table of R103 -/

/-- Whether a row is free for the OPEN lot, the youngest, once the others have had their events (R108). -/
def rowFree (p : LineParams) (pos : Long) (table : List Lot) : Bool :=
  let others := (table.filter fun x => decide (x.state ≠ .opened)).map (movedLot p pos true)
  decide ((others.filter fun x => !tailReached p pos x).length + 1 < 64)

/-- Nothing follows an OPEN lot, and no other lot is OPEN (R103). -/
theorem older_of_opened {pos : Long} {table older younger : List Lot} {x : Lot} (h : table.Pairwise (LotPrecedes pos))
    (hsplit : table = older ++ x :: younger) (hx : x.state = .opened) :
    younger = [] ∧ older = table.filter fun y => decide (y.state ≠ .opened) := by
  subst hsplit
  obtain ⟨-, hafter, hbefore⟩ := List.pairwise_append.1 h
  have hyounger : younger = [] := by
    cases younger with
    | nil => rfl
    | cons y more => exact absurd hx ((List.pairwise_cons.1 hafter).1 y List.mem_cons_self).closed
  have holder : ∀ y ∈ older, decide (y.state ≠ .opened) = true := fun y hy =>
    decide_eq_true (hbefore y hy x List.mem_cons_self).closed
  refine ⟨hyounger, ?_⟩
  rw [hyounger, List.filter_append, List.filter_eq_self.2 holder]
  simp [hx]

/-- The walk of a table at a new position, as a map and a filter of it. -/
theorem walkOf_eq {p : LineParams} {l : LotTracker} (h : l.table.Pairwise (LotPrecedes l.position))
    (hi : l.inventory ≤ p.capacity) (pos : Long) :
    walkOf p { l with position := pos } =
      ({ kept := [], inventory := l.inventory, credited := l.creditedTotal, rejected := l.rejectedTotal, fulls := 0,
         retired := false } : Walk).over p pos (rowFree p pos l.table) l.table := by
  refine walkLots_eq hi fun older x younger hsplit hx => ?_
  obtain ⟨hyounger, holder⟩ := older_of_opened h hsplit hx
  have hmoved : older.map (movedLot p pos (rowFree p pos l.table)) = older.map (movedLot p pos true) := by
    refine List.map_congr_left fun y hy => ?_
    rw [holder] at hy
    have hclosed : y.state ≠ .opened := of_decide_eq_true (List.mem_filter.1 hy).2
    unfold movedLot
    rw [closeEvent_closed hclosed, closeEvent_closed hclosed]
  rw [hyounger]
  unfold Walk.over
  dsimp only
  rw [hmoved, holder]
  rfl

/-- At most one lot of the table is extended at an advance, the OPEN one. -/
theorem firstExtensions_le_one {pos : Long} {table : List Lot} (h : table.Pairwise (LotPrecedes pos))
    (p : LineParams) (pos' : Long) (free : Bool) : firstExtensions p pos' free table ≤ 1 := by
  unfold firstExtensions
  induction table with
  | nil => simp
  | cons x rest ih =>
    obtain ⟨hfirst, hrest⟩ := List.pairwise_cons.1 h
    cases rest with
    | nil => exact List.countP_le_length
    | cons y more =>
      rw [List.countP_cons, closeEvent_closed (hfirst y List.mem_cons_self).closed]
      exact ih hrest

theorem firstExtensions_pos (p : LineParams) (pos : Long) (free : Bool) (table : List Lot) :
    0 < firstExtensions p pos free table ↔
      (table.any fun x =>
        decide (x.state = .opened ∧ p.lotLength ≤ (pos - x.startPos).toNat) && !free && !x.extended) = true := by
  simp only [firstExtensions, List.countP_pos_iff, List.any_eq_true, closeEvent_full]

/-- LOT_TABLE_FULL raised at the first extension of the OPEN lot (R108). -/
theorem raised_full {mask : BitVec 14} {n : Nat} (hn : n ≤ 1) (u : CauseUnit) :
    if 0 < n then
      RaisedOnce mask .lotTableFull u
        ((List.replicate n Cause.lotTableFull).foldl (fun v c => v.raise mask c) u)
    else (List.replicate n Cause.lotTableFull).foldl (fun v c => v.raise mask c) u = u := by
  rcases Nat.le_one_iff_eq_zero_or_eq_one.1 hn with rfl | rfl
  · rfl
  · exact raisedOnce_raise mask .lotTableFull u

/-! ### The end of an orderly stop (R45, R93, R139, R141) -/

/-- A stop that ends halts the crushers and the feeders, and touches no cause. -/
theorem endStop_halted {s : State} (hm : s.line.lineMode = .stopping) (how : StopEnd) :
    endStop how s =
        { s with
          line := { s.line with lineMode := .stopped, stopRec := none, lastStopEnd := how }
          pins := { s.pins with tripOut := false }
          crushers := (endStop how s).crushers
          feeders := (endStop how s).feeders
          causes := (endStop how s).causes } ∧
      Halted s (endStop how s) := by
  have hsignals : signalsCrushers s.line.lineMode .stopped = true := by rw [hm]; rfl
  have hzeroes : zeroesFeeders s.line.lineMode .stopped = true := by rw [hm]; rfl
  refine ⟨?_, ⟨fun k => ?_, fun j => ?_⟩⟩
  · have hline : (endStop how s).line = { s.line with lineMode := .stopped, stopRec := none, lastStopEnd := how } :=
      (changeMode_line _ _).1
    have hpins : (endStop how s).pins = { s.pins with tripOut := false } := (changeMode_line _ _).2
    exact State.ext_fields ⟨by simp, hpins, by simp, by simp, by simp, by simp, by simp, by simp, by simp, by simp,
      by simp, by simp, by simp, by simp, rfl, rfl, by simp, hline, by simp, by simp, rfl, by simp, by simp⟩
  · unfold endStop
    rw [crusher_changeMode, if_pos hsignals, standDown_eq]
    rfl
  · unfold endStop
    rw [feeder_changeMode, hzeroes]
    rfl

theorem endStop_causes {s : State} (h : PlantCauses s) (hm : s.line.lineMode = .stopping)
    (ht : (s.causes.entry .trip).pending = false) (how : StopEnd) : (endStop how s).causes = s.causes := by
  have hsignals : signalsCrushers s.line.lineMode .stopped = true := by rw [hm]; rfl
  have hzeroes : zeroesFeeders s.line.lineMode .stopped = true := by rw [hm]; rfl
  unfold endStop changeMode
  dsimp only
  rw [if_pos hzeroes, if_pos hsignals, settleLevel_eq, raiseIf_eq]
  generalize hz : zeroFeeders _ = z
  have hz' : z.causes = s.causes := by rw [← hz]; simp
  obtain ⟨-, hcauses⟩ := signalCrushers_causes (h.of_eq hz' (by rw [← hz]; simp))
  rw [show (s.line.lineMode != .tripped && LineMode.stopped == .tripped) = false by rw [hm]; rfl]
  simp only [Bool.false_eq_true, if_false, hcauses, hz']
  split
  · rfl
  · exact h.counted.cease_eq ht

end Sys2Proof.Machine
end

section
/-!
PROOF. An arrival of BELT_TRAVEL (O59): the lots at the new position, and the stop that a retirement completes.
-/

namespace Sys2Proof.Machine

/-! ### The lot events (R107, R117) -/

/-- The state at a belt position after a walk of the lots, before the controller hears of a retirement. -/
def walkedState (s : State) (pos : Long) (w : Walk) : State :=
  { s with
    lots :=
      { s.lots with
        position := pos, table := w.kept, inventory := w.inventory, creditedTotal := w.credited
        rejectedTotal := w.rejected, divertCommand := divertFor w.kept }
    causes := (List.replicate w.fulls .lotTableFull).foldl (fun u c => u.raise s.params.causeMask c) s.causes }

/-- The lot events at a new position: the walk, and the end of a stop that a retirement completes (R139). -/
theorem lotEvents_walked {s : State} {pos : Long} {w : Walk}
    (hw : walkOf s.params { s.lots with position := pos } = w) :
    lotEvents (s.setLots { s.lots with position := pos }) =
      if w.retired = true ∧ s.line.lineMode = .stopping ∧ w.kept = [] ∧ w.inventory ≤ s.params.drawDown then
        endStop .completed (walkedState s pos w)
      else walkedState s pos w := by
  have htest : retirementTest (walkedState s pos w) =
      if s.line.lineMode = .stopping ∧ w.kept = [] ∧ w.inventory ≤ s.params.drawDown then
        endStop .completed (walkedState s pos w)
      else walkedState s pos w := by
    unfold retirementTest completionTest
    simp only [Bool.and_eq_true, List.isEmpty_iff, decide_eq_true_iff]
    rfl
  have hevents : lotEvents (s.setLots { s.lots with position := pos }) =
      if w.retired then retirementTest (walkedState s pos w) else walkedState s pos w := by
    rw [← hw]
    unfold lotEvents
    dsimp only
    rw [raiseTimes_eq]
    rfl
  rw [hevents, htest]
  exact (ite_and _ _ _ _).symm

/-- LOT_TABLE_FULL raised leaves CRUSHER_FAULT, LINER_DUE and TRIP as they were. -/
theorem CauseInv.walked {s : State} (h : CauseInv s) {pos : Long} {w : Walk} (hm : s.line.lineMode = .stopping) :
    PlantCauses (walkedState s pos w) ∧ ((walkedState s pos w).causes.entry .trip).pending = false := by
  refine ⟨h.plantCauses.raised rfl rfl (by simp) (by simp), ?_⟩
  show (((List.replicate w.fulls Cause.lotTableFull).foldl (fun u c => u.raise s.params.causeMask c)
    s.causes).entry .trip).pending = false
  rw [CauseUnit.entry_raises (by simp), h.level .trip (by decide)]
  simp [levelHolds, hm]

/-- An advance of the belt has the lots take their events at the new position (R106). -/
theorem travelArrival_advance {s : State} {d : Nat} (ha : trackingActive s.activeTable = true) (h0 : 0 < d)
    (hd : d ≤ 32767) :
    travelArrival d s = lotEvents (s.setLots { s.lots with position := s.lots.position + BitVec.ofNat 32 d }) := by
  unfold travelArrival
  rw [if_neg (by rw [ha]; simp; omega), if_neg (by omega)]

/-- Settles O59: the walk takes each lot through the events it has reached, and a retirement may end a stop. -/
theorem lotWalk : Obligations.LotWalk := by
  intro s d hlots _
  refine ⟨fun hidle => if_pos hidle, fun hactive hback => ?_, fun hactive hpos hforward => ?_⟩
  · show travelArrival d s = _
    unfold travelArrival
    rw [if_neg (by rw [hactive]; simp; omega), if_pos hback]
    rfl
  · rw [show deliverArrival { role := .beltTravel, increment := d } s = travelArrival d s from rfl,
      travelArrival_advance hactive hpos hforward]
    intro pos far moved leaves others free walked gone kept credited lots full
    have hmoved : moved = movedLot s.params pos := by
      funext free x
      exact (movedLot_eq s.params pos free x).symm
    have hleaves : leaves = tailReached s.params pos := by
      funext x
      exact (tailReached_eq s.params pos x).symm
    have hfree : free = rowFree s.params pos s.lots.table := by
      simp only [free, others, hmoved, hleaves]
      rfl
    have hwalk : walkOf s.params { s.lots with position := pos } =
        { kept := kept, inventory := lots.inventory, credited := lots.creditedTotal, rejected := lots.rejectedTotal
          fulls := firstExtensions s.params pos free s.lots.table, retired := decide (gone ≠ []) } := by
      rw [walkOf_eq hlots.order hlots.inventory pos]
      simp only [Walk.over, lots, credited, kept, gone, walked, hfree, hmoved, hleaves, List.nil_append,
        Nat.zero_add, Bool.false_or]
    have hraised := raised_full (mask := s.params.causeMask)
      (firstExtensions_le_one hlots.order s.params pos free) s.causes
    simp only [firstExtensions_pos] at hraised
    refine ⟨_, hraised, ?_⟩
    have hevents := lotEvents_walked (s := s) (pos := pos) hwalk
    by_cases hends : gone ≠ [] ∧ s.line.lineMode = .stopping ∧ kept = [] ∧ lots.inventory ≤ s.params.drawDown
    · rw [if_pos hends]
      obtain ⟨hgone, hmode, hempty, hdrawn⟩ := hends
      rw [if_pos ⟨decide_eq_true hgone, hmode, hempty, hdrawn⟩] at hevents
      rw [hevents]
      obtain ⟨hrest, hhalted⟩ := endStop_halted (s := walkedState s pos _) hmode .completed
      refine ⟨hrest, ⟨hhalted.crushers, hhalted.feeders⟩, fun hcause => ?_⟩
      obtain ⟨hplant, htrip⟩ := hcause.walked hmode
      exact endStop_causes hplant hmode htrip _
    · rw [if_neg hends]
      refine hevents.trans (if_neg fun hall => hends ?_)
      obtain ⟨hgone, hmode, hempty, hdrawn⟩ := hall
      exact ⟨of_decide_eq_true hgone, hmode, hempty, hdrawn⟩

end Sys2Proof.Machine
end

section
/-!
PROOF. Samples that bear on a relief (O57): which sample an arrival is, what it makes of a context in each state, and
what the part takes from the change.
-/

namespace Sys2Proof.Machine

/-! ### The sample of an arrival (R65) -/

/-- A sample told apart by three flags: whether it is an onset sample, whether it breaks a run of clearing samples, and
whether it clears unless it breaks (R65). -/
structure Sample.Judged (smp : Sample) (on breaks clears : Bool) : Prop where
  onset : smp = .onset ↔ on = true
  breaking : smp = .onset ∨ smp = .breaking ↔ breaks = true
  clearing : smp = .clearing ↔ breaks = false ∧ clears = true

theorem pressureSample_judged (p : CrusherParams) (pressure : Nat) (reported : Bool) :
    (pressureSample p pressure reported).Judged (decide (p.reliefPressure ≤ pressure))
      (decide (p.reliefPressure ≤ pressure) || !(decide (pressure < p.reliefClear) && !reported))
      (decide (pressure < p.reliefClear) && !reported) := by
  unfold pressureSample
  by_cases hon : p.reliefPressure ≤ pressure
  · rw [if_pos hon]
    constructor <;> simp [hon]
  · rw [if_neg hon]
    by_cases hclear : pressure < p.reliefClear ∧ reported = false
    · rw [if_pos hclear]
      constructor <;> simp [hon, hclear]
    · have hclears : (decide (pressure < p.reliefClear) && !reported) = false := by simpa using hclear
      rw [if_neg hclear, hclears]
      constructor <;> simp [hon]

theorem statusSample_judged (reliefOpen fresh : Bool) :
    (statusSample reliefOpen fresh).Judged reliefOpen reliefOpen (!reliefOpen && !fresh) := by
  cases reliefOpen <;> cases fresh <;> constructor <;> decide

/-! ### A sample in a context, by its state (R66 to R69) -/

/-- An onset sample in RUN, MOVE or RECOVER (R66). -/
theorem takeSample_onset_run {c : Crusher} (hrun : c.state.isRun = true) (now : Long) :
    takeSample now .onset c =
      { crusher :=
          { c with
            state := .relief
            reliefRec :=
              some
                { phase := .opened
                  reliefCount := c.reliefRec.elim 1 fun r => min 255 (r.reliefCount + 1)
                  clearRun := 0
                  onsetCycle := now }
            moveRec := none
            command := if c.moveRec.isSome then { kind := .stop, seq := c.moveSeq, step := 0 } else c.command }
        raises := [.relief] } := by
  have honset : takeSample now .onset c = onset now c := by
    unfold takeSample
    cases hs : c.state with
    | run | move | recover => rfl
    | absent | standby | relief | fault => rw [hs] at hrun; cases hrun
  rw [honset]
  obtain ⟨_, _, _, _, _, _, _, moveRec, reliefRec, _, _, _⟩ := c
  cases moveRec <;> cases reliefRec <;> rfl

theorem Crusher.reliefIsOpen_iff {c : Crusher} :
    c.reliefIsOpen = true ↔ ∃ r, c.reliefRec = some r ∧ r.phase = .opened := by
  simp [Crusher.reliefIsOpen, Option.any_eq_true]

/-- In RELIEF and in STANDBY an open relief takes every sample (R68). -/
theorem takeSample_open {c : Crusher} (hs : c.state = .relief ∨ c.state = .standby) {r : Relief}
    (hr : c.reliefRec = some r) (ho : r.phase = .opened) (now : Long) (smp : Sample) :
    takeSample now smp c = quiet (sampleOpen smp r c) := by
  unfold takeSample
  rcases hs with hs | hs <;> simp only [hs, hr, ho, if_true]

/-- A breaking sample sets clearRun to 0, and an onset sample is one here (R68). -/
theorem sampleOpen_breaking {smp : Sample} (h : smp = .onset ∨ smp = .breaking) (r : Relief) (c : Crusher) :
    sampleOpen smp r c = { c with reliefRec := some { r with clearRun := 0 } } := by
  rcases h with rfl | rfl <;> rfl

/-- The record after a clearing sample, CLEARED with the last of reliefClearCount in a row (R68, R69). -/
def Relief.afterClearing (r : Relief) (c : Crusher) : Relief :=
  { r with
    clearRun := r.clearRun + 1
    phase := if c.params.reliefClearCount ≤ r.clearRun + 1 then .cleared else .opened }

/-- A clearing sample: FAULT at reliefLimit, else RECOVER from RELIEF, once the relief is cleared (R68, R69, R70). -/
theorem sampleOpen_clearing {r : Relief} (ho : r.phase = .opened) (c : Crusher) :
    sampleOpen .clearing r c =
      if c.params.reliefClearCount ≤ r.clearRun + 1 ∧ c.params.reliefLimit ≤ r.reliefCount then
        { c with reliefRec := some (r.afterClearing c), state := .fault, command := c.stopCommand }
      else if c.params.reliefClearCount ≤ r.clearRun + 1 ∧ c.state = .relief then
        { c with reliefRec := some (r.afterClearing c), state := .recover, settleCount := c.params.settleCycles }
      else { c with reliefRec := some (r.afterClearing c) } := by
  unfold sampleOpen reliefCleared Relief.afterClearing
  by_cases hdone : c.params.reliefClearCount ≤ r.clearRun + 1
  · simp only [hdone, true_and, if_true]
    rfl
  · simp only [hdone, false_and, if_false, ← ho]

/-- A sample with no effect: an onset outside the run states and STANDBY, and any other with no relief open to it
(R67, R68). -/
theorem takeSample_idle {c : Crusher} {smp : Sample} (hrun : c.state.isRun = true → smp ≠ .onset)
    (hstandby : c.state = .standby → c.reliefIsOpen = false → smp ≠ .onset)
    (hopen : c.state = .relief ∨ c.state = .standby → c.reliefIsOpen = true → smp = .neither) (now : Long) :
    takeSample now smp c = quiet c := by
  by_cases hin : (c.state = .relief ∨ c.state = .standby) ∧ c.reliefIsOpen = true
  · obtain ⟨hs, hisOpen⟩ := hin
    obtain ⟨r, hr, ho⟩ := Crusher.reliefIsOpen_iff.1 hisOpen
    rw [takeSample_open hs hr ho, hopen hs hisOpen]
    rfl
  · have hclosed (hs : c.state = .relief ∨ c.state = .standby) {r : Relief} (hr : c.reliefRec = some r) :
        r.phase ≠ .opened := fun ho => hin ⟨hs, Crusher.reliefIsOpen_iff.2 ⟨r, hr, ho⟩⟩
    unfold takeSample
    split
    case h_1 hs | h_2 hs | h_3 hs => exact if_neg (hrun (by rw [hs]; rfl))
    case h_4 hs =>
      split
      · exact if_neg (hclosed (.inl hs) ‹_›)
      · rfl
    case h_5 hs =>
      have hno : smp ≠ .onset := hstandby hs (Bool.eq_false_iff.2 fun ho => hin ⟨.inr hs, ho⟩)
      split
      · rw [if_neg (hclosed (.inr hs) ‹_›), if_neg hno]
      · exact if_neg hno
    all_goals rfl

/-! ### What the part takes from the change (R46, R92) -/

/-- A change that keeps the liner as due as it was and does not end FAULT: its context, the feeder of a crusher that
leaves the run states, its edge causes, and CRUSHER_FAULT at an entry to FAULT. -/
theorem changeCrusher_sameDue {s : State} (h : PlantCauses s) {k : Fin 4} {ch : Change}
    (hedge : ∀ x ∈ ch.raises, x.isLevel = false) (hdue : ch.crusher.due = (s.crusher k).due)
    (hfault : (s.crusher k).state = .fault → ch.crusher.state = .fault) :
    changeCrusher k ch s =
      { s with
        crushers := s.crushers.set k ch.crusher
        feeders := feedersAfter s k ch.crusher
        causes :=
          (if (s.crusher k).state ≠ .fault ∧ ch.crusher.state = .fault then ch.raises ++ [.crusherFault]
            else ch.raises).foldl (fun u x => u.raise s.params.causeMask x) s.causes } := by
  have hcauses : ch.causes (s.crusher k) =
      if (s.crusher k).state ≠ .fault ∧ ch.crusher.state = .fault then ch.raises ++ [.crusherFault]
      else ch.raises := by
    have hsame : ¬((s.crusher k).due = false ∧ ch.crusher.due = true) := by simp [hdue]
    unfold Change.causes
    rw [if_neg hsame, List.append_nil]
    split
    · rfl
    · exact List.append_nil _
  rw [changeCrusher_eq, causesAfter_eq h hedge (fun hd => hdue.trans hd) hfault, hcauses]

/-- A context that enters RELIEF from a run state: its feeder is zeroed, and RELIEF is raised (R66, R92). -/
theorem changeCrusher_onset {s : State} (h : PlantCauses s) {k : Fin 4} {new : Crusher}
    (hdue : new.due = (s.crusher k).due) (hrun : (s.crusher k).state.isRun = true) (hnew : new.state = .relief) :
    changeCrusher k { crusher := new, raises := [.relief] } s =
      { s with
        crushers := s.crushers.set k new
        feeders := s.feeders.set k { s.feeder k with output := 0, driveValue := driveValueOf s.activeTable k 0 }
        causes := s.causes.raise s.params.causeMask .relief } := by
  have hfeeders : feedersAfter s k new = s.feeders.set k
      { s.feeder k with output := 0, driveValue := driveValueOf s.activeTable k 0 } :=
    if_pos (by rw [hrun, hnew]; rfl)
  have hedge : ∀ x ∈ [Cause.relief], x.isLevel = false := by decide
  rw [changeCrusher_sameDue h hedge hdue fun hf => by rw [hf] at hrun; cases hrun]
  simp [hfeeders, hnew]

/-- A context that enters FAULT from outside the run states: CRUSHER_FAULT is raised (R46, R69). -/
theorem changeCrusher_toFault {s : State} (h : PlantCauses s) {k : Fin 4} {new : Crusher}
    (hdue : new.due = (s.crusher k).due) (hold : (s.crusher k).state = .relief ∨ (s.crusher k).state = .standby)
    (hnew : new.state = .fault) :
    changeCrusher k (quiet new) s =
      { s with
        crushers := s.crushers.set k new
        causes := s.causes.raise s.params.causeMask .crusherFault } := by
  have hrun : (s.crusher k).state.isRun = false := by rcases hold with hs | hs <;> rw [hs] <;> rfl
  have hfault : (s.crusher k).state ≠ .fault := by rcases hold with hs | hs <;> rw [hs] <;> decide
  rw [changeCrusher_sameDue h (by simp [quiet]) hdue fun hf => absurd hf hfault,
    feedersAfter_of_still fun hr => by rw [hrun] at hr; cases hr]
  simp [quiet, hfault, hnew]

/-! ### The two arrivals (O57) -/

theorem pressureArrival_sample {s : State} {k : Fin 4} {pressure : Nat}
    (hp : s.freshScalar (.pressure k) = some pressure) :
    pressureArrival k s =
      changeCrusher k
        (takeSample s.tracker.cycleCount (pressureSample (s.crusher k).params pressure (s.reliefReported k))
          (s.crusher k)) s := by
  unfold pressureArrival
  rw [hp]

theorem sampleOpen_moveRec (smp : Sample) (r : Relief) (c : Crusher) : (sampleOpen smp r c).moveRec = c.moveRec := by
  cases smp with
  | onset | breaking | neither => rfl
  | clearing =>
    unfold sampleOpen reliefCleared
    dsimp only
    split
    · split
      · rfl
      · split <;> rfl
    · rfl

/-- Only an onset in a run state touches the move (R66, R67, R68). -/
theorem takeSample_keepsMove {c : Crusher} {smp : Sample} (h : c.state.isRun = true → smp ≠ .onset) (now : Long) :
    (takeSample now smp c).crusher.moveRec = c.moveRec := by
  unfold takeSample
  split
  case h_1 hs | h_2 hs | h_3 hs => rw [if_neg (h (by rw [hs]; rfl))]; rfl
  case h_4 =>
    split
    · split
      · exact sampleOpen_moveRec _ _ _
      · rfl
    · rfl
  case h_5 =>
    split
    · split
      · exact sampleOpen_moveRec _ _ _
      · split <;> rfl
    · split <;> rfl
  all_goals rfl

/-- No move is left after an onset sample, and no sample begins one (R66). -/
theorem takeSample_moveRec {c : Crusher} (hc : ContextInv c) {smp : Sample} (h : smp = .onset ∨ c.moveRec = none)
    (now : Long) : (takeSample now smp c).crusher.moveRec = none := by
  by_cases hrun : c.state.isRun = true
  · by_cases honset : smp = .onset
    · rw [honset, takeSample_onset_run hrun]
    · rw [takeSample_keepsMove (fun _ => honset)]
      exact h.resolve_left honset
  · rw [takeSample_keepsMove (fun hr => absurd hr hrun)]
    exact hc.moveRec_none (fun hs => hrun (by rw [hs]; rfl)) fun hs => hrun (by rw [hs]; rfl)

/-- A sample raises RELIEF or nothing (R66, R67). -/
theorem takeSample_edge (now : Long) (smp : Sample) (c : Crusher) :
    ∀ x ∈ (takeSample now smp c).raises, x.isLevel = false := by
  have hquiet (y : Crusher) : ∀ x ∈ (quiet y).raises, x.isLevel = false := fun _ hx => nomatch hx
  have hrelief : ∀ x ∈ [Cause.relief], x.isLevel = false := by decide
  have hon (ch : Change) (hch : ch.raises = [.relief]) :
      ∀ x ∈ (if smp = .onset then ch else quiet c).raises, x.isLevel = false := by
    split
    · rw [hch]; exact hrelief
    · exact hquiet c
  unfold takeSample
  split
  case h_1 | h_2 | h_3 => exact hon _ rfl
  case h_4 =>
    split
    · split <;> exact hquiet _
    · exact hquiet c
  case h_5 =>
    split
    · split
      · exact hquiet _
      · exact hon _ rfl
    · exact hon _ rfl
  all_goals exact hquiet c

/-- A status with the relief open, or one that finds no move, bears on the relief alone (R55, R66). -/
theorem actuatorArrival_sample {s : State} (h : PlantCauses s) {k : Fin 4} (hc : ContextInv (s.crusher k))
    {st : ActStatus} (hst : s.heldStatus k = some st)
    (hmove : st.reliefOpen = true ∨ (s.crusher k).moveRec = none) :
    actuatorArrival k s =
      changeCrusher k
        (takeSample s.tracker.cycleCount (statusSample st.reliefOpen (s.isFresh (.pressure k))) (s.crusher k)) s := by
  have hnone := takeSample_moveRec hc (hmove.imp_left (statusSample_eq_onset (fresh := s.isFresh (.pressure k))).2)
    s.tracker.cycleCount
  have hplant := h.changeCrusher (k := k) (takeSample_edge s.tracker.cycleCount
    (statusSample st.reliefOpen (s.isFresh (.pressure k))) (s.crusher k))
  unfold actuatorArrival
  rw [hst]
  dsimp only
  generalize takeSample _ _ _ = ch at hnone hplant ⊢
  have hcrusher : (changeCrusher k ch s).crusher k = ch.crusher := by
    rw [changeCrusher_eq]
    exact Vector.getElem_set_self _
  have hidle : statusOnMove st ((changeCrusher k ch s).crusher k) = quiet ((changeCrusher k ch s).crusher k) := by
    unfold statusOnMove
    rw [hcrusher, hnone]
  rw [hidle, changeCrusher_self hplant]

/-- Settles O57: the arrival is one sample, and each branch is what that sample makes of the context in its state. -/
theorem reliefSamples : Obligations.ReliefSamples := by
  intro s k a pressure st h hc harrives c on clears breaks hmove isOpen opened stop
  have hplant := h.plantCauses
  obtain ⟨smp, harrival, hjudged⟩ : ∃ smp,
      deliverArrival { role := a, increment := 0 } s =
        changeCrusher k (takeSample s.tracker.cycleCount smp c) s ∧ smp.Judged on breaks clears := by
    rcases harrives with ⟨rfl, hp⟩ | ⟨rfl, hst⟩
    · refine ⟨_, pressureArrival_sample hp, ?_⟩
      simpa [on, breaks, clears] using pressureSample_judged c.params pressure (s.reliefReported k)
    · refine ⟨_, actuatorArrival_sample hplant hc hst ?_, ?_⟩
      · simpa [on] using hmove
      · simpa [on, breaks, clears] using statusSample_judged st.reliefOpen (s.isFresh (.pressure k))
  rw [harrival]
  clear_value on clears breaks
  by_cases honset : c.state.isRun = true ∧ on = true
  · simp only [if_pos honset]
    obtain ⟨hrun, hon⟩ := honset
    rw [hjudged.onset.2 hon, takeSample_onset_run hrun]
    exact ⟨_, _, changeCrusher_onset hplant rfl hrun rfl, rfl, raisedOnce_raise _ _ _⟩
  simp only [if_neg honset]
  by_cases hfirst : c.state = .standby ∧ isOpen = false ∧ on = true
  · simp only [if_pos hfirst]
    obtain ⟨hs, hclosed, hon⟩ := hfirst
    have hstandby : (s.crusher k).state = .standby := hs
    have hshut : (s.crusher k).reliefIsOpen = false := hclosed
    have htake := takeOnset_eq hplant (k := k) (by rw [hstandby]; rfl)
    rw [if_pos hstandby, hshut] at htake
    rw [hjudged.onset.2 hon]
    refine ⟨_, _, htake, ?_, raisedOnce_raise _ _ _⟩
    unfold Crusher.onsetTaken
    rw [hshut]
    rfl
  simp only [if_neg hfirst]
  by_cases hbreak : (c.state = .relief ∨ c.state = .standby) ∧ isOpen = true ∧ breaks = true
  · simp only [if_pos hbreak]
    obtain ⟨hs, hopen, hbreaks⟩ := hbreak
    obtain ⟨r, hr, ho⟩ := Crusher.reliefIsOpen_iff.1 hopen
    rw [takeSample_open hs hr ho, sampleOpen_breaking (hjudged.breaking.2 hbreaks), hr]
    exact ⟨_, _, changeCrusher_staysUp hplant (.same rfl rfl), rfl, rfl⟩
  simp only [if_neg hbreak]
  by_cases hclear : (c.state = .relief ∨ c.state = .standby) ∧ isOpen = true ∧ clears = true
  · simp only [if_pos hclear]
    obtain ⟨hs, hopen, hclears⟩ := hclear
    obtain ⟨r, hr, ho⟩ := Crusher.reliefIsOpen_iff.1 hopen
    have hquiet : breaks = false := Bool.eq_false_iff.2 fun hb => hbreak ⟨hs, hopen, hb⟩
    rw [takeSample_open hs hr ho, hjudged.clearing.2 ⟨hquiet, hclears⟩, sampleOpen_clearing ho]
    simp only [hr, Option.some.injEq, forall_eq', decide_eq_true_eq]
    by_cases hfault : c.params.reliefClearCount ≤ r.clearRun + 1 ∧ c.params.reliefLimit ≤ r.reliefCount
    · simp only [if_pos hfault]
      exact ⟨_, _, changeCrusher_toFault hplant rfl hs rfl, rfl, raisedOnce_raise _ _ _⟩
    · simp only [if_neg hfault]
      refine ⟨_, _, changeCrusher_staysUp hplant ?_, rfl, rfl⟩
      split
      · rename_i hrecover
        have hrelief : (s.crusher k).state = .relief := hrecover.2
        exact ⟨rfl, iff_of_false nofun (by rw [hrelief]; decide), fun _ => rfl⟩
      · exact .same rfl rfl
  simp only [if_neg hclear]
  rw [takeSample_idle]
  · exact ⟨_, _, changeCrusher_staysUp hplant (.same rfl rfl), rfl, rfl⟩
  · exact fun hrun hon => honset ⟨hrun, hjudged.onset.1 hon⟩
  · exact fun hs hclosed hon => hfirst ⟨hs, hclosed, hjudged.onset.1 hon⟩
  · intro hs hopen
    cases hsmp : smp with
    | neither => rfl
    | onset => exact absurd ⟨hs, hopen, hjudged.breaking.1 (.inl hsmp)⟩ hbreak
    | breaking => exact absurd ⟨hs, hopen, hjudged.breaking.1 (.inr hsmp)⟩ hbreak
    | clearing => exact absurd ⟨hs, hopen, (hjudged.clearing.1 hsmp).2⟩ hclear

end Sys2Proof.Machine
end

section
/-!
PROOF. The lookup of a curve (O54): the segment on which a value lies, and the truncated share of its rise or fall
(R95).
-/

namespace Sys2Proof.Machine

/-! ### A segment -/

theorem tdiv_share_nonneg {a b c : Int} (ha : 0 ≤ a) (hb : 0 ≤ b) (hbc : b ≤ c) :
    0 ≤ Int.tdiv (a * b) c ∧ Int.tdiv (a * b) c ≤ a := by
  have hab : 0 ≤ a * b := mul_nonneg ha hb
  rw [Int.tdiv_eq_ediv_of_nonneg hab]
  refine ⟨Int.ediv_nonneg hab (hb.trans hbc), ?_⟩
  rcases (hb.trans hbc).eq_or_lt with hc | hc
  · simpa [← hc] using ha
  · exact Int.ediv_le_of_le_mul hc (mul_le_mul_of_nonneg_left hbc ha)

/-- The truncated share `b` of `c` of a difference lies between nothing and all of it, whichever way it points. -/
theorem tdiv_share_between (a : Int) {b c : Int} (hb : 0 ≤ b) (hbc : b ≤ c) :
    min 0 a ≤ Int.tdiv (a * b) c ∧ Int.tdiv (a * b) c ≤ max 0 a := by
  rcases le_total 0 a with ha | ha
  · obtain ⟨hlow, hhigh⟩ := tdiv_share_nonneg ha hb hbc
    omega
  · obtain ⟨hlow, hhigh⟩ := tdiv_share_nonneg (neg_nonneg.2 ha) hb hbc
    rw [neg_mul, Int.neg_tdiv] at hlow hhigh
    omega

/-- On a segment the truncation keeps the value between the two ends, so that it is never cut off at 0. -/
theorem interpolate_between {p q : Point} {x : Nat} (hp : p.x ≤ x) (hq : x ≤ q.x) :
    (interpolate p q x : Int) = p.y + Int.tdiv (((q.y : Int) - p.y) * ((x : Int) - p.x)) ((q.x : Int) - p.x) ∧
      min p.y q.y ≤ interpolate p q x ∧ interpolate p q x ≤ max p.y q.y := by
  have hshare := tdiv_share_between ((q.y : Int) - p.y) (b := (x : Int) - p.x) (c := (q.x : Int) - p.x) (by omega)
    (by omega)
  unfold interpolate
  omega

theorem interpolate_left (p q : Point) : interpolate p q p.x = p.y := by simp [interpolate]

theorem interpolate_right {p q : Point} (h : p.x < q.x) : interpolate p q q.x = q.y := by
  have hne : (q.x : Int) - p.x ≠ 0 := by omega
  simp [interpolate, Int.mul_tdiv_cancel _ hne]

/-! ### The lookup, point by point -/

theorem lookupFrom_before {p : Point} {x : Nat} (h : x ≤ p.x) (rest : List Point) : lookupFrom p rest x = p.y := by
  unfold lookupFrom
  rw [if_pos h]

theorem lookupFrom_last (p : Point) (x : Nat) : lookupFrom p [] x = p.y := by
  unfold lookupFrom
  split <;> rfl

theorem lookupFrom_next {p q : Point} {x : Nat} (h : p.x < q.x) (hq : q.x ≤ x) (more : List Point) :
    lookupFrom p (q :: more) x = lookupFrom q more x := by
  rw [lookupFrom, if_neg (by omega), if_neg (by omega)]

theorem lookupFrom_segment {p q : Point} {x : Nat} (h : p.x < q.x) (hp : p.x ≤ x) (hq : x ≤ q.x)
    (more : List Point) : lookupFrom p (q :: more) x = interpolate p q x := by
  rcases hp.eq_or_lt with rfl | hp
  · rw [lookupFrom_before le_rfl, interpolate_left]
  rcases hq.eq_or_lt with rfl | hq
  · rw [lookupFrom_next h le_rfl, lookupFrom_before le_rfl, interpolate_right h]
  · rw [lookupFrom, if_neg (by omega), if_pos hq]

/-- A lookup at or above the x of a point begins at that point. -/
theorem lookupCurve_from {curve : Curve} (h : curve.Pairwise fun p q => p.x < q.x) {i : Nat} {p : Point}
    (hi : curve[i]? = some p) {x : Nat} (hx : p.x ≤ x) :
    lookupCurve curve x = some (lookupFrom p (curve.drop (i + 1)) x) := by
  induction curve generalizing i with
  | nil => simp at hi
  | cons a rest ih =>
    obtain ⟨ha, hrest⟩ := List.pairwise_cons.1 h
    cases i with
    | zero =>
      obtain rfl : a = p := by simpa using hi
      rfl
    | succ i =>
      have hi : rest[i]? = some p := by simpa using hi
      rw [List.drop_succ_cons, ← ih hrest hi]
      cases rest with
      | nil => simp at hi
      | cons b more =>
        have hb : b.x ≤ p.x := by
          rcases List.mem_cons.1 (List.mem_of_getElem? hi) with rfl | hp
          · exact le_rfl
          · exact ((List.pairwise_cons.1 hrest).1 p hp).le
        exact congrArg some (lookupFrom_next (ha b List.mem_cons_self) (hb.trans hx) more)

/-- Settles O54: a lookup begins at the last point it reaches, and goes no further than the segment after it. -/
theorem curveLookup : Obligations.CurveLookup := by
  refine fun curve hcurve => ⟨fun p hp => ?_, fun p hp x hx => ?_, fun p hp x hx => ?_, fun i p q hi hq x hpx hqx => ?_⟩
  · obtain ⟨i, hi⟩ := List.mem_iff_getElem?.1 hp
    rw [lookupCurve_from hcurve.rising hi le_rfl, lookupFrom_before le_rfl]
  · obtain ⟨rest, rfl⟩ := List.head?_eq_some_iff.1 hp
    exact congrArg some (lookupFrom_before hx rest)
  · rw [List.getLast?_eq_getElem?] at hp
    obtain ⟨hlt, -⟩ := List.getElem?_eq_some_iff.1 hp
    rw [lookupCurve_from hcurve.rising hp hx, List.drop_eq_nil_of_le (by omega), lookupFrom_last]
  · obtain ⟨hlt, rfl⟩ := List.getElem?_eq_some_iff.1 hi
    obtain ⟨hlt', rfl⟩ := List.getElem?_eq_some_iff.1 hq
    have hrise := List.pairwise_iff_getElem.1 hcurve.rising i (i + 1) hlt hlt' i.lt_succ_self
    refine ⟨interpolate curve[i] curve[i + 1] x, ?_, interpolate_between hpx hqx⟩
    rw [lookupCurve_from hcurve.rising hi hpx, List.drop_eq_getElem_cons hlt', lookupFrom_segment hrise hpx hqx]

end Sys2Proof.Machine
end

section
/-!
PROOF. The stages of a feeder's computation (R83 to R91), each said once, and the computation they make up (O55).
-/

namespace Sys2Proof.Machine

/-! ### Load, curve and level correction (R83, R84, R85, R96) -/

theorem lookupCurve_eq_none {curve : Curve} {x : Nat} : lookupCurve curve x = none ↔ curve.isEmpty = true := by
  cases curve <;> simp [lookupCurve]

/-- A lookup in an empty curve gives 0 and raises one CONFIG_GAP; any other raises none (R96). -/
theorem lookupOrGap_eq (curves : Vector Curve 8) (id : Fin 8) (x : Nat) :
    lookupOrGap curves id x = ((lookupCurve curves[id] x).getD 0, if curves[id].isEmpty then 1 else 0) := by
  unfold lookupOrGap
  split
  · rename_i y hy
    have hsome : ¬curves[id].isEmpty = true := fun he => by rw [lookupCurve_eq_none.2 he] at hy; cases hy
    rw [hy, if_neg hsome]
    rfl
  · rename_i hnone
    rw [hnone, if_pos (lookupCurve_eq_none.1 hnone)]
    rfl

theorem toNat_clampInt (z : Int) : ((clampInt 0 1000 z).toNat : Int) = max 0 (min 1000 z) := by
  unfold clampInt
  omega

theorem levelCorrection_eq (p : CrusherParams) (level : Option Nat) :
    levelCorrection p level =
      level.elim 0 fun level =>
        max (-300) (min 300 (Int.tdiv (((p.levelTarget : Int) - min level 1000) * p.levelGain) 64)) := by
  cases level with
  | none => rfl
  | some level =>
    dsimp only [levelCorrection, clampInt, Option.elim_some]
    omega

/-- With a fresh power the load is looked up, and the curve value corrected by the level (R83, R84, R85). -/
theorem frontStage_some (curves : Vector Curve 8) (p : CrusherParams) (staleCap power : Nat) (level : Option Nat) :
    frontStage curves p staleCap (some power) level =
      let d1 := p.loadCurve.elim 1000 fun id => (lookupCurve curves[id] (loadOf power p.ratedPower)).getD 0
      { load := some (loadOf power p.ratedPower), curveDemand := some d1, correction := some (levelCorrection p level)
        corrected := (clampInt 0 1000 (d1 + levelCorrection p level)).toNat
        gaps := if p.loadCurve.any fun id => curves[id].isEmpty then 1 else 0 } := by
  unfold frontStage
  cases p.loadCurve with
  | none => rfl
  | some id =>
    dsimp only
    rw [lookupOrGap_eq]
    rfl

/-! ### Bin limit (R86, R87) -/

/-- The stock a feeder counts: the bin, and for F0 the rock riding to it (R86, R87). -/
theorem binFill_eq (s : State) (j : Fin 4) :
    binFill s j =
      min 1000 ((s.lots.inventory + if j = 0 then riding s.lots.table else 0) * 1000 / s.params.capacity) := by
  unfold binFill
  split <;> rfl

/-- With a bin curve and bin information the fill is looked up and limits the demand (R86, R87). -/
theorem binStage_limited {s : State} {j : Fin 4} {id : Fin 8} (hid : binCurve s j = some id)
    (hb : binInformation s.activeTable = true) (d2 : Nat) :
    binStage s j d2 =
      (some (binFill s j), min d2 ((lookupCurve s.activeCurves[id] (binFill s j)).getD 0),
        if s.activeCurves[id].isEmpty then 1 else 0) := by
  unfold binStage
  rw [hid]
  dsimp only
  rw [if_pos hb, lookupOrGap_eq]

theorem binStage_unlimited {s : State} {j : Fin 4}
    (h : binCurve s j = none ∨ binInformation s.activeTable = false) (d2 : Nat) :
    binStage s j d2 = (none, d2, 0) := by
  unfold binStage
  split
  · rfl
  · rename_i id hid
    have hb : ¬binInformation s.activeTable = true := by simpa [hid] using h
    rw [if_neg hb]

theorem binStage_le (s : State) (j : Fin 4) (d2 : Nat) : (binStage s j d2).2.1 ≤ d2 := by
  unfold binStage
  split
  · exact le_rfl
  · split
    · exact min_le_left _ _
    · exact le_rfl

theorem binStage_gaps (s : State) (j : Fin 4) (d2 : Nat) :
    (binStage s j d2).2.2 =
      if binInformation s.activeTable ∧ (binCurve s j).any fun id => s.activeCurves[id].isEmpty then 1 else 0 := by
  cases hid : binCurve s j with
  | none => simp [binStage_unlimited (.inl hid)]
  | some id =>
    cases hb : binInformation s.activeTable with
    | false => simp [binStage_unlimited (.inr hb)]
    | true => simp [binStage_limited hid hb]

/-! ### State and mode cap (R88) -/

theorem capStage_eq (mode : LineMode) (j : Fin 4) (c : Crusher) (d3 : Nat) :
    capStage mode j c d3 =
      if mode ≠ .run ∧ mode ≠ .stopping then (0, .lineMode)
      else if mode = .stopping ∧ j = 0 then (0, .stopping)
      else if c.state = .run then (d3, .none)
      else if c.state = .move then if c.params.moveCap < d3 then (c.params.moveCap, .moveCap) else (d3, .none)
      else if c.state = .recover then
        if c.params.recoverCap < d3 then (c.params.recoverCap, .recoverCap) else (d3, .none)
      else (0, .crusherState) := by
  unfold capStage
  cases c.state <;> rfl

theorem capStage_le (mode : LineMode) (j : Fin 4) (c : Crusher) (d3 : Nat) : (capStage mode j c d3).1 ≤ d3 := by
  rw [capStage_eq]
  split_ifs <;> dsimp only <;> omega

/-- Whether feeder j may stand above 0: its crusher is in a run state, in a line mode that feeds (R79). -/
def State.feeding (s : State) (j : Fin 4) : Prop := (s.crusher j).state.isRun = true ∧ s.line.lineMode.feeds = true

/-- Where a feeder may not run its demand is capped at 0 (R88). -/
theorem capStage_unfed {s : State} {j : Fin 4} (h : ¬s.feeding j) (d3 : Nat) :
    (capStage s.line.lineMode j (s.crusher j) d3).1 = 0 := by
  rw [capStage_eq]
  by_cases hfeeds : s.line.lineMode.feeds = true
  · have hoff : ¬(s.crusher j).state.isRun = true := fun hrun => h ⟨hrun, hfeeds⟩
    have hstate (x : CrusherState) (hx : x.isRun = true) : (s.crusher j).state ≠ x := fun he => hoff (he ▸ hx)
    rw [if_neg (hstate .run rfl), if_neg (hstate .move rfl), if_neg (hstate .recover rfl)]
    split_ifs <;> rfl
  · have hmode (x : LineMode) (hx : x.feeds = true) : s.line.lineMode ≠ x := fun he => hfeeds (he ▸ hx)
    rw [if_pos ⟨hmode .run rfl, hmode .stopping rfl⟩]

/-! ### Slew and minimum run (R89, R90, R91) -/

theorem slewStage_eq (f : Feeder) (n : Nat) (stale : Bool) (d4 : Nat) :
    (slewStage f n stale d4 : Int) =
      max 0
        (min 1000
          (min ((f.output : Int) + f.slewUp * n)
            (max (if stale then 0 else (f.output : Int) - f.slewDown * n) d4))) := by
  unfold slewStage clamp
  simp only [← Nat.cast_mul]
  generalize f.slewDown * n = down
  generalize f.slewUp * n = up
  cases stale <;> simp only [Bool.false_eq_true, if_false, if_true] <;> omega

/-- S rises by at most slewUp for each elapsed cycle, and in a stale computation it does not pass the demand. -/
theorem slewStage_le (f : Feeder) (n : Nat) (stale : Bool) (d4 : Nat) :
    slewStage f n stale d4 ≤ 1000 ∧ slewStage f n stale d4 ≤ f.output + f.slewUp * n ∧
      (stale = true → slewStage f n stale d4 ≤ d4) := by
  unfold slewStage clamp
  refine ⟨min_le_left _ _, (min_le_right _ _).trans (min_le_left _ _), fun hs => ?_⟩
  rw [if_pos hs]
  omega

theorem slewStage_zero {f : Feeder} (h : f.output = 0) (n : Nat) (stale : Bool) : slewStage f n stale 0 = 0 := by
  simp [slewStage, clamp, h]

theorem minRunStage_least (minRun slewed d4 : Nat) :
    minRunStage minRun slewed d4 = 0 ∨ minRun ≤ minRunStage minRun slewed d4 := by
  unfold minRunStage
  split_ifs <;> omega

theorem minRunStage_le (minRun slewed d4 : Nat) : minRunStage minRun slewed d4 ≤ max slewed (min minRun d4) := by
  unfold minRunStage
  split_ifs <;> omega

/-! ### The computation -/

theorem freshScalar_of_not_fresh {s : State} {r : Role} (h : s.isFresh r = false) : s.freshScalar r = none := by
  unfold State.isFresh at h
  unfold State.freshScalar
  generalize s.recordOf r = held at h
  cases held with
  | none => rfl
  | some rec => exact if_neg (Bool.not_eq_true _ ▸ h)

theorem computation_least (s : State) (j : Fin 4) :
    (computation s j).output = 0 ∨ (s.feeder j).minRun ≤ (computation s j).output :=
  minRunStage_least _ _ _

/-- A feeder at 0 that may not run computes 0 (R94). -/
theorem computation_unfed {s : State} {j : Fin 4} (h : ¬s.feeding j) (h0 : (s.feeder j).output = 0) :
    (computation s j).output = 0 := by
  unfold computation
  dsimp only
  rw [capStage_unfed h, slewStage_zero h0]
  exact Nat.le_zero.1 (minRunStage_le _ _ _ |>.trans (by omega))

theorem computation_rise (s : State) (j : Fin 4) :
    (computation s j).output ≤
      max ((s.feeder j).output + (s.feeder j).slewUp * (computation s j).stage.elapsed) (s.feeder j).minRun :=
  (minRunStage_le _ _ _).trans (max_le_max (slewStage_le _ _ _ _).2.1 (min_le_left _ _))

theorem computation_le {s : State} {j : Fin 4} (h : (s.feeder j).minRun ≤ 1000) : (computation s j).output ≤ 1000 :=
  (minRunStage_le _ _ _).trans (max_le (slewStage_le _ _ _ _).1 ((min_le_left _ _).trans h))

/-- A stale computation starts from staleCap, and no later stage passes it (R83, R91). -/
theorem computation_stale {s : State} {j : Fin 4} (h : s.freshScalar (.power j) = none) :
    (computation s j).output ≤ (s.feeder j).staleCap := by
  have hcap : (computation s j).stage.capped ≤ (s.feeder j).staleCap := by
    refine (capStage_le _ _ _ _).trans ((binStage_le _ _ _).trans ?_)
    rw [h]
    exact le_rfl
  have hslew : (computation s j).stage.slewed ≤ (computation s j).stage.capped :=
    (slewStage_le _ _ _ _).2.2 (by rw [h]; rfl)
  exact (minRunStage_le _ _ _).trans (max_le (hslew.trans hcap) ((min_le_right _ _).trans hcap))

theorem computation_gaps (s : State) (j : Fin 4) :
    (computation s j).gaps =
      (if (s.freshScalar (.power j)).isSome ∧
            (s.crusher j).params.loadCurve.any fun id => s.activeCurves[id].isEmpty then 1 else 0) +
        (if binInformation s.activeTable ∧ (binCurve s j).any fun id => s.activeCurves[id].isEmpty then 1 else 0) := by
  unfold computation
  dsimp only
  rw [binStage_gaps]
  cases s.freshScalar (.power j) with
  | none => simp [frontStage]
  | some power => simp [frontStage_some]

/-- With the drive value that of the output, a computation leaves it so (R81). -/
theorem computedFeeder_eq {s : State} {j : Fin 4}
    (h : (s.feeder j).driveValue = driveValueOf s.activeTable j (s.feeder j).output) :
    computedFeeder s j =
      { s.feeder j with
        output := (computation s j).output, lastComputeCycle := s.tracker.cycleCount
        driveValue := driveValueOf s.activeTable j (computation s j).output
        stage := some (computation s j).stage } := by
  unfold computedFeeder
  dsimp only
  split
  · rename_i hsame
    rw [hsame, h]
  · rfl

/-- A computation replaces its feeder and raises CONFIG_GAP, and does nothing else (R82, R90, R96). -/
theorem computeFeeder_set (j : Fin 4) (s : State) :
    computeFeeder j s =
      { s with feeders := s.feeders.set j (computedFeeder s j), causes := (computeFeeder j s).causes } := by
  unfold computeFeeder
  dsimp only
  rw [raiseTimes_eq]
  rfl

/-- Of the causes a computation raises CONFIG_GAP alone, once for each lookup in an empty curve (R96). -/
theorem raisedEach_computeFeeder (s : State) (j : Fin 4) :
    RaisedEach s.params.causeMask (fun y => if y = .configGap then (computation s j).gaps else 0) s.causes
      (computeFeeder j s).causes := by
  rw [causes_computeFeeder]
  refine (raisedEach_foldl _ _ _).congr fun y => ?_
  simp only [List.count_replicate, beq_iff_eq, @eq_comm _ y]

/-- Settles O55: each stage as it is said of it above, and the bounds that follow from one stage to the next. -/
theorem feederComputation : Obligations.FeederComputation := by
  intro s j h f c t g n
  have hg : g = computedFeeder s j := by
    simp only [g, t, feeder_computeFeeder, if_true]
  rw [computedFeeder_eq (h.drive j)] at hg
  refine ⟨⟨?_, by rw [hg], by rw [hg]; rfl, by rw [hg], fun hoff => ?_, ?_, ?_, fun hstale => ?_⟩,
    (computation s j).stage, by rw [hg], by rw [hg], ?_⟩
  · have ht := computeFeeder_set j s
    rwa [computedFeeder_eq (h.drive j), ← hg] at ht
  · rw [hg]
    exact computation_unfed hoff (by_contra fun h0 => hoff (h.feeds j h0))
  · rw [hg]
    exact computation_least s j
  · rw [hg]
    exact computation_rise s j
  · rw [hg]
    exact computation_stale (freshScalar_of_not_fresh hstale)
  refine ⟨fun power hp => ?_, fun hp => ?_, ⟨fun i hid hb => ?_, fun hnone => ?_⟩, ?_, ?_, by rw [hg]; rfl, ?_⟩
  · intro load d1 corr
    have hcorr : levelCorrection c.params (s.freshScalar (.level j)) = corr := levelCorrection_eq _ _
    have hfront := frontStage_some s.activeCurves c.params f.staleCap power (s.freshScalar (.level j))
    rw [hcorr, ← hp] at hfront
    unfold computation
    dsimp only
    rw [hfront, hp]
    refine ⟨rfl, rfl, rfl, rfl, ?_⟩
    exact toNat_clampInt _
  · unfold computation
    dsimp only
    rw [hp]
    exact ⟨rfl, rfl, rfl, rfl, rfl⟩
  · have hbin := binStage_limited hid hb (computation s j).stage.corrected
    rw [binFill_eq] at hbin
    exact ⟨congrArg Prod.fst hbin, congrArg (fun r => r.2.1) hbin⟩
  · have hbin := binStage_unlimited hnone (computation s j).stage.corrected
    exact ⟨congrArg Prod.fst hbin, congrArg (fun r => r.2.1) hbin⟩
  · exact capStage_eq s.line.lineMode j c (computation s j).stage.binDemand
  · exact slewStage_eq f n (computation s j).stage.stale (computation s j).stage.capped
  · intro gaps
    have hgaps : (computation s j).gaps = gaps := computation_gaps s j
    rw [← hgaps]
    exact raisedEach_computeFeeder s j

end Sys2Proof.Machine
end

section
/-!
PROOF. WRITE_FEEDER (O29): its arguments, the ranges in their order, and the write with its immediate zero (R80, R81).
-/

namespace Sys2Proof.Machine

/-! ### The arguments and their ranges -/

/-- Arguments that fit their bytes are judged by their ranges, then written over the feeder of the index (R80). -/
theorem writeFeederAct_words {slewUp slewDown minRun staleCap : Nat} (hup : slewUp < 65536) (hdown : slewDown < 65536)
    (hmin : minRun < 65536) (hcap : staleCap < 65536) (j : Fin 4) (rest : List Byte) (s : State) :
    writeFeederAct
        (BitVec.ofNat 8 j.val ::
          (beBytes 2 slewUp ++ beBytes 2 slewDown ++ beBytes 2 minRun ++ beBytes 2 staleCap ++ rest)) s =
      (firstFailing 1 (feederChecks slewUp slewDown minRun staleCap)).elim
        (answered .done (writeFeeder slewUp slewDown minRun staleCap j s)) fun position => badParameter position s := by
  unfold writeFeederAct
  simp only [List.append_assoc]
  rw [arguments_byte, arguments_beBytes hup, arguments_beBytes hdown, arguments_beBytes hmin, arguments_beBytes hcap,
    arguments_nil, toNat_ofNat_fin4]
  dsimp only [Option.map_some]
  rw [index4_val]
  cases firstFailing 1 (feederChecks slewUp slewDown minRun staleCap) <;> rfl

theorem writeFeederAct_above {index : Byte} (h : 3 < index.toNat) (rest : List Byte) (s : State) :
    writeFeederAct (index :: rest) s = answered .badArg s := by
  unfold writeFeederAct
  split
  · rename_i k _ _ _ _ hargs
    rw [arguments_byte] at hargs
    obtain ⟨others, -, hcons⟩ := Option.map_eq_some_iff.1 hargs
    obtain ⟨rfl, -⟩ := List.cons.inj hcons
    rw [index4_eq_none.2 h]
  · rfl

/-- The first parameter out of its range, in the order of R80. -/
theorem feederFailure_eq (slewUp slewDown minRun staleCap : Nat) :
    firstFailing 1 (feederChecks slewUp slewDown minRun staleCap) =
      if ¬(1 ≤ slewUp ∧ slewUp ≤ 1000) then some 1
      else if ¬(1 ≤ slewDown ∧ slewDown ≤ 1000) then some 2
      else if 500 < minRun then some 3
      else if 1000 < staleCap then some 4
      else none := by
  simp only [feederChecks, firstFailing, inRange, Nat.zero_le, decide_true, Bool.true_and, Bool.and_eq_true,
    decide_eq_true_eq, ite_not, ← Nat.not_le (a := minRun), ← Nat.not_le (a := staleCap)]

/-! ### The write -/

/-- Feeder record `f` with four parameters written: an output that the new minRun cuts off is zeroed (R80). -/
def Feeder.written (tab : Vector Entry 32) (j : Fin 4) (slewUp slewDown minRun staleCap : Nat) (f : Feeder) : Feeder :=
  let new := { f with slewUp := slewUp, slewDown := slewDown, minRun := minRun, staleCap := staleCap }
  if 0 < f.output ∧ f.output < minRun then new.zeroed tab j else new

theorem writeFeeder_eq (slewUp slewDown minRun staleCap : Nat) (j : Fin 4) (s : State) :
    writeFeeder slewUp slewDown minRun staleCap j s =
      s.setFeeder j ((s.feeder j).written s.activeTable j slewUp slewDown minRun staleCap) := by
  unfold writeFeeder Feeder.written
  dsimp only
  split
  · unfold zeroFeeder Feeder.zeroed
    rw [State.feeder_setFeeder, if_pos rfl]
    unfold State.setFeeder
    dsimp only
    rw [Vector.set_set]
  · rfl

/-- Settles O29: each range in its order, then the write over the one record. -/
theorem writeFeeder_served : Obligations.WriteFeeder := by
  refine ⟨?_, fun s own src index rest h hindex =>
    congrArg Host.Outcome.next (serve_own_refused h (act := writeFeederAct) (writeFeederAct_above hindex _ _))⟩
  intro s own src j slewUp slewDown minRun staleCap rest hup hdown hmin hcap payload h
  refine congrArg Host.Outcome.next ?_
  have hact := writeFeederAct_words hup hdown hmin hcap j rest s.asked
  rw [feederFailure_eq] at hact
  have hroom : s.asked.relay.mBound = s.relay.mBound := congrArg Relay.mBound s.asked_relay
  by_cases h1 : ¬(1 ≤ slewUp ∧ slewUp ≤ 1000)
  · rw [if_pos h1] at hact ⊢
    exact serve_own_answer h (act := writeFeederAct) hact hroom
  rw [if_neg h1] at hact ⊢
  by_cases h2 : ¬(1 ≤ slewDown ∧ slewDown ≤ 1000)
  · rw [if_pos h2] at hact ⊢
    exact serve_own_answer h (act := writeFeederAct) hact hroom
  rw [if_neg h2] at hact ⊢
  by_cases h3 : 500 < minRun
  · rw [if_pos h3] at hact ⊢
    exact serve_own_answer h (act := writeFeederAct) hact hroom
  rw [if_neg h3] at hact ⊢
  by_cases h4 : 1000 < staleCap
  · rw [if_pos h4] at hact ⊢
    exact serve_own_answer h (act := writeFeederAct) hact hroom
  rw [if_neg h4] at hact ⊢
  rw [Option.elim_none, writeFeeder_eq, State.asked_feeder, State.asked_activeTable, State.setFeeder,
    State.asked_feeders] at hact
  exact serve_own_answer h (act := writeFeederAct) hact hroom

end Sys2Proof.Machine
end

section
/-!
PROOF. The feeders (O6): what one record must satisfy (R79, R81), and that every block leaves a feeder as it is while it
may run, zeroes it when it may no longer (R92, R93), or gives it the result of a computation or of a write (R80, R90).
-/

namespace Sys2Proof.Machine

/-! ### One record (R79, R81) -/

/-- What R79 and R81 say of the record of feeder j, under a table, where `on` says whether it may stand above 0. -/
structure GovernorInv (tab : Vector Entry 32) (j : Fin 4) (on : Prop) (f : Feeder) : Prop where
  rates : 1 ≤ f.slewUp ∧ f.slewUp ≤ 1000 ∧ 1 ≤ f.slewDown ∧ f.slewDown ≤ 1000 ∧ f.minRun ≤ 500 ∧ f.staleCap ≤ 1000
  output : f.output ≤ 1000
  least : f.output = 0 ∨ f.minRun ≤ f.output
  feeds : f.output ≠ 0 → on
  drive : f.driveValue = driveValueOf tab j f.output

theorem feederInv_iff {s : State} :
    FeederInv s ↔ ∀ j, GovernorInv s.activeTable j (s.feeding j) (s.feeder j) :=
  ⟨fun h j => ⟨h.rates j, h.output j, h.least j, h.feeds j, h.drive j⟩,
    fun h => ⟨fun j => (h j).rates, fun j => (h j).output, fun j => (h j).least, fun j => (h j).feeds,
      fun j => (h j).drive⟩⟩

section
variable {tab : Vector Entry 32} {j : Fin 4} {on on' : Prop} {f : Feeder}

theorem GovernorInv.mono (h : GovernorInv tab j on f) (ho : on → on') : GovernorInv tab j on' f :=
  ⟨h.rates, h.output, h.least, fun hf => ho (h.feeds hf), h.drive⟩

theorem GovernorInv.zeroed (h : GovernorInv tab j on f) : GovernorInv tab j on' (f.zeroed tab j) :=
  ⟨h.rates, Nat.zero_le _, .inl rfl, fun hf => absurd rfl hf, rfl⟩

/-- Values in range, and an output that the new minRun would cut off at 0 (R80). -/
theorem GovernorInv.written (h : GovernorInv tab j on f) {slewUp slewDown minRun staleCap : Nat}
    (hr : firstFailing 1 (feederChecks slewUp slewDown minRun staleCap) = none) :
    GovernorInv tab j on (f.written tab j slewUp slewDown minRun staleCap) := by
  simp only [firstFailing_eq_none, feederChecks, inRange, List.mem_cons, List.not_mem_nil, or_false, forall_eq_or_imp,
    forall_eq, Bool.and_eq_true, decide_eq_true_eq] at hr
  unfold Feeder.written
  dsimp only
  split
  · exact ⟨by dsimp only [Feeder.zeroed]; omega, Nat.zero_le _, .inl rfl, fun hf => absurd rfl hf, rfl⟩
  · exact ⟨by dsimp only; omega, h.output, by dsimp only; omega, h.feeds, h.drive⟩

end

/-- All that FeederInv reads of a state. -/
def State.feederView (s : State) := (s.activeTable, s.crushers, s.feeders, s.line.lineMode)

/-- Where a change of mode does not zero the feeders it stands no crusher down, and the line feeds on (R93, R131). -/
theorem feeds_of_not_zeroed {old new : LineMode} (ho : old.feeds = true) (hready : new ≠ .ready)
    (hz : zeroesFeeders old new = false) : new.feeds = true ∧ signalsCrushers old new = false := by
  cases new with
  | run | stopping => exact ⟨rfl, by simp [signalsCrushers]⟩
  | ready => exact absurd rfl hready
  | idle | stopped | tripped => simp [zeroesFeeders, ho] at hz

theorem readRecordAct_state (payload : List Byte) (s : State) : (readRecordAct payload s).state = s := by
  unfold readRecordAct
  repeat' split
  all_goals rfl

namespace FeederInv

variable {s t : State}

/-- A feeder may be zeroed, or stay as it is while it may run where it might before. -/
theorem follows (h : FeederInv s) (ht : t.activeTable = s.activeTable)
    (hf : ∀ j, t.feeder j = (s.feeder j).zeroed s.activeTable j ∨
      t.feeder j = s.feeder j ∧ (s.feeding j → t.feeding j)) : FeederInv t := by
  refine feederInv_iff.2 fun j => ?_
  have hj := feederInv_iff.1 h j
  rw [ht]
  rcases hf j with he | ⟨he, hfeeding⟩ <;> rw [he]
  · exact hj.zeroed
  · exact hj.mono hfeeding

theorem of_view (h : FeederInv s) (ht : t.feederView = s.feederView) : FeederInv t := by
  simp only [State.feederView, Prod.mk.injEq] at ht
  obtain ⟨htab, hcrushers, hfeeders, hmode⟩ := ht
  refine h.follows htab fun j => .inr ⟨State.feeder_congr hfeeders j, ?_⟩
  unfold State.feeding
  rw [State.crusher_congr hcrushers, hmode]
  exact id

theorem raised (h : FeederInv s) (x : Cause) : FeederInv (raise x s) := h.of_view rfl

/-- A crusher context takes its feeder to 0 as it leaves the run states, whatever the change (R92). -/
theorem change (h : FeederInv s) {k : Fin 4} {ch : Change} : FeederInv (changeCrusher k ch s) := by
  refine h.follows (by simp) fun j => ?_
  rw [State.feeder_changeCrusher]
  split
  · rename_i hk
    obtain ⟨rfl, -⟩ := hk
    exact .inl rfl
  · rename_i hk
    refine .inr ⟨rfl, fun ⟨hrun, hmode⟩ => ⟨?_, by simpa using hmode⟩⟩
    rw [State.crusher_changeCrusher]
    split
    · subst_vars
      simpa [hrun] using hk
    · exact hrun

/-- Each of the four crushers in turn changes. -/
theorem changeFour (h : FeederInv s) (f : Fin 4 → State → Change) :
    FeederInv (forFour (fun k t => changeCrusher k (f k t) t) s) :=
  forFour_induct FeederInv h fun _ _ ht => ht.change

theorem signal (h : FeederInv s) : FeederInv (signalCrushers s) := h.changeFour _

theorem restartCrushers (h : FeederInv s) : FeederInv (restartCrushers s) := h.changeFour _

theorem cycleCrushers (h : FeederInv s) : FeederInv (cycleCrushers s) := h.changeFour _

theorem zeroFeeders (h : FeederInv s) : FeederInv (zeroFeeders s) :=
  h.follows (by simp) fun j => .inl (feeder_zeroFeeders s j)

theorem computeFeeder (h : FeederInv s) (i : Fin 4) : FeederInv (computeFeeder i s) := by
  refine feederInv_iff.2 fun j => ?_
  have hj := feederInv_iff.1 h j
  have hfeeding : (Machine.computeFeeder i s).feeding j = s.feeding j := by
    rw [computeFeeder_set]
    rfl
  have htab : (Machine.computeFeeder i s).activeTable = s.activeTable := by simp
  rw [hfeeding, htab, feeder_computeFeeder]
  split
  · rename_i hkj
    subst hkj
    rw [computedFeeder_eq hj.drive]
    have hmin : (s.feeder i).minRun ≤ 1000 := by
      have := hj.rates
      omega
    exact ⟨hj.rates, computation_le hmin, computation_least s _, fun hout => by_contra fun hoff =>
      hout (computation_unfed hoff (by_contra fun h0 => hoff (hj.feeds h0))), rfl⟩
  · exact hj

/-- READY is entered from modes that do not feed; every other mode zeroes the feeders, or feeds on (R93, R131). -/
theorem changeMode (h : FeederInv s) {mode : LineMode} (hm : s.line.lineMode.feeds = true → mode ≠ .ready) :
    FeederInv (changeMode mode s) := by
  refine h.follows (by simp) fun j => ?_
  rw [feeder_changeMode]
  split
  · exact .inl rfl
  · rename_i hkeeps
    rw [Bool.not_eq_true, Bool.or_eq_false_iff] at hkeeps
    refine .inr ⟨rfl, fun ⟨hrun, hfeeds⟩ => ?_⟩
    obtain ⟨hon, hsignal⟩ := feeds_of_not_zeroed hfeeds (hm hfeeds) hkeeps.1
    unfold State.feeding
    rw [crusher_changeMode, hsignal, if_neg Bool.false_ne_true, (changeMode_line mode s).1]
    exact ⟨hrun, hon⟩

/-! ### Line mode (R131) -/

theorem discardStop (h : FeederInv s) (how : StopEnd) : FeederInv (discardStop how s) := by
  rw [discardStop_eq]
  exact h.of_view rfl

theorem enterTripped (h : FeederInv s) (a : TripInputs) : FeederInv (enterTripped a s) := by
  unfold Machine.enterTripped
  refine changeMode ?_ fun _ => by decide
  exact (h.discardStop .tripped).of_view rfl

theorem takeTripInputs (h : FeederInv s) (a : TripInputs) : FeederInv (takeTripInputs a s) := by
  unfold Machine.takeTripInputs
  split
  · split
    · exact h.of_view rfl
    · exact h.enterTripped a
  · exact h

theorem evaluateTrip (h : FeederInv s) : FeederInv (evaluateTrip s) := h.takeTripInputs _

theorem endStop (h : FeederInv s) (how : StopEnd) : FeederInv (endStop how s) := by
  unfold Machine.endStop
  refine changeMode ?_ fun _ => by decide
  exact h.of_view rfl

/-- The counted cycle of the controller (R140). -/
theorem cycleLine (h : FeederInv s) : FeederInv (cycleLine s) := by
  unfold Machine.cycleLine
  split
  · split
    · exact h.endStop _
    · split
      · split
        · exact (h.endStop _).raised _
        · exact h.of_view rfl
      · exact h
  · exact h

theorem lineAcquired (h : FeederInv s) : FeederInv (lineAcquired s) := by
  unfold Machine.lineAcquired
  refine evaluateTrip ?_
  split
  · rename_i hm
    exact h.changeMode fun hf => by rw [hm] at hf; cases hf
  · exact h

theorem lineLockLost (h : FeederInv s) : FeederInv (lineLockLost s) := by
  unfold Machine.lineLockLost
  split
  · exact h
  · exact (h.discardStop _).changeMode fun _ => by decide

theorem lineRestart (h : FeederInv s) : FeederInv (lineRestart s) := by
  unfold Machine.lineRestart
  refine takeTripInputs ?_ _
  split
  · exact h
  · exact (h.discardStop _).changeMode fun _ => by decide

/-! ### Arrivals (R18) -/

theorem actuatorArrival (h : FeederInv s) (k : Fin 4) : FeederInv (actuatorArrival k s) := by
  unfold Machine.actuatorArrival
  split
  · exact h.change.change
  · exact h

theorem travelArrival (h : FeederInv s) (d : Nat) : FeederInv (travelArrival d s) := by
  have hlots (x : LotTracker) (n : Nat) : FeederInv (raiseTimes .lotTableFull n (s.setLots x)) :=
    h.of_view (by simp [State.feederView])
  unfold Machine.travelArrival
  split
  · exact h
  · split
    · exact hlots _ 0
    · unfold lotEvents retirementTest
      dsimp only
      split
      · split
        · exact (hlots _ _).endStop _
        · exact hlots _ _
      · exact hlots _ _

theorem deliverArrival (h : FeederInv s) (a : Arrival) : FeederInv (deliverArrival a s) := by
  unfold Machine.deliverArrival
  split
  case h_1 => exact h.evaluateTrip
  case h_2 k _ =>
    unfold pressureArrival
    split
    · exact h.change
    · exact h
  case h_3 k _ => exact h.actuatorArrival k
  case h_4 k _ => exact h.change
  case h_5 k _ => exact (h.computeFeeder k).change
  case h_8 => exact h.travelArrival _
  all_goals exact h.of_view (by simp [State.feederView])

/-! ### The store and commits (R13, R19, R81) -/

theorem noticeStale (h : FeederInv s) (i : Fin 32) : FeederInv (noticeStale i s) := by
  rcases noticeStale_cases i s with ⟨k, -, he⟩ | ⟨-, he⟩ | ⟨-, -, he⟩ <;> rw [he]
  · exact h.computeFeeder k
  · exact h.evaluateTrip
  · exact h

theorem noticeStales (h : FeederInv s) (l : List (Fin 32)) : FeederInv (inFreeOrder l Machine.noticeStale s) :=
  inFreeOrder_induct FeederInv (h.of_view rfl) fun i _ _ ht => ht.noticeStale i

theorem cycleStore (h : FeederInv s) : FeederInv (cycleStore s) := by
  unfold Machine.cycleStore
  exact noticeStales (h.of_view (by simp [State.feederView])) _

/-- With the new bank every drive value is computed again, and nothing else of a feeder changes (R81). -/
theorem stationCopied (h : FeederInv s) : FeederInv (stationCopied s) := by
  obtain ⟨htab, -, -, -, hline, hcrushers, -⟩ := stationCopied_frame s
  refine feederInv_iff.2 fun j => ?_
  have hj := feederInv_iff.1 h j
  have hfeeding : (Machine.stationCopied s).feeding j = s.feeding j := by
    unfold State.feeding
    rw [State.crusher_congr hcrushers, hline]
  rw [htab, hfeeding, feeder_stationCopied]
  exact ⟨hj.rates, hj.output, hj.least, hj.feeds, rfl⟩

theorem applyStation (h : FeederInv s) : FeederInv (applyStation s) := by
  refine raised (s := inFreeOrder (informedOf s.activeTable s.stagedTable)
    (informCommit s.activeTable s.stagedTable) (Machine.stationCopied s)) ?_ .tableCommitted
  refine inFreeOrder_induct FeederInv (h.stationCopied.of_view rfl) fun x _ t ht => ?_
  cases x with
  | record i => exact ht.noticeStale i
  | crusher k => exact ht.change

theorem applyCommits (h : FeederInv s) : FeederInv (applyCommits s) := by
  refine inFreeOrder_induct FeederInv (h.of_view rfl) fun b _ t ht => ?_
  unfold applyPending
  split
  · split
    · exact ht.applyStation
    · exact ht
  · split
    · exact ht.of_view rfl
    · exact ht

/-! ### Line time (R28, R31, R34) -/

theorem cycleWork (h : FeederInv s) (u : CycleUser) : FeederInv (cycleWork u s) := by
  cases u with
  | store => exact h.cycleStore
  | crushers => exact h.cycleCrushers
  | confirm => exact h.of_view (by simp [State.feederView, Machine.cycleWork])
  | line => exact h.cycleLine
  | handler => exact h.applyCommits

theorem acquireWork (h : FeederInv s) (u : AcquireUser) : FeederInv (acquireWork u s) := by
  cases u with
  | store => exact h.noticeStales _
  | line => exact h.lineAcquired
  | handler => exact h.applyCommits

theorem keptByTime : KeptByTime FeederInv where
  raise _ x _ h := h.raised x
  lock _ _ _ h := h.of_view rfl
  free _ _ h := h.of_view rfl
  cycle u _ h := h.cycleWork u
  stale _ h := h.of_view (by simp [State.feederView])
  acquire u _ h := h.acquireWork u
  lost _ h := h.lineLockLost.signal.zeroFeeders
  onset _ _ h := h.change

/-! ### Requests -/

/-- A request that changes one context (R172). -/
theorem change_answered (h : FeederInv s) {k : Fin 4} {ch : Change} (r : Result) :
    FeederInv (answered r (changeCrusher k ch s)).state := by
  dsimp only [answered]
  exact h.change

/-- LINE_START enters RUN, or TRIPPED where a trip input is active (R129). -/
theorem lineStart (h : FeederInv s) (payload : List Byte) : FeederInv (lineStartAct payload s).state := by
  have hrun : FeederInv (Machine.changeMode .run s) := h.changeMode fun _ => by decide
  have hstart : FeederInv (if (tripInputs s).any then withMode .wrongMode (Machine.enterTripped (tripInputs s) s)
      else withMode .done (Machine.changeMode .run s)).state := by
    split
    · exact h.enterTripped _
    · exact hrun
  unfold lineStartAct
  split
  case h_1 => exact hstart
  case h_2 => exact hstart
  case h_3 => exact (h.discardStop _).changeMode fun _ => by decide
  all_goals exact h

theorem lineStop (h : FeederInv s) (payload : List Byte) : FeederInv (lineStopAct payload s).state := by
  unfold lineStopAct
  split
  case h_1 =>
    refine changeMode ?_ fun _ => by decide
    exact h.of_view rfl
  all_goals exact h

/-- TRIP_RELEASE enters READY or IDLE from TRIPPED, which does not feed (R136). -/
theorem tripRelease (h : FeederInv s) (payload : List Byte) : FeederInv (tripReleaseAct payload s).state := by
  unfold tripReleaseAct
  split
  · rename_i hm
    dsimp only
    split
    · exact h.of_view rfl
    · refine changeMode ?_ fun hf => ?_
      · exact h.of_view rfl
      · dsimp only at hf
        rw [hm] at hf
        cases hf
  · exact h

theorem writeFeeder (h : FeederInv s) (payload : List Byte) : FeederInv (writeFeederAct payload s).state := by
  unfold writeFeederAct
  split
  · split
    · rename_i j _
      split
      · exact h
      · rename_i hr
        dsimp only [answered]
        rw [writeFeeder_eq]
        refine feederInv_iff.2 fun i => ?_
        have hi := feederInv_iff.1 h i
        rw [State.feeder_setFeeder]
        split
        · rename_i hji
          subst hji
          exact hi.written hr
        · exact hi
    · exact h
  · exact h

theorem writeLine (h : FeederInv s) (payload : List Byte) : FeederInv (writeLineAct payload s).state := by
  unfold writeLineAct
  split
  · split
    · exact h
    · unfold Machine.writeLine answered
      exact evaluateTrip (h.of_view rfl)
  · exact h

theorem writeCrusher (h : FeederInv s) (payload : List Byte) : FeederInv (writeCrusherAct payload s).state := by
  unfold writeCrusherAct
  split
  · split
    · split
      · exact h
      · exact h.change_answered _
    · exact h
  · exact h

theorem setTarget (h : FeederInv s) (payload : List Byte) : FeederInv (setTargetAct payload s).state := by
  unfold setTargetAct
  split
  · split
    · dsimp only
      split
      · exact h
      · dsimp only
        exact h.change
    · exact h
  · exact h

theorem crusherEnable (h : FeederInv s) (payload : List Byte) : FeederInv (crusherEnableAct payload s).state := by
  unfold crusherEnableAct
  split
  · exact h
  · split
    · exact h
    · refine indexed_keeps h (fun k => ?_) payload
      split
      · exact h.change_answered _
      all_goals exact h

theorem crusherDisable (h : FeederInv s) (payload : List Byte) : FeederInv (crusherDisableAct payload s).state := by
  refine indexed_keeps h (fun k => ?_) payload
  split
  · exact h
  · exact h.change_answered _

theorem faultClear (h : FeederInv s) (payload : List Byte) : FeederInv (faultClearAct payload s).state := by
  refine indexed_keeps h (fun k => ?_) payload
  split
  · exact h.change_answered _
  · exact h

theorem wearReset (h : FeederInv s) (payload : List Byte) : FeederInv (wearResetAct payload s).state := by
  refine indexed_keeps h (fun k => ?_) payload
  exact h.change_answered _

theorem changeDryRun (h : FeederInv s) (on : Bool) : FeederInv (changeDryRun on s) := by
  unfold Machine.changeDryRun
  refine changeFour ?_ _
  exact h.of_view rfl

theorem dryRun (h : FeederInv s) (payload : List Byte) : FeederInv (dryRunAct payload s).state := by
  have ht (on : Bool) {t : State} (h : FeederInv t) : FeederInv (takeDryRun on t).state := by
    unfold takeDryRun
    dsimp only
    split
    · exact h
    · exact h.changeDryRun on
  unfold dryRunAct
  split
  · split
    · exact ht _ h
    · exact ht _ (h.of_view rfl)
  · exact h

theorem rejectLot (h : FeederInv s) (payload : List Byte) : FeederInv (rejectLotAct payload s).state := by
  unfold rejectLotAct
  split
  · dsimp only
    split
    · exact h.of_view rfl
    · exact h
  · exact h

theorem loadOpen (h : FeederInv s) (payload : List Byte) : FeederInv (loadOpenAct payload s).state := by
  unfold loadOpenAct
  split
  · split
    · split
      · exact h
      · split
        · exact h
        · exact h.of_view (by simp [State.feederView, openSession, setSession])
    · exact h
  · exact h

theorem commit (h : FeederInv s) (payload : List Byte) : FeederInv (commitAct payload s).state := by
  have hset (b : Bank) : FeederInv (setPending b s) := by
    cases b <;> exact h.of_view rfl
  unfold commitAct
  split
  · split
    · split
      · exact h
      · split
        · exact h
        · split
          · exact h
          · exact hset _
    · exact h
  · exact h

theorem restartLots (h : FeederInv s) : FeederInv (restartLots s) := h.of_view rfl

/-- Every feeder is zeroed after the crushers have restarted, and the controller zeroes them again (R100, R144). -/
theorem warmRestart (h : FeederInv s) : FeederInv (warmRestart s) := by
  unfold Machine.warmRestart
  have hblocks : FeederInv (staleAll (restartTracker (endSession .restart s))) :=
    h.of_view (by simp [State.feederView, restartTracker])
  exact hblocks.restartCrushers.zeroFeeders.restartLots.lineRestart.of_view (by simp [State.feederView])

/-- No request leaves a feeder with an output that R79 does not allow. -/
theorem request {act : List Byte → State → Served} (ha : act ∈ requestActs) (payload : List Byte) (h : FeederInv s) :
    FeederInv (act payload s).state := by
  simp only [requestActs, List.mem_cons, List.not_mem_nil, or_false] at ha
  rcases ha with rfl | rfl | rfl | rfl | rfl | rfl | rfl | rfl | rfl | rfl | rfl | rfl | rfl | rfl | rfl | rfl | rfl |
    rfl | rfl | rfl | rfl | rfl
  · exact h.of_view rfl
  · exact h.of_view rfl
  · rw [readRecordAct_state]; exact h
  · exact h.writeCrusher payload
  · exact h.writeFeeder payload
  · exact h.writeLine payload
  · exact h.setTarget payload
  · exact h.crusherEnable payload
  · exact h.crusherDisable payload
  · exact h.faultClear payload
  · exact h.wearReset payload
  · exact h.lineStart payload
  · exact h.lineStop payload
  · exact h.tripRelease payload
  · exact h.rejectLot payload
  · exact h.loadOpen payload
  · exact h.commit payload
  · exact h.dryRun payload
  · unfold deviceClearAct answered
    exact h.of_view (by simp [State.feederView, clearCounters])
  · simp only [warmRestartAct, answered]
    exact h.warmRestart
  · exact h
  · exact h

end FeederInv

theorem feederInv_powerOn (addr : BitVec 7) (rate : BitVec 3) (low : Bool) (s : State) :
    FeederInv (powerOn addr rate low s) :=
  feederInv_reset.of_view rfl

theorem feederInv_keptByBlocks : KeptByBlocks FeederInv where
  ports _ _ _ _ h := h.of_view rfl
  relay _ _ h := h.of_view rfl
  rewriter _ _ h := h.of_view rfl
  waiting _ _ h := h.of_view rfl
  raise _ x _ h := h.raised x
  rollMisses _ _ h := h.of_view rfl
  timer _ _ h := h.of_view rfl
  reset s addr rate low _ := (feederInv_powerOn addr rate low s).takeTripInputs _
  pin _ _ h := FeederInv.evaluateTrip (h.of_view rfl)
  marker _ payload h := FeederInv.keptByTime.marker h payload
  expiry _ h := FeederInv.keptByTime.expiry h
  reply _ _ h := observe_keeps h (h.of_view (by simp [State.feederView])) fun a _ hu => hu.deliverArrival a
  session _ _ h := h.of_view (by simp [State.feederView])
  stream _ _ _ h := h.of_view (by simp [State.feederView])
  request _ ha payload _ h := h.request ha payload

/-- Settles O6: every block leaves a feeder as it is while it may run, zeroes it when it may no longer, or gives it an
output that its stages and its minRun allow. -/
theorem feederInvariantKept : Obligations.FeederInvariantKept := fun _ _ h ht => feederInv_keptByBlocks.step h ht

end Sys2Proof.Machine
end

section
/-!
PROOF. The lots of the table, one of them changed or one added (R103): which lot an operation on the table takes, and
from that REJECT_LOT (O38) and the arrivals of the belt and the bin (O58).
-/

namespace Sys2Proof.Machine

/-! ### One lot of the table -/

/-- The OPEN lot is the first one found from the old end of the table. -/
theorem changeOpenLot_split {older younger : List Lot} {x : Lot} (f : Lot → Lot) (hx : x.state = .opened)
    (ho : ∀ y ∈ older, y.state ≠ .opened) :
    changeOpenLot f (older ++ x :: younger) = older ++ f x :: younger := by
  induction older with
  | nil => exact if_pos hx
  | cons y rest ih =>
    obtain ⟨hy, hrest⟩ := List.forall_mem_cons.1 ho
    rw [List.cons_append, changeOpenLot, if_neg hy, ih hrest, List.cons_append]

theorem changeTagged_split {older younger : List Lot} {x : Lot} {tag : Byte} (f : Lot → Lot) (hx : x.tag = tag)
    (ho : ∀ y ∈ older, y.tag ≠ tag) :
    changeTagged f tag (older ++ x :: younger) = older ++ f x :: younger := by
  induction older with
  | nil => exact if_pos hx
  | cons y rest ih =>
    obtain ⟨hy, hrest⟩ := List.forall_mem_cons.1 ho
    rw [List.cons_append, changeTagged, if_neg hy, ih hrest, List.cons_append]

theorem changeYoungest_append (f : Lot → Lot) (older : List Lot) (x : Lot) :
    changeYoungest f (older ++ [x]) = older ++ [f x] := by
  induction older with
  | nil => rfl
  | cons y rest ih =>
    cases rest with
    | nil => rfl
    | cons z more => exact congrArg (y :: ·) ih

theorem hasOpenLot_eq_false {table : List Lot} : hasOpenLot table = false ↔ ∀ y ∈ table, y.state ≠ .opened := by
  simp [hasOpenLot]

theorem hasOpenLot_eq_true {table : List Lot} :
    hasOpenLot table = true ↔ ∃ (older : List Lot) (x : Lot) (younger : List Lot),
      table = older ++ x :: younger ∧ x.state = .opened ∧ ∀ y ∈ older, y.state ≠ .opened := by
  unfold hasOpenLot
  rw [List.any_eq_true, ← List.find?_isSome, Option.isSome_iff_exists]
  simp only [List.find?_eq_some_iff_append, beq_iff_eq, Bool.not_eq_true', beq_eq_false_iff_ne]
  exact ⟨fun ⟨x, hx, older, younger, hsplit, ho⟩ => ⟨older, x, younger, hsplit, hx, ho⟩,
    fun ⟨older, x, younger, hsplit, hx, ho⟩ => ⟨x, hx, older, younger, hsplit, ho⟩⟩

theorem lotTagged_eq_some {table : List Lot} {tag : Byte} {x : Lot} :
    lotTagged table tag = some x ↔
      x.tag = tag ∧ ∃ older younger, table = older ++ x :: younger ∧ ∀ y ∈ older, y.tag ≠ tag := by
  unfold lotTagged
  simp only [List.find?_eq_some_iff_append, beq_iff_eq, Bool.not_eq_true', beq_eq_false_iff_ne]

theorem lotTagged_eq_none {table : List Lot} {tag : Byte} :
    lotTagged table tag = none ↔ ∀ y ∈ table, y.tag ≠ tag := by
  simp [lotTagged]

/-- What a mark takes from riding: the tonnage of a lot not marked before (R115). -/
theorem riding_marked (older younger : List Lot) {x y : Lot} (hx : x.reject = false) (hy : y.reject = true) :
    riding (older ++ x :: younger) = riding (older ++ y :: younger) + x.tonnage.toNat := by
  simp only [riding, List.filter_append, List.filter_cons, hx, hy, List.map_append, List.sum_append, Bool.not_false,
    Bool.not_true, if_true, Bool.false_eq_true, if_false, List.map_cons, List.sum_cons]
  omega

/-! ### REJECT_LOT (R114) -/

/-- The request for a lot of the table: the lot marked by Table 6-4, and how it stands in the reply. -/
theorem rejectLotAct_found {s : State} {older younger : List Lot} {l : Lot} {tag : Byte}
    (hsplit : s.lots.table = older ++ l :: younger) (hl : l.tag = tag) (ho : ∀ y ∈ older, y.tag ≠ tag)
    (rest : List Byte) :
    rejectLotAct (tag :: rest) s =
      { state := s.setLots { s.lots with table := older ++ masterMark l :: younger }
        result := if l.state = .passing ∧ l.reject = false then .tooLate else .done
        data := (masterMark l).state.code :: codeOption (fun x => [x.code]) (masterMark l).rejectSource } := by
  have hfound : lotTagged s.lots.table tag = some l := lotTagged_eq_some.2 ⟨hl, older, younger, hsplit, ho⟩
  unfold rejectLotAct
  rw [arguments_byte, arguments_nil]
  simp only [Option.map_some, BitVec.ofNat_toNat, BitVec.setWidth_eq, hfound]
  rw [hsplit, changeTagged_split masterMark hl ho]

theorem rejectLotAct_missing {s : State} {tag : Byte} (h : ∀ y ∈ s.lots.table, y.tag ≠ tag) (rest : List Byte) :
    rejectLotAct (tag :: rest) s = answered .badArg s := by
  unfold rejectLotAct
  rw [arguments_byte, arguments_nil]
  simp only [Option.map_some, BitVec.ofNat_toNat, BitVec.setWidth_eq, lotTagged_eq_none.2 h]

/-- A table written back as it was leaves the part as it was. -/
theorem setLots_sameTable {s : State} {table : List Lot} (h : s.lots.table = table) :
    s.setLots { s.lots with table := table } = s := by
  subst h
  rfl

/-- Settles O38: the lot a tag names is marked by Table 6-4, and riding loses what it weighs. -/
theorem rejectLot : Obligations.RejectLot := by
  intro s own src tag rest h
  refine ⟨fun older younger l hsplit hl ho => ⟨congrArg Host.Outcome.next ?_, fun hclear => ?_⟩, fun hnone => ?_⟩
  · have hasked : s.asked.lots.table = older ++ l :: younger := by rw [State.asked_lots, hsplit]
    have hact := rejectLotAct_found hasked hl ho rest
    have hsame := setLots_sameTable hasked
    refine (serve_own_answer h (act := rejectLotAct) hact (congrArg Relay.mBound s.asked_relay)).trans ?_
    by_cases hmarked : l.reject = true
    · have hkeep : masterMark l = l := by simp [masterMark, markLot, hmarked]
      rw [if_pos hmarked, hkeep, hsame, if_neg (by simp [hmarked])]
    · rw [if_neg hmarked]
      rw [Bool.not_eq_true] at hmarked
      by_cases hpassing : l.state = .passing
      · have hkeep : masterMark l = l := if_pos hpassing
        rw [if_pos hpassing, hkeep, hsame, if_pos ⟨hpassing, hmarked⟩]
      · have hmark : masterMark l = { l with reject := true, rejectSource := some .master } := by
          simp [masterMark, markLot, hmarked, hpassing]
        rw [if_neg hpassing, hmark, if_neg (by simp [hpassing]), State.asked_lots]
        rfl
  · rw [hsplit]
    exact riding_marked older younger hclear rfl
  · refine congrArg Host.Outcome.next (serve_own_refused h (act := rejectLotAct) ?_)
    exact rejectLotAct_missing (by rwa [State.asked_lots]) rest

/-! ### Arrivals of the belt and the bin (R105, R111, R112, R113, R121, R122) -/

theorem weighArrival_accepted {s : State} {w : Nat} (ha : trackingActive s.activeTable = true) (h0 : 0 < w)
    (hw : w ≤ s.params.maxIncrement) :
    weighArrival w s =
      placeWeigh (BitVec.ofNat 32 w)
        (s.setLots { s.lots with weighedTotal := s.lots.weighedTotal + BitVec.ofNat 32 w }) := by
  unfold weighArrival
  rw [if_neg (by rw [ha]; simp; omega), if_neg (by omega)]

/-- Hits by the table they meet: an OPEN lot, a row free, or neither (R113). -/
theorem metalArrival_active {s : State} {w : Nat} (ha : trackingActive s.activeTable = true) (h0 : 0 < w) :
    metalArrival w s =
      if hasOpenLot s.lots.table then
        s.setLots { s.lots with table := changeOpenLot (markLot .detector) s.lots.table }
      else if s.lots.table.length < lotTableSize then
        s.setLots (s.lots.addLot (markLot .detector (openLot s.lots.tagCounter s.lots.position 0)))
      else raise .lotTableFull (s.setLots { s.lots with unattributedHits := countUp s.lots.unattributedHits }) :=
  if_neg (by rw [ha]; simp; omega)

theorem blended_eq (p : LineParams) (inventory level : Nat) :
    blended p inventory level =
      (max 0
        (min (p.capacity : Int)
          (inventory +
            Int.tdiv ((((min level 1000 : Nat) : Int) * p.capacity / 1000 - inventory) * p.radarBlend) 16))).toNat := by
  unfold blended clampInt
  dsimp only
  rw [Int.natCast_ediv, Int.natCast_mul, Nat.cast_ofNat]
  omega

/-- Settles O58: each arrival by the branches of its rule, and each increment placed on the lot the table offers. -/
theorem beltArrivals : Obligations.BeltArrivals := by
  intro s w l weigh metal active discarded total lot
  refine ⟨fun hidle => ⟨if_pos hidle, if_pos hidle⟩, fun ha hover => ?_, fun ha h0 => ⟨?_, ?_, ?_⟩, fun j => rfl, ?_⟩
  · show weighArrival w s = _
    unfold weighArrival
    rw [if_neg (by rw [show trackingActive s.activeTable = true from ha]; simp; omega), if_pos hover]
    rfl
  · intro older younger x hsplit hx ho
    have hopen : hasOpenLot s.lots.table = true := hasOpenLot_eq_true.2 ⟨older, x, younger, hsplit, hx, ho⟩
    have hchange (f : Lot → Lot) : changeOpenLot f s.lots.table = older ++ f x :: younger :=
      (congrArg (changeOpenLot f) hsplit).trans (changeOpenLot_split f hx ho)
    refine ⟨fun hw => (weighArrival_accepted ha h0 hw).trans ?_, (metalArrival_active ha h0).trans ?_⟩
    · unfold placeWeigh
      simp only [State.setLots_lots, hopen, hchange, if_true]
      rfl
    · rw [if_pos hopen, hchange]
      rfl
  · intro hclosed hrow
    have hnone : hasOpenLot s.lots.table = false := hasOpenLot_eq_false.2 hclosed
    have hfree : s.lots.table.length < lotTableSize := hrow
    refine ⟨fun hw => (weighArrival_accepted ha h0 hw).trans ?_, (metalArrival_active ha h0).trans ?_⟩
    · unfold placeWeigh
      simp only [State.setLots_lots, hnone, hfree, if_true, Bool.false_eq_true, if_false]
      rfl
    · simp only [hnone, hfree, if_true, Bool.false_eq_true, if_false]
      rfl
  · intro older x hsplit hclosed hfull
    have hnone : hasOpenLot s.lots.table = false := hasOpenLot_eq_false.2 hclosed
    have hrows : ¬s.lots.table.length < lotTableSize := Nat.not_lt.2 hfull
    refine ⟨_, raisedOnce_raise _ _ _, fun hw => (weighArrival_accepted ha h0 hw).trans ?_,
      (metalArrival_active ha h0).trans ?_⟩
    · unfold placeWeigh
      simp only [State.setLots_lots, hnone, hrows, Bool.false_eq_true, if_false]
      rw [show s.lots.table = older ++ [x] from hsplit, changeYoungest_append]
      rfl
    · simp only [hnone, hrows, Bool.false_eq_true, if_false]
      rfl
  · intro level hlevel estimate
    show levelArrival s = _
    unfold levelArrival
    rw [hlevel]
    dsimp only
    rw [blended_eq]
    rfl

end Sys2Proof.Machine
end

section
/-!
PROOF. The lot table on its belt (O7): what one advance makes of a lot's place, of its order beside another, and of the
table (R103, R107 to R110), and what a lot loaded, marked or added leaves of them.
-/

namespace Sys2Proof.Machine

/-! ### Distances along the belt (R102) -/

@[simp] theorem distance_self (a : Long) : distance a a = 0 := by simp [distance]

/-- An advance adds to a distance that it does not wrap. -/
theorem distance_advance {a pos : Long} {d : Nat} (h : distance a pos + d < 2 ^ 32) :
    distance a (pos + BitVec.ofNat 32 d) = distance a pos + d := by
  unfold distance at *
  rw [show pos + BitVec.ofNat 32 d - a = (pos - a) + BitVec.ofNat 32 d by ring, BitVec.toNat_add, BitVec.toNat_ofNat]
  omega

theorem LotPlaced.start_le {pos : Long} {x : Lot} (h : LotPlaced pos x) : distance x.startPos pos ≤ 163837 := by
  cases hs : x.state with
  | opened => exact (h.opened hs).2.trans (by decide)
  | riding =>
    obtain ⟨-, -, -, hstart⟩ := h.riding hs
    omega
  | passing =>
    obtain ⟨e, -, hend, -, hlong⟩ := h.passing hs
    omega

theorem LotPlaced.end_le {pos : Long} {x : Lot} (h : LotPlaced pos x) {e : Long} (he : x.endPos = some e) :
    distance e pos ≤ 65535 := by
  cases hs : x.state with
  | opened => simp [(h.opened hs).1] at he
  | riding =>
    obtain ⟨f, hf, hend, hstart⟩ := h.riding hs
    cases hf.symm.trans he
    omega
  | passing =>
    obtain ⟨f, hf, hend, -⟩ := h.passing hs
    cases hf.symm.trans he
    exact hend

/-! ### One lot at an advance (R108, R109) -/

/-- No event changes what a lot is or where it starts. -/
theorem movedLot_keeps (p : LineParams) (pos : Long) (free : Bool) (x : Lot) :
    (movedLot p pos free x).tag = x.tag ∧ (movedLot p pos free x).tonnage = x.tonnage ∧
      (movedLot p pos free x).startPos = x.startPos ∧ (movedLot p pos free x).reject = x.reject ∧
      (movedLot p pos free x).rejectSource = x.rejectSource := by
  rw [movedLot_eq]
  dsimp only
  repeat' split
  all_goals exact ⟨rfl, rfl, rfl, rfl, rfl⟩

theorem movedLot_startPos (p : LineParams) (pos : Long) (free : Bool) (x : Lot) :
    (movedLot p pos free x).startPos = x.startPos := (movedLot_keeps p pos free x).2.2.1

/-- A lot is PASSING once its head has come within divertLead of the diverter (R109). -/
theorem movedLot_passing (p : LineParams) (pos : Long) (free : Bool) (x : Lot) :
    (movedLot p pos free x).state = .passing ↔
      x.state = .passing ∨ p.transportDistance - p.divertLead ≤ distance x.startPos pos := by
  rw [movedLot_eq]
  unfold distance
  dsimp only
  repeat' split
  all_goals simp_all

theorem movedLot_opened {p : LineParams} {pos : Long} {free : Bool} {x : Lot}
    (h : (movedLot p pos free x).state = .opened) : x.state = .opened := by
  rw [movedLot_eq] at h
  dsimp only at h
  repeat' split at h
  all_goals simp_all

/-- A lot that closes ends at the weigh point, and no other end moves (R108, R109). -/
theorem movedLot_endPos (p : LineParams) (pos : Long) (free : Bool) (x : Lot) :
    (movedLot p pos free x).endPos =
      if x.state = .opened ∧ (movedLot p pos free x).state ≠ .opened then some pos else x.endPos := by
  rw [movedLot_eq]
  dsimp only
  repeat' split
  all_goals simp_all

/-- A lot not yet PASSING was not before, and its head is more than divertLead short of the diverter (R109). -/
theorem movedLot_short {p : LineParams} {pos : Long} {free : Bool} {x : Lot}
    (h : (movedLot p pos free x).state ≠ .passing) :
    x.state ≠ .passing ∧ distance x.startPos pos < p.transportDistance - p.divertLead := by
  rw [Ne, movedLot_passing, not_or, Nat.not_le] at h
  exact h

theorem LotPlaced.endPos_isSome {pos : Long} {x : Lot} (h : LotPlaced pos x) (hx : x.state ≠ .opened) :
    ∃ e, x.endPos = some e := by
  cases hs : x.state with
  | opened => exact absurd hs hx
  | riding => exact ⟨_, (h.riding hs).choose_spec.1⟩
  | passing => exact ⟨_, (h.passing hs).choose_spec.1⟩

theorem tailReached_iff {p : LineParams} {pos : Long} {x : Lot} :
    tailReached p pos x = true ↔
      x.state = .passing ∧ ∃ e, x.endPos = some e ∧ p.transportDistance ≤ distance e pos := by
  rw [tailReached_eq]
  cases x.endPos <;> simp [distance]

section
variable {p : LineParams} {pos : Long} {d : Nat} {free : Bool} {x l m : Lot}

/-- After an advance, a lot whose end has not passed the diverter lies where R108 to R110 leave it. -/
theorem LotPlaced.moved (h : LotPlaced pos x) (hd : d ≤ 32767) (hp : p.transportDistance ≤ 65535)
    (hstay : ¬tailReached p (pos + BitVec.ofNat 32 d) (movedLot p (pos + BitVec.ofNat 32 d) free x) = true) :
    LotPlaced (pos + BitVec.ofNat 32 d) (movedLot p (pos + BitVec.ofNat 32 d) free x) := by
  have hstart : distance x.startPos (pos + BitVec.ofNat 32 d) = distance x.startPos pos + d :=
    distance_advance (by have := h.start_le; omega)
  have hend {e : Long} (he : x.endPos = some e) : distance e (pos + BitVec.ofNat 32 d) = distance e pos + d :=
    distance_advance (by have := h.end_le he; omega)
  have hfrom := movedLot_startPos p (pos + BitVec.ofNat 32 d) free x
  have hto := movedLot_endPos p (pos + BitVec.ofNat 32 d) free x
  refine ⟨fun ho => ?_, fun hr => ?_, fun hpass => ?_⟩
  · have hx := movedLot_opened ho
    obtain ⟨-, hfar⟩ := movedLot_short (by rw [ho]; decide)
    rw [if_neg (fun hc => hc.2 ho)] at hto
    rw [hto, hfrom]
    exact ⟨(h.opened hx).1, by omega⟩
  · obtain ⟨hx, hfar⟩ := movedLot_short (by rw [hr]; decide)
    rw [hfrom]
    cases hs : x.state with
    | opened =>
      rw [if_pos ⟨hs, by rw [hr]; decide⟩] at hto
      exact ⟨_, hto, by simp, by omega⟩
    | riding =>
      obtain ⟨e, he, hle, -⟩ := h.riding hs
      rw [if_neg (by simp [hs])] at hto
      exact ⟨e, hto.trans he, by rw [hend he, hstart]; omega, by omega⟩
    | passing => exact absurd hs hx
  · have hnear (e : Long) (he : (movedLot p (pos + BitVec.ofNat 32 d) free x).endPos = some e) :
        distance e (pos + BitVec.ofNat 32 d) < p.transportDistance :=
      Nat.lt_of_not_le fun hle => hstay (tailReached_iff.2 ⟨hpass, e, he, hle⟩)
    rw [hfrom]
    cases hs : x.state with
    | opened =>
      rw [if_pos ⟨hs, by rw [hpass]; decide⟩] at hto
      have := (h.opened hs).2
      exact ⟨_, hto, by simp, by simp, by rw [distance_self]; omega⟩
    | riding =>
      obtain ⟨e, he, hle, hlong⟩ := h.riding hs
      rw [if_neg (by simp [hs])] at hto
      have := hnear e (hto.trans he)
      exact ⟨e, hto.trans he, by omega, by rw [hend he, hstart]; omega, by rw [hend he, hstart]; omega⟩
    | passing =>
      obtain ⟨e, he, -, hle, hlong⟩ := h.passing hs
      rw [if_neg (by simp [hs])] at hto
      have := hnear e (hto.trans he)
      exact ⟨e, hto.trans he, by omega, by rw [hend he, hstart]; omega, by rw [hend he, hstart]; omega⟩

theorem LotState.rank_pos {a : LotState} : 1 ≤ a.rank ↔ a ≠ .passing := by cases a <;> decide

theorem LotState.rank_le_one {a : LotState} : a.rank ≤ 1 ↔ a ≠ .opened := by cases a <;> decide

/-- Two lots keep their order at an advance: what the older has not reached the younger has not either (R107). -/
theorem LotPrecedes.moved (h : LotPrecedes pos l m) (hl : LotPlaced pos l) (hm : LotPlaced pos m) (hd : d ≤ 32767) :
    LotPrecedes (pos + BitVec.ofNat 32 d) (movedLot p (pos + BitVec.ofNat 32 d) free l)
      (movedLot p (pos + BitVec.ofNat 32 d) free m) := by
  have hstart {x : Lot} (hx : LotPlaced pos x) :
      distance x.startPos (pos + BitVec.ofNat 32 d) = distance x.startPos pos + d :=
    distance_advance (by have := hx.start_le; omega)
  have hend {x : Lot} (hx : LotPlaced pos x) {e : Long} (he : x.endPos = some e) :
      distance e (pos + BitVec.ofNat 32 d) = distance e pos + d :=
    distance_advance (by have := hx.end_le he; omega)
  have hclosed : (movedLot p (pos + BitVec.ofNat 32 d) free l).state ≠ .opened := fun ho =>
    h.closed (movedLot_opened ho)
  refine ⟨?_, fun e f he hf => ?_, ?_, hclosed⟩
  · rw [movedLot_startPos, movedLot_startPos, hstart hl, hstart hm]
    exact Nat.add_le_add_right h.start d
  · rw [movedLot_endPos, if_neg (fun hc => h.closed hc.1)] at he
    rw [movedLot_endPos] at hf
    split at hf
    · cases hf
      simp
    · rw [hend hl he, hend hm hf]
      exact Nat.add_le_add_right (h.ends e f he hf) d
  · by_cases hpass : (movedLot p (pos + BitVec.ofNat 32 d) free l).state = .passing
    · rw [hpass]
      exact Nat.zero_le _
    · obtain ⟨hshort, hfar⟩ := movedLot_short hpass
      have hyounger : (movedLot p (pos + BitVec.ofNat 32 d) free m).state ≠ .passing := by
        rw [Ne, movedLot_passing, not_or, Nat.not_le, hstart hm]
        rw [hstart hl] at hfar
        exact ⟨LotState.rank_pos.1 ((LotState.rank_pos.2 hshort).trans h.state), by have := h.start; omega⟩
      exact (LotState.rank_le_one.2 hclosed).trans (LotState.rank_pos.2 hyounger)

/-- Where the end of the younger of two lots has passed the diverter, so has that of the older (R110). -/
theorem LotPrecedes.tailReached (h : LotPrecedes pos l m) (hl : l.state ≠ .opened → ∃ e, l.endPos = some e)
    (hm : tailReached p pos m = true) : tailReached p pos l = true := by
  obtain ⟨hpass, f, hf, hfar⟩ := tailReached_iff.1 hm
  obtain ⟨e, he⟩ := hl h.closed
  have holder : l.state = .passing := by
    by_contra hshort
    have := (LotState.rank_pos.2 hshort).trans h.state
    rw [hpass] at this
    exact absurd this (by decide)
  exact tailReached_iff.2 ⟨holder, e, he, hfar.trans (h.ends e f he hf)⟩

theorem LotPlaced.moved_end (h : LotPlaced pos x) {pos' : Long} (hx : (movedLot p pos' free x).state ≠ .opened) :
    ∃ e, (movedLot p pos' free x).endPos = some e := by
  rw [movedLot_endPos]
  split
  · exact ⟨_, rfl⟩
  · rename_i hc
    exact h.endPos_isSome fun ho => hc ⟨ho, hx⟩

end

/-! ### The table on its belt (R103) -/

/-- What R103 says of the table, with the tags up to the tag counter. -/
structure OnBelt (pos : Long) (counter : Byte) (table : List Lot) : Prop where
  size : table.length ≤ 64
  order : table.Pairwise (LotPrecedes pos)
  placed : ∀ l ∈ table, LotPlaced pos l
  tags : ∀ (i : Nat) (l : Lot), table[i]? = some l → l.tag = counter - BitVec.ofNat 8 (table.length - i)

/-- A lot as its place on the belt, without its load and its mark. -/
def Lot.bare (l : Lot) : Lot := { l with tonnage := 0, reject := false, rejectSource := none, extended := false }

@[simp] theorem Lot.bare_tag (l : Lot) : l.bare.tag = l.tag := rfl

@[simp] theorem Lot.bare_state (l : Lot) : l.bare.state = l.state := rfl

theorem onBelt_bare {pos : Long} {counter : Byte} {table : List Lot} :
    OnBelt pos counter (table.map Lot.bare) ↔ OnBelt pos counter table := by
  have hprecedes (l m : Lot) : LotPrecedes pos l.bare m.bare ↔ LotPrecedes pos l m :=
    ⟨fun h => ⟨h.start, h.ends, h.state, h.closed⟩, fun h => ⟨h.start, h.ends, h.state, h.closed⟩⟩
  have hplaced (l : Lot) : LotPlaced pos l.bare ↔ LotPlaced pos l :=
    ⟨fun h => ⟨h.opened, h.riding, h.passing⟩, fun h => ⟨h.opened, h.riding, h.passing⟩⟩
  refine ⟨fun h => ⟨?_, ?_, fun l hl => ?_, fun i l hl => ?_⟩, fun h => ⟨?_, ?_, fun l hl => ?_, fun i l hl => ?_⟩⟩
  · simpa using h.size
  · simpa only [List.pairwise_map, hprecedes] using h.order
  · exact (hplaced l).1 (h.placed _ (List.mem_map_of_mem hl))
  · simpa using h.tags i l.bare (by rw [List.getElem?_map, hl]; rfl)
  · simpa using h.size
  · simpa only [List.pairwise_map, hprecedes] using h.order
  · obtain ⟨m, hm, rfl⟩ := List.mem_map.1 hl
    exact (hplaced m).2 (h.placed m hm)
  · rw [List.getElem?_map, Option.map_eq_some_iff] at hl
    obtain ⟨m, hm, rfl⟩ := hl
    simpa using h.tags i m hm

/-- A lot is added at the young end while none is OPEN and a row is free (R103, R112, R113). -/
theorem OnBelt.add {pos : Long} {counter : Byte} {table : List Lot} (h : OnBelt pos counter table) {m : Lot}
    (hclosed : ∀ l ∈ table, l.state ≠ .opened) (hrow : table.length < 64) (hm : m.state = .opened)
    (htag : m.tag = counter) (hstart : m.startPos = pos) (hend : m.endPos = none) :
    OnBelt pos (counter + 1) (table ++ [m]) := by
  refine ⟨by simp; omega, ?_, fun l hl => ?_, fun i l hl => ?_⟩
  · refine List.pairwise_append.2 ⟨h.order, List.pairwise_singleton _ _, fun l hl y hy => ?_⟩
    obtain rfl := List.mem_singleton.1 hy
    refine ⟨by rw [hstart, distance_self]; exact Nat.zero_le _, fun _ f _ hf => by simp [hend] at hf, ?_, hclosed l hl⟩
    rw [hm]
    exact (LotState.rank_le_one.2 (hclosed l hl)).trans (by decide)
  · rcases List.mem_append.1 hl with hl | hl
    · exact h.placed l hl
    · obtain rfl := List.mem_singleton.1 hl
      refine ⟨fun _ => ⟨hend, by rw [hstart]; simp⟩, fun hr => ?_, fun hp => ?_⟩
      · rw [hm] at hr; cases hr
      · rw [hm] at hp; cases hp
  · have hi : i < (table ++ [m]).length := (List.getElem?_eq_some_iff.1 hl).1
    simp only [List.length_append, List.length_singleton] at hi ⊢
    by_cases hlast : i < table.length
    · rw [List.getElem?_append_left hlast] at hl
      rw [h.tags i l hl, show table.length + 1 - i = (table.length - i) + 1 by omega, BitVec.ofNat_add]
      exact (add_sub_add_right_eq_sub counter _ 1).symm
    · have hi : i = table.length := by omega
      subst hi
      simp only [List.getElem?_concat_length, Option.some.injEq] at hl
      subst hl
      rw [htag, Nat.add_sub_cancel_left]
      exact (add_sub_cancel_right counter 1).symm

/-- The lots that pass a test held by every lot older than one that passes it come first. -/
theorem filter_append_rest {α : Type} {test : α → Bool} {table : List α}
    (h : table.Pairwise fun a b => test b = true → test a = true) :
    table.filter test ++ table.filter (fun a => !test a) = table := by
  induction table with
  | nil => rfl
  | cons a rest ih =>
    obtain ⟨hfirst, hrest⟩ := List.pairwise_cons.1 h
    cases ha : test a with
    | true => simpa [ha] using ih hrest
    | false =>
      have hnone : ∀ b ∈ rest, test b = false := fun b hb => by
        by_contra hb'
        rw [hfirst b hb (by simpa using hb')] at ha
        cases ha
      rw [List.filter_cons_of_neg (by simp [ha]), List.filter_cons_of_pos (by simp [ha]),
        List.filter_eq_nil_iff.2 (by simpa using hnone), List.filter_eq_self.2 (by simpa using hnone)]
      rfl

/-- The lots left on the belt by an advance (R107 to R110). -/
theorem OnBelt.walked {pos : Long} {counter : Byte} {table : List Lot} (h : OnBelt pos counter table) {p : LineParams}
    (hp : p.transportDistance ≤ 65535) {d : Nat} (hd : d ≤ 32767) (free : Bool) :
    OnBelt (pos + BitVec.ofNat 32 d) counter
      ((table.map (movedLot p (pos + BitVec.ofNat 32 d) free)).filter fun x =>
        !tailReached p (pos + BitVec.ofNat 32 d) x) := by
  generalize hpos : pos + BitVec.ofNat 32 d = pos'
  have horder : (table.map (movedLot p pos' free)).Pairwise (LotPrecedes pos') := by
    subst hpos
    exact List.pairwise_map.2 (h.order.imp_of_mem fun hl hm hlm =>
      hlm.moved (h.placed _ hl) (h.placed _ hm) hd)
  have hgone := filter_append_rest (test := tailReached p pos') (List.pairwise_map.2
    ((List.pairwise_map.1 horder).imp_of_mem fun hl _ hlm => hlm.tailReached (h.placed _ hl).moved_end))
  generalize (table.map (movedLot p pos' free)).filter (tailReached p pos') = gone at hgone
  have hlength := congrArg List.length hgone
  rw [List.length_append, List.length_map] at hlength
  refine ⟨by have := h.size; omega, horder.filter _, fun l hl => ?_, fun i l hl => ?_⟩
  · obtain ⟨hmem, hstay⟩ := List.mem_filter.1 hl
    obtain ⟨x, hx, rfl⟩ := List.mem_map.1 hmem
    subst hpos
    exact (h.placed x hx).moved hd hp (by simpa using hstay)
  · have hmoved : (table.map (movedLot p pos' free))[gone.length + i]? = some l := by
      rw [← hgone, List.getElem?_append_right (Nat.le_add_right _ _), Nat.add_sub_cancel_left]
      exact hl
    rw [List.getElem?_map, Option.map_eq_some_iff] at hmoved
    obtain ⟨x, hx, rfl⟩ := hmoved
    rw [(movedLot_keeps p pos' free x).1, h.tags _ x hx, ← hlength, Nat.add_sub_add_left]

end Sys2Proof.Machine
end

section
/-!
PROOF. The lots and the bin account (O7): the accounts beside the table (R116, R117, R120), what each event of the lot
tracker leaves of both, and that every other block leaves what they read.
-/

namespace Sys2Proof.Machine

/-! ### What the invariant reads -/

/-- All that LotsInv reads of the lot tracker. -/
def LotTracker.account (l : LotTracker) :=
  (l.table, l.position, l.tagCounter, l.inventory, l.weighedTotal, l.creditedTotal, l.rejectedTotal, l.divertCommand)

theorem LotsInv.onBelt {s : State} (h : LotsInv s) : OnBelt s.lots.position s.lots.tagCounter s.lots.table :=
  ⟨h.size, h.order, h.placed, h.tags⟩

theorem LotsInv.of_account {s t : State} (h : LotsInv s) (ht : t.lots.account = s.lots.account)
    (hi : t.lots.inventory ≤ t.params.capacity) : LotsInv t := by
  simp only [LotTracker.account, Prod.mk.injEq] at ht
  obtain ⟨htable, hposition, hcounter, -, hweighed, hcredited, hrejected, hdivert⟩ := ht
  refine ⟨?_, ?_, ?_, ?_, ?_, ?_, ?_, hi⟩ <;>
    simp only [htable, hposition, hcounter, hweighed, hcredited, hrejected, hdivert]
  · exact h.size
  · exact h.order
  · exact h.placed
  · exact h.tags
  · exact h.marks
  · exact h.balance
  · exact h.divert

/-! ### The accounts (R116, R117) -/

theorem tonnageSum_append (a b : List Lot) : tonnageSum (a ++ b) = tonnageSum a + tonnageSum b := by
  simp [tonnageSum]

theorem tonnageSum_cons (x : Lot) (table : List Lot) : tonnageSum (x :: table) = x.tonnage + tonnageSum table := by
  simp [tonnageSum]

/-- The lots that pass a test and those that do not weigh together what all weigh. -/
theorem tonnageSum_filter (test : Lot → Bool) (table : List Lot) :
    tonnageSum table = tonnageSum (table.filter test) + tonnageSum (table.filter fun x => !test x) := by
  induction table with
  | nil => rfl
  | cons x rest ih =>
    cases hx : test x
    · rw [List.filter_cons_of_neg (by simp [hx]), List.filter_cons_of_pos (by simp [hx]), tonnageSum_cons,
        tonnageSum_cons, ih]
      ring
    · rw [List.filter_cons_of_pos hx, List.filter_cons_of_neg (by simp [hx]), tonnageSum_cons, tonnageSum_cons, ih]
      ring

theorem tonnageSum_moved (p : LineParams) (pos : Long) (free : Bool) (table : List Lot) :
    tonnageSum (table.map (movedLot p pos free)) = tonnageSum table := by
  unfold tonnageSum
  rw [List.map_map]
  exact congrArg List.sum (List.map_congr_left fun x _ => (movedLot_keeps p pos free x).2.1)

theorem divertFor_eq_reject {table : List Lot} :
    divertFor table = .reject ↔ ∃ l ∈ table, l.state = .passing ∧ l.reject = true := by
  unfold divertFor
  split <;> simp_all

/-! ### A lot loaded or marked, and a lot added (R112, R113, R114) -/

/-- A lot may take more rock, and a mark while it is not PASSING. -/
theorem LotsInv.lotChanged {s t : State} (h : LotsInv s) {older younger : List Lot} {x y : Lot} {w : Long}
    (hsplit : s.lots.table = older ++ x :: younger) (hplace : y.bare = x.bare) (hton : y.tonnage = x.tonnage + w)
    (hmark : y.rejectSource.isSome = y.reject) (hpass : x.state = .passing → y.reject = x.reject)
    (ht : t.lots.account =
      { s.lots with table := older ++ y :: younger, weighedTotal := s.lots.weighedTotal + w : LotTracker }.account)
    (hparams : t.params = s.params) : LotsInv t := by
  refine LotsInv.of_account (s := s.setLots
    { s.lots with table := older ++ y :: younger, weighedTotal := s.lots.weighedTotal + w }) ?_ ht ?_
  · have hbelt : OnBelt s.lots.position s.lots.tagCounter (older ++ y :: younger) := by
      have hb := onBelt_bare.2 (hsplit ▸ h.onBelt)
      rw [List.map_append, List.map_cons, ← hplace, ← List.map_cons, ← List.map_append] at hb
      exact onBelt_bare.1 hb
    have hstate : y.state = x.state := by simpa using congrArg Lot.state hplace
    refine ⟨hbelt.size, hbelt.order, hbelt.placed, hbelt.tags, fun l hl => ?_, ?_, ?_, h.inventory⟩
    · have hold := h.marks
      simp only [hsplit, List.mem_append, List.mem_cons] at hold
      rcases List.mem_append.1 hl with hl | hl
      · exact hold l (.inl hl)
      · rcases List.mem_cons.1 hl with rfl | hl
        · exact hmark
        · exact hold l (.inr (.inr hl))
    · have hbalance := h.balance
      rw [hsplit, tonnageSum_append, tonnageSum_cons] at hbalance
      rw [State.setLots_lots, hbalance, tonnageSum_append, tonnageSum_cons, hton]
      ring
    · have hdivert := h.divert
      have hsame : y.state = .passing ∧ y.reject = true ↔ x.state = .passing ∧ x.reject = true := by
        rw [hstate]
        exact and_congr_right fun hp => by rw [hpass hp]
      simp only [hsplit, State.setLots_lots, List.mem_append, List.mem_cons, or_and_right, exists_or,
        exists_eq_left] at hdivert ⊢
      rw [hsame]
      exact hdivert
  · rw [hparams, show t.lots.inventory = s.lots.inventory from congrArg (·.2.2.2.1) ht]
    exact h.inventory

theorem LotsInv.lotAdded {s t : State} (h : LotsInv s) {m : Lot} (hclosed : ∀ l ∈ s.lots.table, l.state ≠ .opened)
    (hrow : s.lots.table.length < 64) (hm : m.state = .opened) (htag : m.tag = s.lots.tagCounter)
    (hstart : m.startPos = s.lots.position) (hend : m.endPos = none) (hmark : m.rejectSource.isSome = m.reject)
    (ht : t.lots.account =
      { s.lots.addLot m with weighedTotal := s.lots.weighedTotal + m.tonnage : LotTracker }.account)
    (hparams : t.params = s.params) : LotsInv t := by
  refine LotsInv.of_account (s := s.setLots
    { s.lots.addLot m with weighedTotal := s.lots.weighedTotal + m.tonnage }) ?_ ht ?_
  · have hbelt := h.onBelt.add hclosed hrow hm htag hstart hend
    refine ⟨hbelt.size, hbelt.order, hbelt.placed, hbelt.tags, fun l hl => ?_, ?_, ?_, h.inventory⟩
    · rcases List.mem_append.1 hl with hl | hl
      · exact h.marks l hl
      · obtain rfl := List.mem_singleton.1 hl
        exact hmark
    · rw [State.setLots_lots, h.balance]
      dsimp only [LotTracker.addLot]
      rw [tonnageSum_append, tonnageSum_cons]
      simp only [tonnageSum, List.map_nil, List.sum_nil]
      ring
    · simpa [LotTracker.addLot, or_and_right, exists_or, hm] using h.divert
  · rw [hparams, show t.lots.inventory = s.lots.inventory from congrArg (·.2.2.2.1) ht]
    exact h.inventory

theorem markLot_bare (src : RejectSource) (l : Lot) : (markLot src l).bare = l.bare := by
  unfold markLot
  split <;> rfl

/-- A mark comes with its source. -/
theorem markLot_source {src : RejectSource} {l : Lot} (h : l.rejectSource.isSome = l.reject) :
    (markLot src l).rejectSource.isSome = (markLot src l).reject := by
  unfold markLot
  split
  · exact h
  · rfl

theorem markLot_tonnage (src : RejectSource) (l : Lot) : (markLot src l).tonnage = l.tonnage := by
  unfold markLot
  split <;> rfl

theorem LotsInv.mark_of_split {s : State} (h : LotsInv s) {older younger : List Lot} {x : Lot}
    (hsplit : s.lots.table = older ++ x :: younger) : x.rejectSource.isSome = x.reject :=
  h.marks x (by simp [hsplit])

theorem LotsInv.lotLoaded {s t : State} (h : LotsInv s) {older younger : List Lot} {x : Lot} {w : Long}
    (hsplit : s.lots.table = older ++ x :: younger)
    (ht : t.lots.account =
      { s.lots with
        table := older ++ loadLot w x :: younger, weighedTotal := s.lots.weighedTotal + w : LotTracker }.account)
    (hparams : t.params = s.params) : LotsInv t :=
  have hmark := h.mark_of_split hsplit
  h.lotChanged hsplit (y := loadLot w x) rfl rfl hmark (fun _ => rfl) ht hparams

/-! ### The arrivals (R105, R106, R111 to R113, R121, R122) -/

theorem LotsInv.counted {s t : State} (h : LotsInv s) (ht : t.lots.account = s.lots.account)
    (hparams : t.params = s.params) : LotsInv t := by
  refine h.of_account ht ?_
  rw [hparams, show t.lots.inventory = s.lots.inventory from congrArg (·.2.2.2.1) ht]
  exact h.inventory

theorem LotsInv.weighArrival {s : State} (h : LotsInv s) (w : Nat) : LotsInv (weighArrival w s) := by
  unfold Machine.weighArrival placeWeigh
  dsimp only [State.setLots_lots]
  split
  · exact h
  · split
    · exact h.counted rfl rfl
    · split
      · obtain ⟨older, x, younger, hsplit, hx, ho⟩ := hasOpenLot_eq_true.1 ‹_›
        rw [hsplit, changeOpenLot_split _ hx ho]
        exact h.lotLoaded hsplit rfl rfl
      · split
        · exact h.lotAdded (hasOpenLot_eq_false.1 (Bool.not_eq_true _ ▸ ‹_›)) ‹_› rfl rfl rfl rfl rfl rfl rfl
        · rename_i hfull
          obtain hnil | ⟨older, x, hsplit⟩ := List.eq_nil_or_concat' s.lots.table
          · exact absurd (hnil ▸ by decide) hfull
          · rw [hsplit, changeYoungest_append]
            exact h.lotLoaded hsplit rfl rfl

theorem LotsInv.metalArrival {s : State} (h : LotsInv s) (n : Nat) : LotsInv (metalArrival n s) := by
  unfold Machine.metalArrival
  dsimp only
  split
  · exact h
  · split
    · obtain ⟨older, x, younger, hsplit, hx, ho⟩ := hasOpenLot_eq_true.1 ‹_›
      rw [hsplit, changeOpenLot_split _ hx ho]
      refine h.lotChanged (w := 0) hsplit (markLot_bare .detector x) ?_ (markLot_source (h.mark_of_split hsplit))
        (fun hp => by rw [hx] at hp; cases hp) ?_ rfl
      · rw [markLot_tonnage, add_zero]
      · simp [LotTracker.account]
    · split
      · refine h.lotAdded (m := markLot .detector (openLot s.lots.tagCounter s.lots.position 0))
          (hasOpenLot_eq_false.1 (Bool.not_eq_true _ ▸ ‹_›)) ‹_› rfl rfl rfl rfl rfl ?_ rfl
        simp [LotTracker.account, LotTracker.addLot, markLot, openLot]
      · exact h.counted rfl rfl

/-- The bin may hold anything up to its capacity (R120). -/
theorem LotsInv.refilled {s : State} (h : LotsInv s) {n : Nat} {x : Handler} (hn : n ≤ x.params.capacity) :
    LotsInv { s with handler := x, lots := { s.lots with inventory := n } } :=
  ⟨h.size, h.order, h.placed, h.tags, h.marks, h.balance, h.divert, hn⟩

theorem LotsInv.totalArrival {s : State} (h : LotsInv s) (n : Nat) : LotsInv (totalArrival n s) := by
  unfold Machine.totalArrival
  dsimp only
  split
  · exact h.counted rfl rfl
  · exact (h.refilled (x := s.handler) ((Nat.sub_le s.lots.inventory n).trans h.inventory)).counted rfl rfl

theorem blended_le (p : LineParams) (inventory level : Nat) : blended p inventory level ≤ p.capacity := by
  rw [blended_eq]
  omega

theorem LotsInv.levelArrival {s : State} (h : LotsInv s) : LotsInv (levelArrival s) := by
  unfold Machine.levelArrival
  split
  · exact h.refilled (x := s.handler) (blended_le _ _ _)
  · exact h

/-- The walk keeps the accounts: what leaves the belt is credited or rejected (R110, R116), and the diverter is told of
what is left (R117). -/
theorem LotsInv.walked {s : State} (h : LotsInv s) (hp : s.params.transportDistance ≤ 65535) {d : Nat}
    (hd : d ≤ 32767) :
    LotsInv (walkedState s (s.lots.position + BitVec.ofNat 32 d)
      (walkOf s.params { s.lots with position := s.lots.position + BitVec.ofNat 32 d })) := by
  rw [walkOf_eq h.order h.inventory]
  generalize rowFree s.params (s.lots.position + BitVec.ofNat 32 d) s.lots.table = free
  have hbelt := h.onBelt.walked hp hd free
  generalize hpos : s.lots.position + BitVec.ofNat 32 d = pos at hbelt ⊢
  refine ⟨hbelt.size, hbelt.order, hbelt.placed, hbelt.tags, fun l hl => ?_, ?_, divertFor_eq_reject,
    Nat.min_le_left _ _⟩
  · obtain ⟨x, hx, rfl⟩ := List.mem_map.1 (List.mem_filter.1 hl).1
    obtain ⟨-, -, -, hreject, hsource⟩ := movedLot_keeps s.params pos free x
    rw [hreject, hsource]
    exact h.marks x hx
  · have hall := tonnageSum_filter (tailReached s.params pos) (s.lots.table.map (movedLot s.params pos free))
    rw [tonnageSum_moved, tonnageSum_filter (fun x => x.reject)
      ((s.lots.table.map (movedLot s.params pos free)).filter (tailReached s.params pos))] at hall
    show s.lots.weighedTotal = _
    rw [h.balance, hall]
    simp only [walkedState, Walk.over, tonnageSum, List.nil_append]
    ring

theorem LotsInv.travelArrival {s : State} (h : LotsInv s) (hp : ParamsInv s) (d : Nat) :
    LotsInv (travelArrival d s) := by
  by_cases hidle : trackingActive s.activeTable = false ∨ d = 0
  · unfold Machine.travelArrival
    rw [if_pos hidle]
    exact h
  · by_cases hback : 32767 < d
    · unfold Machine.travelArrival
      rw [if_neg hidle, if_pos hback]
      exact h.counted rfl rfl
    · have hwalked := h.walked hp.distance.1 (Nat.not_lt.1 hback)
      rw [not_or, Bool.not_eq_false] at hidle
      rw [travelArrival_advance hidle.1 (Nat.pos_of_ne_zero hidle.2) (Nat.not_lt.1 hback), lotEvents_walked rfl]
      split
      · exact hwalked.counted (by simp) (by simp [State.params])
      · exact hwalked

/-! ### The lots with the line parameters -/

/-- The lots and the account, with valid line parameters. -/
def BeltInv (s : State) : Prop := LotsInv s ∧ ParamsInv s

/-- All that BeltInv reads of a state. -/
def State.belt (s : State) := (s.straps, s.handler.params, s.lots.account)

theorem LotsInv.masterMarked {s : State} (h : LotsInv s) {tag : Byte} {l : Lot}
    (hl : lotTagged s.lots.table tag = some l) :
    LotsInv (s.setLots { s.lots with table := changeTagged masterMark tag s.lots.table }) := by
  obtain ⟨htag, older, younger, hsplit, ho⟩ := lotTagged_eq_some.1 hl
  rw [hsplit, changeTagged_split masterMark htag ho]
  have hmark := h.mark_of_split hsplit
  have hsame : ({ s.lots with table := older ++ masterMark l :: younger } : LotTracker).account =
      { s.lots with
        table := older ++ masterMark l :: younger, weighedTotal := s.lots.weighedTotal + 0 : LotTracker }.account := by
    simp [LotTracker.account]
  by_cases hpass : l.state = .passing
  · have hkeep : masterMark l = l := if_pos hpass
    exact h.lotChanged (w := 0) hsplit (by rw [hkeep]) (by simp [hkeep]) (by rw [hkeep]; exact hmark)
      (fun _ => by rw [hkeep]) hsame rfl
  · have hset : masterMark l = markLot .master l := if_neg hpass
    exact h.lotChanged (w := 0) hsplit (by rw [hset, markLot_bare]) (by rw [hset, markLot_tonnage, add_zero])
      (by rw [hset]; exact markLot_source hmark) (fun hp => absurd hp hpass) hsame rfl

namespace BeltInv

variable {s t : State}

theorem of_belt (h : BeltInv s) (ht : t.belt = s.belt) : BeltInv t := by
  simp only [State.belt, Prod.mk.injEq] at ht
  obtain ⟨hstraps, hparams, haccount⟩ := ht
  exact ⟨h.1.counted haccount hparams, h.2.of_eq hstraps hparams⟩

/-- What line time reads of the straps and the parameters, with the lots. -/
theorem of_time (h : BeltInv s) (ht : t.time = s.time) (hl : t.lots = s.lots) : BeltInv t := by
  simp only [State.time, Prod.mk.injEq] at ht
  obtain ⟨hstraps, -, hparams⟩ := ht
  exact h.of_belt (by simp only [State.belt, hstraps, hparams, hl])

/-! ### Line time and arrivals -/

theorem cycleConfirm (h : BeltInv s) : BeltInv (cycleConfirm s) := by
  refine h.of_belt ?_
  have hlots : (Machine.cycleConfirm s).lots.account = s.lots.account := by
    unfold Machine.cycleConfirm
    dsimp only
    split <;> simp [LotTracker.account]
  simp [State.belt, hlots]

theorem cycleWork (h : BeltInv s) (u : CycleUser) : BeltInv (cycleWork u s) := by
  cases u with
  | confirm => exact h.cycleConfirm
  | store | crushers | line | handler => exact h.of_belt (by simp [State.belt, Machine.cycleWork])

theorem acquireWork (h : BeltInv s) (u : AcquireUser) : BeltInv (acquireWork u s) := by
  cases u <;> exact h.of_belt (by simp [State.belt, Machine.acquireWork])

theorem keptByTime : KeptByTime BeltInv where
  raise _ _ _ h := h.of_belt rfl
  lock _ _ _ h := h.of_belt rfl
  free _ _ h := h.of_belt rfl
  cycle u _ h := h.cycleWork u
  stale _ h := h.of_belt (by simp [State.belt])
  acquire u _ h := h.acquireWork u
  lost _ h := h.of_belt (by simp [State.belt])
  onset _ _ h := h.of_belt (by simp [State.belt])

theorem deliverArrival (h : BeltInv s) (a : Arrival) : BeltInv (deliverArrival a s) := by
  refine ⟨?_, h.2.of_eq (by simp) (by simp)⟩
  unfold Machine.deliverArrival
  split
  case h_6 => exact h.1.weighArrival _
  case h_7 => exact h.1.metalArrival _
  case h_8 => exact h.1.travelArrival h.2 _
  case h_9 => exact h.1.totalArrival _
  case h_10 => exact h.1.levelArrival
  all_goals exact h.1.counted (by simp) (by simp [State.params])

/-! ### Requests -/

theorem writeLine (h : BeltInv s) (payload : List Byte) : BeltInv (writeLineAct payload s).state := by
  unfold writeLineAct
  split
  · rename_i p ranges ha
    split
    · exact h
    · rename_i hpassed
      obtain ⟨args, -, hargs⟩ := Option.bind_eq_some_iff.1 ha
      have hwritten : BeltInv { s with
          handler := { s.handler with params := p }
          lots := { s.lots with inventory := min p.capacity s.lots.inventory } } :=
        ⟨h.1.refilled (Nat.min_le_left _ _), LineParams.valid_of_checks hargs hpassed⟩
      exact hwritten.of_belt (by simp [State.belt, answered, Machine.writeLine])
  · exact h

theorem rejectLot (h : BeltInv s) (payload : List Byte) : BeltInv (rejectLotAct payload s).state := by
  unfold rejectLotAct
  split
  · dsimp only
    split
    · exact ⟨h.1.masterMarked ‹_›, h.2⟩
    · exact h
  · exact h

end BeltInv

/-- The requests that act on the line mode leave the lots. -/
theorem lineAct_lots (s : State) (payload : List Byte) :
    (lineStartAct payload s).state.lots = s.lots ∧ (lineStopAct payload s).state.lots = s.lots ∧
      (tripReleaseAct payload s).state.lots = s.lots := by
  refine ⟨?_, ?_, ?_⟩
  · unfold lineStartAct withMode
    repeat' split
    all_goals simp
  · unfold lineStopAct withMode
    split <;> simp [beginStop]
  · unfold tripReleaseAct
    dsimp only
    repeat' split
    all_goals simp [releaseTrip]

/-- A request whose argument is one index leaves the lots where it leaves them for each index (R172). -/
theorem indexed_lots {act : Fin 4 → State → Served} {s : State} (h : ∀ k, (act k s).state.lots = s.lots)
    (payload : List Byte) : (indexed act payload s).state.lots = s.lots :=
  indexed_keeps (P := fun t => t.lots = s.lots) rfl h payload

/-- The requests that act on a crusher leave the lots. -/
theorem crusherAct_lots (s : State) (payload : List Byte) :
    (writeCrusherAct payload s).state.lots = s.lots ∧ (setTargetAct payload s).state.lots = s.lots ∧
      (crusherEnableAct payload s).state.lots = s.lots ∧ (crusherDisableAct payload s).state.lots = s.lots ∧
      (faultClearAct payload s).state.lots = s.lots ∧ (wearResetAct payload s).state.lots = s.lots := by
  refine ⟨?_, ?_, ?_, indexed_lots (fun k => ?_) _, indexed_lots (fun k => ?_) _, indexed_lots (fun k => ?_) _⟩
  · unfold writeCrusherAct answered badParameter
    repeat' split
    all_goals simp
  · unfold setTargetAct answered
    dsimp only
    repeat' split
    all_goals simp
  · unfold crusherEnableAct
    split
    · rfl
    · split
      · rfl
      · refine indexed_lots (fun k => ?_) _
        split <;> simp [answered]
  · split <;> simp [answered]
  · split <;> simp [answered]
  · simp [answered]

/-- The requests that act on a feeder, on the dry-run flag or on a bank leave the lots. -/
theorem otherAct_lots (s : State) (payload : List Byte) :
    (writeFeederAct payload s).state.lots = s.lots ∧ (dryRunAct payload s).state.lots = s.lots ∧
      (loadOpenAct payload s).state.lots = s.lots ∧ (commitAct payload s).state.lots = s.lots := by
  refine ⟨?_, ?_, ?_, ?_⟩
  · unfold writeFeederAct writeFeeder answered badParameter
    dsimp only
    repeat' split
    all_goals simp
  · have ht (on : Bool) (t : State) : (takeDryRun on t).state.lots = t.lots := by
      unfold takeDryRun
      dsimp only
      split <;> simp
    unfold dryRunAct
    split
    · split <;> exact ht _ _
    · rfl
  · unfold loadOpenAct openSession
    repeat' split
    all_goals simp [setSession, answered]
  · have hset (b : Bank) : (setPending b s).lots = s.lots := by cases b <;> rfl
    unfold commitAct
    repeat' split
    case h_2 => exact hset _
    all_goals rfl

/-- No request ends the invariants of the lots. WRITE_LINE, REJECT_LOT, DEVICE_CLEAR and WARM_RESTART alone change the
tracker or the parameters. -/
theorem BeltInv.request {act : List Byte → State → Served} (ha : act ∈ requestActs) (payload : List Byte) {s : State}
    (h : BeltInv s) : BeltInv (act payload s).state := by
  obtain ⟨hstart, hstop, hrelease⟩ := lineAct_time s payload
  obtain ⟨hwrite, htarget, henable, hdisable, hclear, hwear⟩ := crusherAct_time s payload
  obtain ⟨-, hfeeder, -, hdry⟩ := otherAct_time s payload
  obtain ⟨hopen, hcommit⟩ := bankAct_time s payload
  obtain ⟨lstart, lstop, lrelease⟩ := lineAct_lots s payload
  obtain ⟨lwrite, ltarget, lenable, ldisable, lclear, lwear⟩ := crusherAct_lots s payload
  obtain ⟨lfeeder, ldry, lopen, lcommit⟩ := otherAct_lots s payload
  simp only [requestActs, List.mem_cons, List.not_mem_nil, or_false] at ha
  rcases ha with rfl | rfl | rfl | rfl | rfl | rfl | rfl | rfl | rfl | rfl | rfl | rfl | rfl | rfl | rfl | rfl | rfl |
    rfl | rfl | rfl | rfl | rfl
  · exact h.of_belt rfl
  · exact h.of_belt rfl
  · rw [readRecordAct_state]; exact h
  · exact h.of_time hwrite lwrite
  · exact h.of_time hfeeder lfeeder
  · exact h.writeLine payload
  · exact h.of_time htarget ltarget
  · exact h.of_time henable lenable
  · exact h.of_time hdisable ldisable
  · exact h.of_time hclear lclear
  · exact h.of_time hwear lwear
  · exact h.of_time hstart lstart
  · exact h.of_time hstop lstop
  · exact h.of_time hrelease lrelease
  · exact h.rejectLot payload
  · exact h.of_time hopen lopen
  · exact h.of_time hcommit lcommit
  · exact h.of_time hdry ldry
  · unfold deviceClearAct answered
    exact h.of_belt (by simp [State.belt, clearCounters, LotTracker.account])
  · obtain ⟨hstraps, -, -, -, -, -, -, hparams, -, hlots, -⟩ := restartedBlocks_frame s
    unfold State.params at hparams
    simp only [warmRestartAct, answered]
    rw [warmRestart_eq]
    exact h.of_belt (by simp [State.belt, hstraps, hparams, hlots, LotTracker.account])
  · exact h
  · exact h

/-! ### Every block -/

@[simp] theorem takeWord_params (s : State) (w : Word) : (takeWord s w).handler.params = s.handler.params := by
  unfold takeWord writeStaged
  repeat' split
  all_goals simp [setSession]

@[simp] theorem takeStream_params (fn : Byte) (payload : List Byte) (s : State) :
    (takeStream fn payload s).handler.params = s.handler.params := by
  have hwords (l : List Word) : (l.foldl takeWord s).handler.params = s.handler.params :=
    foldl_keeps (fun t => t.handler.params) takeWord_params l s
  unfold takeStream
  dsimp only
  repeat' split
  all_goals simp [hwords]

theorem beltInv_powerOn (addr : BitVec 7) (rate : BitVec 3) (low : Bool) (s : State) :
    BeltInv (powerOn addr rate low s) := by
  obtain ⟨hlot, hdistance, hincrement, hcapacity, hblend, hconfirm, hthreshold, hlimit, -⟩ := paramsInv_reset
  exact ⟨lotsInv_reset.counted rfl rfl,
    ⟨hlot, hdistance, hincrement, hcapacity, hblend, hconfirm, hthreshold, hlimit, fun _ hg => by cases hg⟩⟩

theorem beltInv_keptByBlocks : KeptByBlocks BeltInv where
  ports _ _ _ _ h := h.of_belt rfl
  relay _ _ h := h.of_belt rfl
  rewriter _ _ h := h.of_belt rfl
  waiting _ _ h := h.of_belt rfl
  raise _ _ _ h := h.of_belt rfl
  rollMisses _ _ h := h.of_belt rfl
  timer _ _ h := h.of_belt rfl
  reset s addr rate low _ := (beltInv_powerOn addr rate low s).of_belt (by simp [State.belt, powerOnReset])
  pin _ _ h := h.of_belt (by simp [State.belt])
  marker _ payload h := BeltInv.keptByTime.marker h payload
  expiry _ h := BeltInv.keptByTime.expiry h
  reply _ _ h := observe_keeps h (h.of_belt (by simp [State.belt])) fun a _ hu => hu.deliverArrival a
  session _ _ h := h.of_belt (by simp [State.belt])
  stream _ _ _ h := h.of_belt (by simp [State.belt])
  request _ ha payload _ h := h.request ha payload

/-- Settles O7: the walk keeps the table in belt order with the accounts balanced, a lot is loaded, marked or added
where R112 to R114 allow it, and every other block leaves the lots. -/
theorem lotsInvariantKept : Obligations.LotsInvariantKept := fun _ _ hlots hparams ht =>
  (beltInv_keptByBlocks.step ⟨hlots, hparams⟩ ht).1

end Sys2Proof.Machine
end

section
/-!
PROOF. WRITE_LINE (O30): the line parameters as the numbers of their arguments, the checks of R175 in their order, and
the write with the evaluation of the trip inputs (R104, R133, R175).
-/

namespace Sys2Proof.Machine

/-! ### Arguments of any widths (R172) -/

/-- Numbers given in the bytes of their arguments are read as those numbers. -/
theorem arguments_wire {ws args : List Nat} (hlength : args.length = ws.length)
    (hsized : ∀ x ∈ ws.zip args, x.2 < 256 ^ x.1) (rest : List Byte) :
    arguments ws ((ws.zip args).flatMap (fun x => beBytes x.1 x.2) ++ rest) = some args := by
  induction ws generalizing args with
  | nil => rw [List.length_eq_zero_iff.1 hlength, arguments_nil]
  | cons w ws ih =>
    cases args with
    | nil => cases hlength
    | cons v more =>
      obtain ⟨hv, hmore⟩ := List.forall_mem_cons.1 hsized
      rw [List.zip_cons_cons, List.flatMap_cons, List.append_assoc, arguments_beBytes hv,
        ih (Nat.succ.inj hlength) hmore, Option.map_some]

theorem arguments_lineWire {args : List Nat} (hlength : args.length = 18)
    (hsized : ∀ x ∈ lineArgWidths.zip args, x.2 < 256 ^ x.1) (rest : List Byte) :
    arguments lineWidths (lineWire args ++ rest) = some args :=
  arguments_wire (ws := lineArgWidths) hlength hsized rest

/-! ### Optional arguments and flags (R172, Table 10-2) -/

theorem inRange_eq (lo hi n : Nat) : inRange lo hi n = decide (lo ≤ n ∧ n ≤ hi) := (Bool.decide_and _ _).symm

theorem inRange_zero (hi n : Nat) : inRange 0 hi n = decide (n ≤ hi) := by simp [inRange]

theorem inRange_mask (n : Nat) : inRange 0 16383 n = decide (n < 2 ^ 14) := by
  rw [inRange_zero, decide_eq_decide]
  omega

theorem rollBitArg_isSome (n : Nat) : (rollBitArg n).isSome = decide (n ≤ 15 ∨ n = 255) := by
  rw [Bool.eq_iff_iff, decide_eq_true_iff]
  unfold rollBitArg
  repeat' split
  all_goals simp; omega

theorem curveArg_isSome_nat (n : Nat) : (curveArg n).isSome = decide (n ≤ 7 ∨ n = 255) := by
  rw [Bool.eq_iff_iff, decide_eq_true_iff]
  unfold curveArg
  repeat' split
  all_goals simp; omega

theorem flagArg_isSome (n : Nat) : (flagArg n).isSome = decide (n ≤ 1) := by
  rw [Bool.eq_iff_iff, decide_eq_true_iff]
  unfold flagArg
  repeat' split
  all_goals simp; omega

theorem groupArg_isSome (n : Nat) : (groupArg n).isSome = decide ((1 ≤ n ∧ n ≤ 126) ∨ n = 255) := by
  rw [Bool.eq_iff_iff, decide_eq_true_iff]
  unfold groupArg
  simp only [inRange_eq, decide_eq_true_eq]
  repeat' split
  all_goals simp_all

/-- An optional id as the number of its argument: none is all ones (R172). -/
def idNumber {n : Nat} (x : Option (Fin n)) : Nat := x.elim 255 Fin.val

theorem rollBitArg_number (x : Option (Fin 16)) : rollBitArg (idNumber x) = some x := by
  cases x with
  | none => rfl
  | some i => exact dif_pos i.isLt

theorem curveArg_number (x : Option (Fin 8)) : curveArg (idNumber x) = some x := by
  cases x with
  | none => rfl
  | some i => exact dif_pos i.isLt

theorem idNumber_rollBitArg {n : Nat} (h : (rollBitArg n).isSome = true) : idNumber ((rollBitArg n).getD none) = n := by
  unfold rollBitArg at *
  repeat' split
  all_goals simp_all [idNumber]

theorem idNumber_curveArg {n : Nat} (h : (curveArg n).isSome = true) : idNumber ((curveArg n).getD none) = n := by
  unfold curveArg at *
  repeat' split
  all_goals simp_all [idNumber]

theorem flagArg_number (b : Bool) : flagArg b.toNat = some b := by cases b <;> rfl

theorem number_flagArg {n : Nat} (h : (flagArg n).isSome = true) : ((flagArg n).getD false).toNat = n := by
  unfold flagArg at *
  repeat' split
  all_goals simp_all

/-- A group address 1 to 126, or none, as the number of its argument (Table 10-2). -/
def groupNumber (x : Option Byte) : Nat := (x.getD 0xFF).toNat

theorem groupArg_number {x : Option Byte} (h : ∀ g, x = some g → 1 ≤ g.toNat ∧ g.toNat ≤ 126) :
    groupArg (groupNumber x) = some x := by
  cases x with
  | none => rfl
  | some g => simp [groupNumber, groupArg, inRange_eq, h g rfl]

theorem groupNumber_groupArg {n : Nat} (h : (groupArg n).isSome = true) : groupNumber ((groupArg n).getD none) = n := by
  unfold groupArg at *
  rw [inRange_eq] at *
  split
  · rename_i hn
    have := of_decide_eq_true hn
    simp [groupNumber]
    omega
  · simp_all [groupNumber]

/-- The group address given is the own address just where their numbers agree (R175). -/
theorem groupArg_own {n : Nat} {own : Byte} (h : (groupArg n).isSome = true) (hown : own.toNat ≤ 126) :
    (((groupArg n).getD none).isSome = true ∧ (groupArg n).getD none = some own) ↔ n = own.toNat := by
  have hnumber := groupNumber_groupArg h
  obtain ⟨x, hx⟩ := Option.isSome_iff_exists.1 h
  rw [hx, Option.getD_some] at hnumber ⊢
  subst hnumber
  cases x with
  | none =>
    simp only [groupNumber, Option.getD_none, BitVec.reduceToNat]
    simp
    omega
  | some g => simp [groupNumber, BitVec.toNat_inj]

/-! ### The line parameters as numbers (Table 10-2) -/

/-- The arguments of WRITE_LINE that write some parameters, as numbers. -/
def LineParams.numbers (p : LineParams) : List Nat :=
  [p.lotLength, p.transportDistance, p.divertLead, p.maxIncrement, p.capacity, p.drawDown, p.radarBlend,
    p.divertConfirm, p.lockThreshold, p.stopLimit, p.tripMask.toNat, p.causeMask.toNat, idNumber p.rollBit,
    p.rollSense.toNat, groupNumber p.groupAddress, p.lineEnd.toNat, idNumber p.primaryBinCurve,
    idNumber p.secondaryBinCurve]

theorem codeLineParams_eq (p : LineParams) : codeLineParams p = lineWire p.numbers := by
  have hbyte (b : Byte) : beBytes 1 b.toNat = [b] := by simp [beBytes]
  have hid {n : Nat} (x : Option (Fin n)) : codeNone x = beBytes 1 (idNumber x) := by
    cases x <;> simp [codeNone, beBytes, idNumber]
  have hflag (b : Bool) : codeFlag b = beBytes 1 b.toNat := by cases b <;> rfl
  simp only [codeLineParams, lineWire, lineArgWidths, LineParams.numbers, List.zip_cons_cons, List.zip_nil_right,
    List.flatMap_cons, List.flatMap_nil, hid, hflag, groupNumber, hbyte, code1, code2, code3, List.append_assoc,
    List.append_nil]

theorem LineParams.Valid.sized {own : Option Byte} {p : LineParams} (h : p.Valid own) :
    ∀ x ∈ lineArgWidths.zip p.numbers, x.2 < 256 ^ x.1 := by
  obtain ⟨hlot, hdistance, hincrement, hcapacity, hblend, hconfirm, hthreshold, hlimit, -⟩ := h
  have hid {n : Nat} (hn : n ≤ 16) (x : Option (Fin n)) : idNumber x < 256 := by
    cases x with
    | none => exact Nat.lt_succ_self 255
    | some i => exact Nat.lt_of_lt_of_le i.isLt (hn.trans (by decide))
  have hflag (b : Bool) : b.toNat < 256 := b.toNat_lt.trans (by decide)
  have htrip := p.tripMask.isLt
  have hmask := p.causeMask.isLt
  have hgroup : groupNumber p.groupAddress < 256 := BitVec.isLt _
  have hroll := hid (by decide) p.rollBit
  have hprimary := hid (by decide) p.primaryBinCurve
  have hsecondary := hid (by decide) p.secondaryBinCurve
  have hsense := hflag p.rollSense
  have hend := hflag p.lineEnd
  simp only [lineArgWidths, LineParams.numbers, List.zip_cons_cons, List.zip_nil_right, List.mem_cons,
    List.not_mem_nil, or_false, forall_eq_or_imp, forall_eq]
  omega

/-- The parameters that valid ones are read back as. -/
theorem lineArgs_numbers {own : Option Byte} {p : LineParams} (h : p.Valid own) :
    ∃ ranges, lineArgs p.numbers = some (p, ranges) := by
  have hgroup := groupArg_number fun g hg => (h.group g hg).2
  unfold lineArgs LineParams.numbers
  simp only [rollBitArg_number, flagArg_number, curveArg_number, hgroup, Option.getD_some, BitVec.ofNat_toNat,
    BitVec.setWidth_eq]
  exact ⟨_, rfl⟩

/-- Arguments within every range are the numbers of the parameters they are read as. -/
theorem numbers_lineArgs {args : List Nat} {p : LineParams} {ranges : List Bool}
    (ha : lineArgs args = some (p, ranges)) (hall : ∀ ok ∈ ranges, ok = true) :
    p.numbers = args ∧ ∀ g, p.groupAddress = some g → g.toNat ≤ 126 := by
  unfold lineArgs at ha
  split at ha
  · simp only [Option.some.injEq, Prod.mk.injEq] at ha
    obtain ⟨rfl, rfl⟩ := ha
    simp only [List.mem_cons, List.not_mem_nil, or_false, forall_eq_or_imp, forall_eq, inRange_eq,
      decide_eq_true_eq] at hall
    obtain ⟨-, -, -, -, -, -, -, -, -, -, htrip, hmask, hroll, hsense, hgroup, hend, hprimary, hsecondary⟩ := hall
    refine ⟨?_, fun g hg => ?_⟩
    · simp only [LineParams.numbers, BitVec.toNat_ofNat, idNumber_rollBitArg hroll, number_flagArg hsense,
        groupNumber_groupArg hgroup, number_flagArg hend, idNumber_curveArg hprimary, idNumber_curveArg hsecondary,
        Nat.mod_eq_of_lt (show _ < 2 ^ 8 from Nat.lt_succ_of_le htrip.2),
        Nat.mod_eq_of_lt (show _ < 2 ^ 14 from Nat.lt_succ_of_le hmask.2)]
    · obtain ⟨x, hx⟩ := Option.isSome_iff_exists.1 hgroup
      dsimp only at hg
      rw [hx] at hg
      exact (groupArg_range (hx.trans (congrArg some hg))).2
  · cases ha

theorem lineArgs_of_length {args : List Nat} (h : args.length = 18) : ∃ p ranges, lineArgs args = some (p, ranges) := by
  match args, h with
  | [_, _, _, _, _, _, _, _, _, _, _, _, _, _, _, _, _, _], _ => exact ⟨_, _, rfl⟩

/-! ### The checks of R175 -/

/-- The rows of R175: the ranges at their positions, then the conditions between two parameters. -/
theorem lineRows_eq {args : List Nat} {p : LineParams} {ranges : List Bool} (ha : lineArgs args = some (p, ranges))
    (own : Byte) :
    ∃ group, p.groupAddress = (groupArg group).getD none ∧ (groupArg group).isSome ∈ ranges ∧
      lineRows own args =
        ranges.zipIdx.map Prod.swap ++
          [ (14, decide (group ≠ own.toNat))
          , (0, decide (p.lotLength + p.divertLead < p.transportDistance))
          , (5, decide (p.drawDown ≤ p.capacity)) ] := by
  unfold lineArgs at ha
  split at ha
  · simp only [Option.some.injEq, Prod.mk.injEq] at ha
    obtain ⟨rfl, rfl⟩ := ha
    refine ⟨_, rfl, by simp only [List.mem_cons, true_or, or_true], ?_⟩
    simp only [inRange_mask]
    simp only [inRange_zero]
    simp only [inRange_eq, rollBitArg_isSome, flagArg_isSome, groupArg_isSome,
      curveArg_isSome_nat]
    rfl
  · cases ha

theorem firstFailing_eq_find (base : Nat) (checks : List Bool) :
    firstFailing base checks =
      (((checks.zipIdx base).map Prod.swap).find? fun row => !row.2).map Prod.fst := by
  induction checks generalizing base with
  | nil => rfl
  | cons ok rest ih => cases ok <;> simp [firstFailing, ih]

/-- The parameter named is that of the first row that fails (R175). -/
theorem lineFailure_eq_find {s : State} {own : Byte} (ho : s.ownAddress = some own) (hown : own.toNat ≤ 126)
    {args : List Nat} {p : LineParams} {ranges : List Bool} (ha : lineArgs args = some (p, ranges)) :
    lineFailure s p ranges = ((lineRows own args).find? fun row => !row.2).map Prod.fst := by
  obtain ⟨group, hgroup, hmem, hrows⟩ := lineRows_eq ha own
  have hranges := firstFailing_eq_find 0 ranges
  rw [hrows, List.find?_append]
  unfold lineFailure
  cases hfind : (ranges.zipIdx.map Prod.swap).find? fun row => !row.2 with
  | some row =>
    rw [hfind] at hranges
    rw [hranges]
    rfl
  | none =>
    rw [hfind] at hranges
    rw [hranges, ho, hgroup]
    simp only [groupArg_own (firstFailing_eq_none.1 hranges _ hmem) hown, Option.map_none, Option.none_or]
    by_cases hsame : group = own.toNat
    · simp [hsame]
    · by_cases hspan : p.lotLength + p.divertLead < p.transportDistance
      · by_cases hdrawn : p.drawDown ≤ p.capacity
        · simp [hsame, hspan, hdrawn, Nat.not_le.2 hspan, Nat.not_lt.2 hdrawn]
        · simp [hsame, hspan, hdrawn, Nat.not_le.2 hspan, Nat.lt_of_not_le hdrawn]
      · simp [hsame, hspan]

/-- The rows on the numbers of parameters hold just where the parameters are valid (Table 10-2, R175). -/
theorem lineRows_numbers {own : Byte} (hown : own.toNat ≤ 126) {p : LineParams}
    (hg : ∀ g, p.groupAddress = some g → g.toNat ≤ 126) :
    (∀ row ∈ lineRows own p.numbers, row.2 = true) ↔ p.Valid (some own) := by
  have hroll := rollBitArg_isSome (idNumber p.rollBit)
  have hprimary := curveArg_isSome_nat (idNumber p.primaryBinCurve)
  have hsecondary := curveArg_isSome_nat (idNumber p.secondaryBinCurve)
  rw [rollBitArg_number, Option.isSome_some, eq_comm, decide_eq_true_iff] at hroll
  rw [curveArg_number, Option.isSome_some, eq_comm, decide_eq_true_iff] at hprimary hsecondary
  have htrip := p.tripMask.isLt
  have hmask := p.causeMask.isLt
  have hsense := p.rollSense.toNat_lt
  have hend := p.lineEnd.toNat_lt
  have hgroup : (((1 ≤ groupNumber p.groupAddress ∧ groupNumber p.groupAddress ≤ 126) ∨
        groupNumber p.groupAddress = 255) ∧ groupNumber p.groupAddress ≠ own.toNat) ↔
      ∀ g, p.groupAddress = some g → some own ≠ some g ∧ 1 ≤ g.toNat ∧ g.toNat ≤ 126 := by
    cases hp : p.groupAddress with
    | none => simp [groupNumber]; omega
    | some g =>
      have := hg g hp
      simp only [groupNumber, Option.getD_some, Option.some.injEq, forall_eq', Ne]
      rw [← BitVec.toNat_inj]
      omega
  simp only [lineRows, LineParams.numbers, List.mem_cons, List.not_mem_nil, or_false, forall_eq_or_imp, forall_eq,
    decide_eq_true_eq]
  constructor
  · intro h
    exact ⟨by omega, by omega, by omega, by omega, by omega, by omega, by omega, by omega, hgroup.1 (by omega)⟩
  · rintro ⟨hlot, hdistance, hincrement, hcapacity, hblend, hconfirm, hthreshold, hlimit, hfree⟩
    have := hgroup.2 hfree
    omega

/-! ### The request (R175) -/

theorem ownAddress_le {s : State} {own : Byte} (h : s.ownAddress = some own) : own.toNat ≤ 126 := by
  unfold State.ownAddress at h
  split at h
  · cases h
  · rename_i hstrap
    cases h
    bv_omega

/-- The request once its arguments are read. -/
theorem writeLineAct_wire {args : List Nat} (hlength : args.length = 18)
    (hsized : ∀ x ∈ lineArgWidths.zip args, x.2 < 256 ^ x.1) {p : LineParams} {ranges : List Bool}
    (ha : lineArgs args = some (p, ranges)) (rest : List Byte) (s : State) :
    writeLineAct (lineWire args ++ rest) s =
      (lineFailure s p ranges).elim (answered .done (writeLine p s)) fun position => badParameter position s := by
  unfold writeLineAct
  rw [arguments_lineWire hlength hsized, Option.bind_some, ha]
  dsimp only
  cases lineFailure s p ranges <;> rfl

theorem writeLineAct_valid {s : State} {own : Byte} (ho : s.ownAddress = some own) {p : LineParams}
    (h : p.Valid (some own)) (rest : List Byte) :
    writeLineAct (codeLineParams p ++ rest) s = answered .done (writeLine p s) := by
  have hown := ownAddress_le ho
  obtain ⟨ranges, hargs⟩ := lineArgs_numbers h
  have hrows := (lineRows_numbers hown fun g hg => (h.group g hg).2.2).2 h
  have hnone : lineFailure s p ranges = none := by
    rw [lineFailure_eq_find ho hown hargs, List.find?_eq_none.2 (by simpa using hrows)]
    rfl
  rw [codeLineParams_eq, writeLineAct_wire rfl h.sized hargs, hnone]
  rfl

theorem writeLineAct_failed {s : State} {own : Byte} (ho : s.ownAddress = some own) {args : List Nat}
    (hlength : args.length = 18) (hsized : ∀ x ∈ lineArgWidths.zip args, x.2 < 256 ^ x.1) {n position : Nat}
    (hn : (lineRows own args)[n]? = some (position, false))
    (hm : ∀ m, m < n → ∃ other, (lineRows own args)[m]? = some (other, true)) (rest : List Byte) :
    writeLineAct (lineWire args ++ rest) s = badParameter position s := by
  obtain ⟨p, ranges, hargs⟩ := lineArgs_of_length hlength
  obtain ⟨hlt, hrow⟩ := List.getElem?_eq_some_iff.1 hn
  have hfind : ((lineRows own args).find? fun row => !row.2) = some (position, false) := by
    refine List.find?_eq_some_iff_getElem.2 ⟨rfl, n, hlt, hrow, fun m hmn => ?_⟩
    obtain ⟨other, hother⟩ := hm m hmn
    obtain ⟨_, hpassed⟩ := List.getElem?_eq_some_iff.1 hother
    rw [hpassed]
    rfl
  rw [writeLineAct_wire hlength hsized hargs, lineFailure_eq_find ho (ownAddress_le ho) hargs, hfind]
  rfl

theorem writeLineAct_short {payload : List Byte} (h : payload.length < 28) (s : State) :
    writeLineAct payload s = answered .badArg s := by
  have hnone : arguments lineWidths payload = none := by
    cases hargs : arguments lineWidths payload with
    | none => rfl
    | some args =>
      have hsum : 28 ≤ payload.length := (arguments_sum_le hargs).1
      omega
  unfold writeLineAct
  rw [hnone]
  rfl

/-- Settles O30: the arguments are read and checked in their order; valid ones are written, and the trip inputs are
evaluated under the new mask. -/
theorem writeLine_served : Obligations.WriteLine := by
  refine ⟨fun s own src p rest hvalid h => ?_, fun own args hown hlength hsized => ⟨⟨fun hrows => ?_, ?_⟩,
    fun s src rest n position h hn hm => congrArg Host.Outcome.next ?_⟩, fun s own src payload h hshort => ?_⟩
  · intro written
    have hact : writeLineAct (codeLineParams p ++ rest) s.asked = answered .done (evaluateTrip written) := by
      rw [writeLineAct_valid (by rw [State.asked_ownAddress, h.address]) hvalid]
      unfold Machine.writeLine
      rw [State.asked_lots]
    refine ⟨evaluateTrip written, congrArg Host.Outcome.next (serve_own_answer h (act := writeLineAct) hact ?_),
      tripTaken_takeTripInputs _ _⟩
    simp [written]
  · obtain ⟨p, ranges, hargs⟩ := lineArgs_of_length hlength
    obtain ⟨group, -, -, hsplit⟩ := lineRows_eq hargs own
    have hall : ∀ ok ∈ ranges, ok = true := by
      refine (firstFailing_eq_none (base := 0)).1 ?_
      rw [firstFailing_eq_find, List.find?_eq_none.2 fun row hrow => ?_]
      · rfl
      · simp [hrows row (by rw [hsplit]; exact List.mem_append_left _ hrow)]
    obtain ⟨rfl, hgroup⟩ := numbers_lineArgs hargs hall
    exact ⟨p, (lineRows_numbers hown hgroup).1 hrows, (codeLineParams_eq p).symm⟩
  · rintro ⟨p, hvalid, hwire⟩
    have hread := arguments_lineWire hlength hsized []
    rw [hwire, codeLineParams_eq, arguments_lineWire rfl hvalid.sized, Option.some.injEq] at hread
    rw [← hread]
    exact (lineRows_numbers hown fun g hg => (hvalid.group g hg).2.2).2 hvalid
  · refine serve_own_answer h (act := writeLineAct) ?_ (congrArg Relay.mBound s.asked_relay)
    rw [writeLineAct_failed (by rw [State.asked_ownAddress, h.address]) hlength hsized hn hm]
    simp [badParameter, code1, beBytes]
  · exact congrArg Host.Outcome.next (serve_own_refused h (act := writeLineAct) (writeLineAct_short hshort _))

end Sys2Proof.Machine
end

section
/-!
PROOF. The orderly stop at a counted cycle (O60): its end by completion or by the limit, and the count between.
-/

namespace Sys2Proof.Machine

/-! ### The branches of the counted cycle (R139, R140, R141) -/

theorem completionTest_iff (s : State) :
    completionTest s = true ↔ s.lots.table = [] ∧ s.lots.inventory ≤ s.params.drawDown := by
  simp [completionTest]

theorem cycleLine_complete {s : State} (hm : s.line.lineMode = .stopping)
    (hc : s.lots.table = [] ∧ s.lots.inventory ≤ s.params.drawDown) : cycleLine s = endStop .completed s := by
  unfold cycleLine
  rw [if_pos hm, if_pos ((completionTest_iff s).2 hc)]

/-- A stop that is not complete counts its cycle, and ends at its limit. -/
theorem cycleLine_counted {s : State} {r : StopRec} (hm : s.line.lineMode = .stopping) (hr : s.line.stopRec = some r)
    (hc : ¬(s.lots.table = [] ∧ s.lots.inventory ≤ s.params.drawDown)) :
    cycleLine s =
      if r.remaining ≤ 1 then raise .stopForced (endStop .forced s)
      else { s with line := { s.line with stopRec := some { r with remaining := r.remaining - 1 } } } := by
  unfold cycleLine
  rw [if_pos hm, if_neg (mt (completionTest_iff s).1 hc), hr]

/-! ### The causes at the end of a stop -/

theorem CauseInv.trip_idle {s : State} (h : CauseInv s) (hm : s.line.lineMode ≠ .tripped) :
    (s.causes.entry .trip).pending = false :=
  (h.level .trip rfl).trans (beq_eq_false_iff_ne.2 hm)

theorem CauseInv.endStop_causes {s : State} (h : CauseInv s) (hm : s.line.lineMode = .stopping) (how : StopEnd) :
    (endStop how s).causes = s.causes :=
  Machine.endStop_causes h.plantCauses hm (h.trip_idle (by rw [hm]; decide)) how

/-- STOP_FORCED raised over the end of a stop changes the causes alone. -/
theorem raise_stopForced_endStop {s : State} (h : CauseInv s) (hm : s.line.lineMode = .stopping) :
    raise .stopForced (endStop .forced s) =
      { endStop .forced s with causes := s.causes.raise s.params.causeMask .stopForced } := by
  have hparams : (endStop .forced s).params = s.params := by simp [State.params]
  unfold raise
  rw [h.endStop_causes hm, hparams]

/-- Settles O60: the stop ends by completion, by its limit with STOP_FORCED, or counts the cycle. -/
theorem orderlyStop : Obligations.OrderlyStop := by
  intro s r hm hr hcause t complete
  refine ⟨fun hend => ?_, fun hc hlong => (cycleLine_counted hm hr hc).trans (if_neg (Nat.not_le.2 hlong))⟩
  by_cases hc : complete
  · have ht : t = endStop .completed s := cycleLine_complete hm hc
    obtain ⟨hrest, hhalted⟩ := endStop_halted hm .completed
    rw [ht, if_pos hc]
    exact ⟨hrest, hhalted, fun _ => hcause.endStop_causes hm _, fun hn => absurd hc hn⟩
  · have ht : t = { endStop .forced s with causes := s.causes.raise s.params.causeMask .stopForced } :=
      ((cycleLine_counted hm hr hc).trans (if_pos (hend.resolve_left hc))).trans (raise_stopForced_endStop hcause hm)
    obtain ⟨hrest, hcrushers, hfeeders⟩ := endStop_halted hm .forced
    rw [ht, if_neg hc]
    exact ⟨congrArg (fun u => { u with causes := s.causes.raise s.params.causeMask .stopForced }) hrest,
      ⟨hcrushers, hfeeders⟩, fun hcomplete => absurd hcomplete hc, fun _ => raisedOnce_raise _ _ _⟩

end Sys2Proof.Machine
end

section
/-!
PROOF. The line mode requests (O36, O37): the changes of mode that halt neither crushers nor feeders, and what
LINE_START, LINE_STOP and TRIP_RELEASE do in each mode.
-/

namespace Sys2Proof.Machine

/-! ### Changes of mode that halt nothing (R131) -/

/-- A change to a mode other than TRIPPED that neither zeroes the feeders nor signals the crushers. -/
theorem changeMode_quiet {mode : LineMode} {s : State} (hz : zeroesFeeders s.line.lineMode mode = false)
    (hk : signalsCrushers s.line.lineMode mode = false) (hm : mode ≠ .tripped) :
    changeMode mode s =
      { s with
        line := { s.line with lineMode := mode }
        pins := { s.pins with tripOut := false }
        causes := s.causes.cease .trip } := by
  have hout : (mode == .tripped) = false := beq_eq_false_iff_ne.2 hm
  unfold changeMode
  dsimp only
  rw [hz, hk, hout, Bool.and_false, settleLevel_eq]
  simp [levelHolds, hout, raiseIf]

/-- From a mode other than TRIPPED, RUN and STOPPING are entered with nothing but the line changed; `x` is the line once
its records fit the new mode. -/
theorem changeMode_feeds {s : State} (hline : LineInv s) (hcause : CauseInv s) (hm : s.line.lineMode ≠ .tripped)
    {mode : LineMode} (hf : mode.feeds = true) (x : LineControl) :
    changeMode mode { s with line := x } = { s with line := { x with lineMode := mode } } := by
  have hquiet (old : LineMode) : zeroesFeeders old mode = false ∧ signalsCrushers old mode = false := by
    cases mode with
    | run | stopping => simp [zeroesFeeders, signalsCrushers]
    | idle | ready | stopped | tripped => cases hf
  have hout : false = s.pins.tripOut := (hline.tripOut.trans (beq_eq_false_iff_ne.2 hm)).symm
  rw [changeMode_quiet (hquiet _).1 (hquiet _).2 (by rintro rfl; cases hf)]
  dsimp only
  rw [hcause.cease_eq (hcause.trip_idle hm), hout]

theorem LineInv.asked {s : State} (h : LineInv s) : LineInv s.asked := h.of_eq (by simp) (by simp) (by simp) (by simp)

/-! ### LINE_START (R129, R133, R134) -/

theorem tripInputs_asked (s : State) : tripInputs s.asked = tripInputs s := by
  simp [tripInputs, State.recordOf]

/-- In READY and STOPPED the trip inputs are evaluated before the line starts. -/
theorem lineStartAct_starts {s : State} (hm : s.line.lineMode = .ready ∨ s.line.lineMode = .stopped)
    (payload : List Byte) :
    lineStartAct payload s =
      if (tripInputs s).any then withMode .wrongMode (enterTripped (tripInputs s) s)
      else withMode .done (changeMode .run s) := by
  unfold lineStartAct
  rcases hm with hm | hm <;> rw [hm]

theorem not_tripped_of_starts {mode : LineMode} (hm : mode = .ready ∨ mode = .stopped) : mode ≠ .tripped := by
  rcases hm with rfl | rfl <;> decide

theorem lineStartAct_active {s : State} (hm : s.line.lineMode = .ready ∨ s.line.lineMode = .stopped)
    (ha : (tripInputs s).active) (payload : List Byte) :
    lineStartAct payload s =
      { state := takeTripInputs (tripInputs s) s, result := .wrongMode, data := [LineMode.tripped.code] } := by
  have hany := (TripInputs.any_iff _).2 ha
  rw [lineStartAct_starts hm, if_pos hany, takeTripInputs_entered (not_tripped_of_starts hm) hany]
  unfold withMode enterTripped
  rw [(changeMode_line _ _).1]

theorem lineStartAct_inactive {s : State} (hline : LineInv s) (hcause : CauseInv s)
    (hm : s.line.lineMode = .ready ∨ s.line.lineMode = .stopped) (ha : ¬(tripInputs s).active) (payload : List Byte) :
    lineStartAct payload s = withMode .done { s with line := { s.line with lineMode := .run } } := by
  rw [lineStartAct_starts hm, if_neg fun hany => ha ((TripInputs.any_iff _).1 hany)]
  exact congrArg (withMode .done) (changeMode_feeds hline hcause (not_tripped_of_starts hm) rfl s.line)

theorem lineStartAct_stopping {s : State} (hline : LineInv s) (hcause : CauseInv s) (hm : s.line.lineMode = .stopping)
    (payload : List Byte) :
    lineStartAct payload s =
      withMode .done
        { s with line := { s.line with lineMode := .run, stopRec := none, lastStopEnd := .cancelled } } := by
  have hstop : s.line.stopRec.isSome = true := hline.stop.trans (by rw [hm]; rfl)
  unfold lineStartAct
  rw [hm]
  dsimp only
  rw [discardStop_eq, hstop, if_pos rfl]
  exact congrArg (withMode .done) (changeMode_feeds hline hcause (by rw [hm]; decide) rfl _)

/-- In the modes that are neither left nor evaluated in, LINE_START only answers. -/
theorem lineStartAct_stays {s : State}
    (hm : s.line.lineMode = .run ∨ s.line.lineMode = .idle ∨ s.line.lineMode = .tripped) (payload : List Byte) :
    lineStartAct payload s = withMode (if s.line.lineMode = .run then .done else .wrongMode) s := by
  unfold lineStartAct
  rcases hm with hm | hm | hm <;> rw [hm] <;> rfl

/-! ### LINE_STOP (R130) -/

theorem lineStopAct_run {s : State} (hline : LineInv s) (hcause : CauseInv s) (hm : s.line.lineMode = .run)
    (payload : List Byte) :
    lineStopAct payload s =
      withMode .done
        { s with
          line :=
            { s.line with
              lineMode := .stopping
              stopRec := some { startCycle := s.tracker.cycleCount, remaining := s.params.stopLimit } } } := by
  unfold lineStopAct
  rw [hm]
  exact congrArg (withMode .done) (changeMode_feeds hline hcause (by rw [hm]; decide) rfl _)

theorem lineStopAct_stays {s : State} (hm : s.line.lineMode ≠ .run) (payload : List Byte) :
    lineStopAct payload s = withMode (if s.line.lineMode = .stopping then .done else .wrongMode) s := by
  unfold lineStopAct
  cases hmode : s.line.lineMode with
  | run => exact absurd hmode hm
  | idle | ready | stopping | stopped | tripped => rfl

/-- Settles O36: each request by the line mode, with the trip inputs evaluated at a start from READY or STOPPED. -/
theorem lineStartStop : Obligations.LineStartStop := by
  refine ⟨fun s own src payload hline hcause h => ?_, fun s own src payload hline hcause h => ?_⟩
  · intro a starts
    refine ⟨fun hstarts hactive => ?_, fun hquiet => congrArg Host.Outcome.next ?_⟩
    · have hact := lineStartAct_active (s := s.asked) (by rwa [State.asked_line]) (by rwa [tripInputs_asked]) payload
      rw [tripInputs_asked] at hact
      exact ⟨takeTripInputs a s.asked, congrArg Host.Outcome.next (serve_own_answer h hact (by simp)),
        tripTaken_takeTripInputs a s.asked⟩
    · have hstart (hstarts : starts) := lineStartAct_inactive hline.asked hcause.asked (by rwa [State.asked_line])
        (by rw [tripInputs_asked]; exact hquiet hstarts) payload
      have hstay (hm : s.line.lineMode = .run ∨ s.line.lineMode = .idle ∨ s.line.lineMode = .tripped) :=
        lineStartAct_stays (s := s.asked) (by rwa [State.asked_line]) payload
      unfold withMode at hstart hstay
      rw [State.asked_line] at hstart hstay
      cases hm : s.line.lineMode with
      | ready => exact serve_own_answer h (hstart (.inl hm)) (by simp)
      | stopped => exact serve_own_answer h (hstart (.inr hm)) (by simp)
      | stopping =>
        have hact := lineStartAct_stopping hline.asked hcause.asked (by rwa [State.asked_line]) payload
        rw [State.asked_line] at hact
        exact serve_own_answer h hact (by simp)
      | run =>
        have hsame : ({ s.asked with line := { s.line with lineMode := .run } } : State) = s.asked := by
          rw [← hm, ← State.asked_line]
        rw [hsame]
        exact serve_own_answer h ((hstay (.inl hm)).trans (by rw [hm]; rfl)) (by simp)
      | idle => exact serve_own_answer h ((hstay (.inr (.inl hm))).trans (by rw [hm]; rfl)) (by simp)
      | tripped => exact serve_own_answer h ((hstay (.inr (.inr hm))).trans (by rw [hm]; rfl)) (by simp)
  · refine congrArg Host.Outcome.next ?_
    have hstay (hm : s.line.lineMode ≠ .run) :=
      lineStopAct_stays (s := s.asked) (by rwa [State.asked_line]) payload
    unfold withMode at hstay
    rw [State.asked_line] at hstay
    cases hm : s.line.lineMode with
    | run =>
      have hact := lineStopAct_run hline.asked hcause.asked (by rwa [State.asked_line]) payload
      rw [← State.asked_line s, ← State.asked_tracker s, ← State.asked_params s]
      exact serve_own_answer h hact (by simp)
    | idle | ready | stopping | stopped | tripped =>
      exact serve_own_answer h ((hstay (by rw [hm]; decide)).trans (by rw [hm]; rfl)) (by simp)

/-! ### TRIP_RELEASE (R133, R136) -/

/-- UNIT_LINE is active just where some unit line is. -/
theorem tripInputs_unitLine (s : State) : (tripInputs s).unitLine = ((tripInputs s).lines != 0) := by
  unfold tripInputs
  split
  · split
    · split <;> rfl
    · rfl
  · rfl

theorem codeTripInputs_inactive {s : State} (h : (tripInputs s).any = false) :
    codeTripInputs (tripInputs s) = [0, 0] := by
  obtain ⟨⟨hpin, hline⟩, hstale⟩ : ((tripInputs s).pin = false ∧ (tripInputs s).unitLine = false) ∧
      (tripInputs s).unitStale = false := by simpa [TripInputs.any] using h
  have hlines : (tripInputs s).lines = 0 := by simpa [hline] using tripInputs_unitLine s
  simp [codeTripInputs, hpin, hline, hstale, hlines]

/-- The line leaves TRIPPED for READY or IDLE; TRIP_OUT deasserts and TRIP ceases (R131, R136). -/
theorem releaseTrip_eq {s : State} (hm : s.line.lineMode = .tripped) :
    releaseTrip s =
      { s with
        line :=
          { s.line with lineMode := if s.tracker.lockState = .locked then .ready else .idle, tripRec := none }
        pins := { s.pins with tripOut := false }
        causes := s.causes.cease .trip } := by
  have hfrom (mode : LineMode) (hmode : mode = .ready ∨ mode = .idle) :
      zeroesFeeders s.line.lineMode mode = false ∧ signalsCrushers s.line.lineMode mode = false := by
    rcases hmode with rfl | rfl <;> rw [hm] <;> exact ⟨rfl, rfl⟩
  unfold releaseTrip
  split
  · exact changeMode_quiet (hfrom _ (.inl rfl)).1 (hfrom _ (.inl rfl)).2 (by decide)
  · exact changeMode_quiet (hfrom _ (.inr rfl)).1 (hfrom _ (.inr rfl)).2 (by decide)

theorem tripReleaseAct_released {s : State} (hm : s.line.lineMode = .tripped) (ha : (tripInputs s).any = false)
    (payload : List Byte) :
    tripReleaseAct payload s =
      { state := releaseTrip s
        result := .done
        data := [(if s.tracker.lockState = .locked then LineMode.ready else .idle).code, 0, 0] } := by
  unfold tripReleaseAct
  rw [if_pos hm]
  dsimp only
  rw [ha, codeTripInputs_inactive ha, releaseTrip_eq hm]
  rfl

theorem tripReleaseAct_held {s : State} (hm : s.line.lineMode = .tripped) (ha : (tripInputs s).any = true)
    (payload : List Byte) :
    tripReleaseAct payload s =
      { state := addTripInputs (tripInputs s) s
        result := .wrongMode
        data := LineMode.tripped.code :: codeTripInputs (tripInputs s) } := by
  unfold tripReleaseAct
  rw [if_pos hm, ← hm]
  dsimp only
  rw [ha]
  rfl

theorem tripReleaseAct_untripped {s : State} (hm : s.line.lineMode ≠ .tripped) (payload : List Byte) :
    tripReleaseAct payload s = { state := s, result := .wrongMode, data := [s.line.lineMode.code, 0, 0] } :=
  if_neg hm

/-- Settles O37: in TRIPPED by the trip inputs found, and refused in every other mode. -/
theorem tripRelease : Obligations.TripRelease := by
  intro s own src payload _ _ h a
  have hinputs : tripInputs s.asked = a := tripInputs_asked s
  refine ⟨fun hm ha => ⟨s.causes.cease .trip, congrArg Host.Outcome.next ?_, fun x hx => ?_, ?_, rfl, rfl⟩,
    fun hm ha => congrArg Host.Outcome.next ?_, fun hm => congrArg Host.Outcome.next ?_⟩
  · have hasked : s.asked.line.lineMode = .tripped := by rwa [State.asked_line]
    have hact := tripReleaseAct_released hasked (by rwa [hinputs]) payload
    rw [releaseTrip_eq hasked] at hact
    rw [← State.asked_line s, ← State.asked_tracker s, ← State.asked_pins s, ← State.asked_causes s]
    exact serve_own_answer h hact (by simp)
  · rw [CauseUnit.entry_cease, if_neg hx]
  · rw [CauseUnit.entry_cease, if_pos rfl]
  · have hact := tripReleaseAct_held (s := s.asked) (by rwa [State.asked_line]) (by rwa [hinputs]) payload
    unfold addTripInputs at hact
    rw [hinputs, State.asked_line] at hact
    exact serve_own_answer h hact (by simp)
  · have hact := tripReleaseAct_untripped (s := s.asked) (by rwa [State.asked_line]) payload
    rw [State.asked_line] at hact
    exact serve_own_answer h hact (by simp)

end Sys2Proof.Machine
end

section
/-!
PROOF. READ_RECORD (O26): which records exist (Table 10-3), the pages of a record, and the answers (R172, R179).
-/

namespace Sys2Proof.Machine

/-! ### Which records exist (Table 10-3) -/

theorem isSome_index4 {n : Nat} : (index4 n).isSome = true ↔ n < 4 := by
  unfold index4
  split <;> simp <;> omega

theorem isSome_indexBelow {n bound : Nat} : (indexBelow n bound).isSome = true ↔ n < bound := by
  unfold indexBelow
  split <;> simp <;> omega

theorem isSome_byBank {qualifier : Nat} {active staged : List Byte} :
    (byBank qualifier active staged).isSome = true ↔ qualifier ≤ 1 := by
  unfold byBank
  split
  · simp; omega
  · split <;> simp <;> omega

/-- A record that both banks hold exists for an index below their size, ACTIVE and STAGED. -/
theorem isSome_bankRecord {index bound qualifier : Nat} {active staged : Fin bound → List Byte} :
    ((indexBelow index bound).bind fun i => byBank qualifier (active i) (staged i)).isSome = true ↔
      index < bound ∧ qualifier ≤ 1 := by
  unfold indexBelow
  split
  · rw [Option.bind_some, isSome_byBank]
    simp [*]
  · simp [*]

/-- Table 10-3, kind by kind. -/
theorem isSome_recordBytes (s : State) (kind index qualifier : Nat) :
    (recordBytes s kind index qualifier).isSome = true ↔
      (kind = 0 ∧ index < 4) ∨ (kind = 1 ∧ index < 4) ∨ (kind = 2 ∧ index < 64) ∨
      (kind = 3 ∧ index < 64 ∧ 1 ≤ qualifier ∧ qualifier ≤ 4) ∨ kind = 4 ∨ (kind = 5 ∧ index < 32) ∨
      (kind = 6 ∧ index < 32 ∧ qualifier ≤ 1) ∨ (kind = 7 ∧ index < 8 ∧ qualifier ≤ 1) ∨ kind = 8 ∨ kind = 9 := by
  match kind with
  | 0 | 1 => simp [recordBytes, isSome_index4]
  | 2 =>
    simp only [recordBytes, Option.isSome_ite]
    simp [lotTableSize]
  | 3 =>
    simp only [recordBytes, Option.isSome_ite, inRange, Bool.and_eq_true, decide_eq_true_eq]
    simp [lotTableSize]
  | 4 | 8 | 9 => simp [recordBytes]
  | 5 => simp [recordBytes, isSome_indexBelow]
  | 6 | 7 => simp [recordBytes, isSome_bankRecord]
  | n + 10 => simp [recordBytes]

/-! ### The pages of a record (R179) -/

theorem flatMap_pages {α : Type} (l : List α) (size n : Nat) :
    ((List.range n).flatMap fun k => (l.drop (size * k)).take size) = l.take (size * n) := by
  induction n with
  | zero => simp
  | succ n ih => rw [List.range_succ, List.flatMap_append, ih, Nat.mul_succ, List.take_add]; simp

/-- The pages of a record together are its bytes. -/
theorem flatMap_pageCount (bytes : List Byte) :
    ((List.range (pageCount bytes)).flatMap fun n => (bytes.drop (pageSize * n)).take pageSize) = bytes := by
  have hcovers : bytes.length ≤ pageSize * pageCount bytes := by
    unfold pageCount pageSize
    omega
  rw [flatMap_pages, List.take_of_length_le hcovers]

/-- A page's data with its numbers, each given in one byte, as they came. -/
theorem pageData_bytes (s : State) (kind index page : Byte) (bytes : List Byte) :
    pageData s kind.toNat index.toNat page.toNat bytes =
      [kind, index, page, BitVec.ofNat 8 (pageCount bytes)] ++ beBytes 4 s.tracker.cycleCount.toNat ++
        (bytes.drop (pageSize * page.toNat)).take pageSize := by
  simp [pageData, code1, code4, beBytes]

/-! ### The answers (R172, R179) -/

section
variable {s : State} {kind index qualifier page : Byte} {rest : List Byte}

theorem arguments_record :
    arguments [1, 1, 1, 1] (kind :: index :: qualifier :: page :: rest) =
      some [kind.toNat, index.toNat, qualifier.toNat, page.toNat] := by
  simp only [arguments_byte, arguments_nil, Option.map_some]

theorem readRecordAct_some {bytes : List Byte}
    (h : recordBytes s kind.toNat index.toNat qualifier.toNat = some bytes) :
    readRecordAct (kind :: index :: qualifier :: page :: rest) s =
      if page.toNat < pageCount bytes then
        { state := s, result := .done, data := pageData s kind.toNat index.toNat page.toNat bytes }
      else answered .badArg s := by
  unfold readRecordAct
  rw [arguments_record]
  dsimp only
  rw [h]

theorem readRecordAct_none (h : recordBytes s kind.toNat index.toNat qualifier.toNat = none) :
    readRecordAct (kind :: index :: qualifier :: page :: rest) s = answered .badArg s := by
  unfold readRecordAct
  rw [arguments_record]
  dsimp only
  rw [h]

theorem readRecordAct_short {payload : List Byte} (h : payload.length < 4) :
    readRecordAct payload s = answered .badArg s := by
  unfold readRecordAct
  split
  · rename_i hargs
    have hsum : 4 ≤ payload.length := (arguments_sum_le hargs).1
    omega
  · rfl

end

/-- Settles O26: the records of Table 10-3, and a page of one of them or a refusal. -/
theorem readRecord : Obligations.ReadRecord := by
  refine ⟨isSome_recordBytes, fun s own src kind index qualifier page rest h => ?_⟩
  refine ⟨fun bytes hbytes => ?_, fun hnone => ?_, fun short hshort => ?_⟩
  · refine ⟨flatMap_pageCount bytes, congrArg Host.Outcome.next ?_⟩
    have hact := readRecordAct_some (page := page) (rest := rest) hbytes
    rw [pageData_bytes, State.asked_tracker] at hact
    by_cases hpage : page.toNat < pageCount bytes
    · rw [if_pos hpage] at hact
      exact (serve_own_answer h hact (congrArg Relay.mBound s.asked_relay)).trans (if_pos hpage).symm
    · rw [if_neg hpage] at hact
      exact (serve_own_refused h hact).trans (if_neg hpage).symm
  · exact congrArg Host.Outcome.next (serve_own_refused h (readRecordAct_none hnone))
  · have hconsumes : Consumes s own short := ⟨h.address, by omega, h.room⟩
    exact congrArg Host.Outcome.next (serve_own_refused hconsumes (readRecordAct_short hshort))

end Sys2Proof.Machine
end

section
/-!
PROOF. Table loading and unknown functions: LOAD_OPEN (O39, R180), COMMIT (O40, R183), and a request whose function
names none (O47, R172, R173).
-/

namespace Sys2Proof.Machine

/-! ### The bank of a request (R172) -/

theorem bankArg_byte (bank : Byte) :
    bankArg bank.toNat = if bank = 0 then some .station else if bank = 1 then some .curve else none := by
  have hzero : bank.toNat = 0 ↔ bank = 0 := BitVec.toNat_inj (y := 0#8)
  have hone : bank.toNat = 1 ↔ bank = 1 := BitVec.toNat_inj (y := 1#8)
  simp only [bankArg, hzero, hone]

theorem Bank.code_of_bankArg {bank : Byte} {b : Bank} (h : bankArg bank.toNat = some b) : b.code = bank := by
  rw [bankArg_byte] at h
  by_cases hstation : bank = 0
  · rw [if_pos hstation] at h
    cases h
    exact hstation.symm
  · by_cases hcurve : bank = 1
    · rw [if_neg hstation, if_pos hcurve] at h
      cases h
      exact hcurve.symm
    · rw [if_neg hstation, if_neg hcurve] at h
      cases h

theorem code2_bytes (hi lo : Byte) : code2 (hi.toNat * 256 + lo.toNat) = [hi, lo] := by
  have hhi := hi.isLt
  have hlo := lo.isLt
  simp only [code2, beBytes, List.cons.injEq, and_true]
  constructor <;> apply BitVec.eq_of_toNat_eq <;> simp <;> omega

/-! ### LOAD_OPEN (R180) -/

theorem loadOpenAct_noBank {bank : Byte} (h : bankArg bank.toNat = none) (hi lo : Byte) (rest : List Byte) (s : State) :
    loadOpenAct (bank :: hi :: lo :: rest) s = answered .badArg s := by
  unfold loadOpenAct
  rw [arguments_byte, arguments_word, arguments_nil]
  dsimp only [Option.map_some]
  rw [h]

/-- LOAD_OPEN for one of the two banks: the index is judged first, then the pending commit. -/
theorem loadOpenAct_bank {bank : Byte} {b : Bank} (h : bankArg bank.toNat = some b) (hi lo : Byte) (rest : List Byte)
    (s : State) :
    loadOpenAct (bank :: hi :: lo :: rest) s =
      if b.size ≤ hi.toNat * 256 + lo.toNat then answered .badArg s
      else if pendingOn s.handler b then answered .busy s
      else { state := openSession b (hi.toNat * 256 + lo.toNat) s, result := .done, data := [bank, hi, lo] } := by
  unfold loadOpenAct
  rw [arguments_byte, arguments_word, arguments_nil]
  dsimp only [Option.map_some]
  rw [h]
  dsimp only
  rw [code2_bytes, Bank.code_of_bankArg h]

theorem pendingOn_asked (s : State) (b : Bank) : pendingOn s.asked.handler b = pendingOn s.handler b := by
  cases b
  · exact s.asked_pendingStation
  · exact s.asked_pendingCurve

/-- At the own address no session is open for LOAD_OPEN to end: the request has ended it (R180, R182). -/
theorem openSession_asked (b : Bank) (start : Nat) (s : State) :
    openSession b start s.asked =
      setSession { bank := b, portal := start, startIndex := start, wordsTaken := 0, overflowed := false } s.asked := by
  rw [openSession, endSession_of_none _ s.asked_session]

/-- LOAD_OPEN at the own address for one of the two banks. -/
theorem exec_loadOpen_bank {s : State} {own src bank hi lo : Byte} {rest : List Byte} {b : Bank}
    (hb : bankArg bank.toNat = some b) (h : Consumes s own (bank :: hi :: lo :: rest)) :
    exec (.loadOpen own src (bank :: hi :: lo :: rest)) s =
      .next
        (if hi.toNat * 256 + lo.toNat < b.size then
          if pendingOn s.handler b then s.asked.answer own 0x10 .busy []
          else (openSession b (hi.toNat * 256 + lo.toNat) s.asked).answer own 0x10 .done [bank, hi, lo]
        else s.asked.answer own 0x10 .badArg []) := by
  refine congrArg Host.Outcome.next ?_
  have hact := loadOpenAct_bank hb hi lo rest s.asked
  rw [pendingOn_asked] at hact
  split
  · rename_i hfits
    rw [if_neg (Nat.not_le.2 hfits)] at hact
    split
    · rename_i hpending
      rw [if_pos hpending] at hact
      exact serve_own_refused h hact
    · rename_i hfree
      rw [if_neg hfree] at hact
      exact serve_own_answer h hact (by rw [openSession_asked, setSession, State.asked_relay])
  · rename_i hbeyond
    rw [if_pos (Nat.not_lt.1 hbeyond)] at hact
    exact serve_own_refused h hact

/-- Settles O39: a bank of the two by its size and its pending commit, and any other bank refused. -/
theorem loadOpen : Obligations.LoadOpen := by
  intro s own src bank hi lo rest h start opened
  have hbank := bankArg_byte bank
  have hopened (b : Bank) : opened b = (openSession b start s.asked).answer own 0x10 .done [bank, hi, lo] := by
    rw [openSession_asked]
    rfl
  simp only [hopened]
  by_cases hstation : bank = 0
  · rw [if_pos hstation] at hbank
    rw [exec_loadOpen_bank hbank h]
    subst hstation
    simp only [true_and, BitVec.reduceEq, false_and, if_false]
    rfl
  · rw [if_neg hstation] at hbank
    by_cases hcurve : bank = 1
    · rw [if_pos hcurve] at hbank
      rw [exec_loadOpen_bank hbank h]
      subst hcurve
      simp only [true_and, BitVec.reduceEq, false_and, if_false]
      rfl
    · rw [if_neg hcurve] at hbank
      simp only [hstation, hcurve, false_and, if_false]
      exact congrArg Host.Outcome.next (serve_own_refused h (loadOpenAct_noBank hbank hi lo rest _))

/-! ### COMMIT (R183) -/

theorem LineMode.feeds_iff (m : LineMode) : m.feeds = true ↔ m = .run ∨ m = .stopping := by
  cases m <;> simp [LineMode.feeds]

theorem commitAct_noBank {bank : Byte} (h : bankArg bank.toNat = none) (rest : List Byte) (s : State) :
    commitAct (bank :: rest) s = answered .badArg s := by
  unfold commitAct
  rw [arguments_byte, arguments_nil]
  dsimp only [Option.map_some]
  rw [h]

/-- What COMMIT of a validated or a failing bank answers (R183). -/
def commitJudged (b : Bank) (s : State) : Option (Nat × Nat) → Served
  | some (index, check) =>
    { state := s, result := .invalidTable, data := [BitVec.ofNat 8 index, BitVec.ofNat 8 check] }
  | none => answered .done (setPending b s)

/-- COMMIT of one of the two banks, where no session is open. -/
theorem commitAct_bank {bank : Byte} {b : Bank} (h : bankArg bank.toNat = some b) {s : State}
    (hs : s.handler.session = none) (rest : List Byte) :
    commitAct (bank :: rest) s =
      if pendingOn s.handler b then answered .busy s
      else if b = .station ∧ s.line.lineMode.feeds = true then answered .wrongMode s
      else commitJudged b s (bankFailure s b) := by
  have hclosed : sessionOn s.handler b = false := by simp [sessionOn, hs]
  unfold commitAct
  rw [arguments_byte, arguments_nil]
  dsimp only [Option.map_some]
  rw [h]
  dsimp only
  rw [hclosed, Bool.or_false]
  cases bankFailure s b with
  | none => rfl
  | some found => simp [commitJudged, code1, beBytes]

theorem bankFailure_asked (s : State) (b : Bank) : bankFailure s.asked b = bankFailure s b := by
  cases b <;> simp only [bankFailure, State.asked_ownAddress, State.asked_stagedTable, State.asked_stagedCurves]

theorem setPending_relay (b : Bank) (s : State) : (setPending b s).relay = s.relay := by
  cases b <;> rfl

/-- COMMIT at the own address of one of the two banks. -/
theorem exec_commit_bank {s : State} {own src bank : Byte} {rest : List Byte} {b : Bank}
    (hb : bankArg bank.toNat = some b) (h : Consumes s own (bank :: rest)) :
    exec (.commit own src (bank :: rest)) s =
      .next
        (if pendingOn s.handler b then s.asked.answer own 0x11 .busy []
        else if b = .station ∧ (s.line.lineMode = .run ∨ s.line.lineMode = .stopping) then
          s.asked.answer own 0x11 .wrongMode []
        else
          match bankFailure s b with
          | some (index, check) =>
            s.asked.answer own 0x11 .invalidTable [BitVec.ofNat 8 index, BitVec.ofNat 8 check]
          | none => (setPending b s.asked).answer own 0x11 .done []) := by
  refine congrArg Host.Outcome.next ?_
  have hact := commitAct_bank hb s.asked_session rest
  rw [pendingOn_asked, bankFailure_asked, State.asked_line] at hact
  simp only [LineMode.feeds_iff] at hact
  split
  · rename_i hpending
    rw [if_pos hpending] at hact
    exact serve_own_refused h hact
  rename_i hfree
  rw [if_neg hfree] at hact
  split
  · rename_i hrunning
    rw [if_pos hrunning] at hact
    exact serve_own_refused h hact
  rename_i hmode
  rw [if_neg hmode] at hact
  cases hfound : bankFailure s b with
  | some found =>
    rw [hfound] at hact
    exact serve_own_answer h hact (congrArg Relay.mBound s.asked_relay)
  | none =>
    rw [hfound] at hact
    exact serve_own_answer h hact (by rw [setPending_relay, State.asked_relay])

/-- Settles O40: a bank of the two in the order of R183, and any other bank refused. -/
theorem commit : Obligations.Commit := by
  intro s own src bank rest h
  have hbank := bankArg_byte bank
  by_cases hstation : bank = 0
  · rw [if_pos hstation] at hbank
    rw [exec_commit_bank hbank h, if_pos hstation]
    simp only [true_and, bankFailure, h.address]
    rfl
  · rw [if_neg hstation] at hbank
    rw [if_neg hstation]
    by_cases hcurve : bank = 1
    · rw [if_pos hcurve] at hbank
      rw [exec_commit_bank hbank h, if_pos hcurve]
      simp only [reduceCtorEq, false_and, if_false]
      rfl
    · rw [if_neg hcurve] at hbank
      rw [if_neg hcurve]
      exact congrArg Host.Outcome.next (serve_own_refused h (commitAct_noBank hbank rest _))

/-! ### A function that names no request (R172, R173) -/

theorem deliverRequest_unknown {fn : Byte} (h : fn.toNat = 0 ∨ 0x15 < fn.toNat) (dst src : Byte) (payload : List Byte) :
    deliverRequest dst src fn payload = serveUnknown fn dst src payload := by
  funext s
  unfold deliverRequest
  rcases h with hzero | habove
  · rw [hzero]
    rfl
  · obtain ⟨n, hn⟩ := Nat.exists_eq_add_of_le' habove
    rw [hn]
    rfl

theorem exec_unknownFunction {fn : Byte} (h : fn.toNat = 0 ∨ 0x15 < fn.toNat) (dst src : Byte) (payload : List Byte)
    (s : State) :
    exec (.unknownFunction dst src fn payload) s =
      .next (receiveAt .m payload (serveRequest fn true (fun _ t => answered .unknown t) dst src payload) s) := by
  show Host.Outcome.next (receiveAt .m payload (deliverRequest dst src fn payload) s) = _
  rw [deliverRequest_unknown h]
  rfl

/-- Settles O47: at the own address UNKNOWN, at address 0 forwarded alone. -/
theorem unknownFunction : Obligations.UnknownFunction := by
  intro s own src fn payload h hroom hfn
  have hown : s.ownAddress ≠ some 0 := by
    rw [h.address]
    exact fun hzero => h.ne_zero (Option.some.inj hzero)
  rw [exec_unknownFunction hfn, exec_unknownFunction hfn]
  refine ⟨congrArg Host.Outcome.next (serve_own_refused h rfl), congrArg Host.Outcome.next ?_⟩
  rw [serve_broadcast h.fits hown]
  exact joinF_of_room _ hroom

end Sys2Proof.Machine
end

section
/-!
PROOF. The causes (O4, O53): what one raising does, how a level cause comes to agree with its condition again once the
condition has changed, and that every block keeps the counts with the pending bits and the level causes with their
conditions.
-/

namespace Sys2Proof.Machine

/-- Settles O53: one raising gives the unit that R187 says, and `raise` replaces the cause unit alone. -/
theorem raisingCauses : Obligations.RaisingCauses := fun x s => ⟨raisedOnce_raise _ x s.causes, rfl⟩

/-! ### The cause unit (R186, R189) -/

theorem CauseUnit.entry_ceases {x : Cause} {l : List Cause} (h : x ∉ l) (u : CauseUnit) :
    (l.foldl CauseUnit.cease u).entry x = u.entry x := by
  induction l generalizing u with
  | nil => rfl
  | cons c rest ih =>
    obtain ⟨hc, hrest⟩ := not_or.1 (List.mem_cons.not.1 h)
    rw [List.foldl_cons, ih hrest, CauseUnit.entry_cease, if_neg hc]

/-- Reading the causes leaves the level causes (R189). -/
theorem CauseUnit.entry_readEdges {x : Cause} (hx : x.isLevel = true) (u : CauseUnit) :
    u.readEdges.entry x = u.entry x :=
  CauseUnit.entry_ceases (by simp [hx]) u

theorem CauseUnit.Counted.readEdges {u : CauseUnit} (h : u.Counted) : u.readEdges.Counted :=
  List.foldlRecOn _ _ h fun _ hv x _ => hv.cease x

/-! ### A level cause whose condition has changed -/

/-- The causes as R186 says, but that the level cause `x` may disagree with its condition. -/
structure CausesBut (x : Cause) (s : State) : Prop where
  counted : s.causes.Counted
  others : ∀ y : Cause, y.isLevel = true → y ≠ x → (s.causes.entry y).pending = levelHolds y s

theorem pending_raiseIf (b : Bool) (x : Cause) (s : State) :
    ((raiseIf b x s).causes.entry x).pending = (b || (s.causes.entry x).pending) := by
  cases b with
  | false => rfl
  | true => exact congrArg CauseEntry.pending ((CauseUnit.entry_raise _ _ x x).trans (if_pos rfl))

theorem levelHolds_raiseIf (y : Cause) (b : Bool) (x : Cause) (s : State) :
    levelHolds y (raiseIf b x s) = levelHolds y s := by
  rw [raiseIf_eq, levelHolds_of_causes]

namespace CausesBut

variable {x : Cause} {s : State}

theorem agreed (h : CausesBut x s) (hx : (s.causes.entry x).pending = levelHolds x s) : CauseInv s :=
  ⟨h.counted.zero, h.counted.limit, fun y hy => if he : y = x then he ▸ hx else h.others y hy he⟩

/-- The unit may change its entry of `x` in any way that keeps the counts. -/
theorem withUnit (h : CausesBut x s) {u : CauseUnit} (hu : u.Counted)
    (hothers : ∀ y, y ≠ x → u.entry y = s.causes.entry y) : CausesBut x { s with causes := u } :=
  ⟨hu, fun y hy hne => by rw [levelHolds_of_causes, ← h.others y hy hne, ← hothers y hne]⟩

theorem raiseIf (h : CausesBut x s) (b : Bool) : CausesBut x (raiseIf b x s) := by
  cases b with
  | false => exact h
  | true => exact h.withUnit (h.counted.raise _ x) fun y hy => by rw [CauseUnit.entry_raise, if_neg hy]

/-- A level cause that is pending wherever its condition holds agrees with it once it has ceased elsewhere (R186). -/
theorem settleLevel (h : CausesBut x s) (hx : levelHolds x s = true → (s.causes.entry x).pending = true) :
    CauseInv (settleLevel x s) := by
  unfold Machine.settleLevel
  split
  · rename_i hholds
    exact h.agreed ((hx hholds).trans hholds.symm)
  · rename_i hends
    refine agreed (h.withUnit (h.counted.cease x) fun y hy => by rw [CauseUnit.entry_cease, if_neg hy]) ?_
    rw [levelHolds_of_causes, Bool.eq_false_iff.2 hends, CauseUnit.entry_cease, if_pos rfl]

end CausesBut

/-- The causes cleared, and the level causes that hold raised again, agree with the conditions whatever they were
before (R190). -/
theorem causeInv_clearCauses (s : State) : CauseInv (clearCauses s) := by
  have hentry := (clearCauses_cleared s).entry
  refine ⟨fun x => ?_, fun x => ?_, fun x hx => ?_⟩
  · rw [hentry]; split <;> decide
  · rw [hentry]; split <;> decide
  · have hholds : levelHolds x (clearCauses s) = levelHolds x s := by
      rw [clearCauses_eq_causes]
      exact levelHolds_of_causes x s _
    rw [hentry, hholds]
    cases levelHolds x s <;> simp [hx]

/-! ### The edge causes of a context -/

theorem statusOnMove_edge (st : ActStatus) (c : Crusher) : ∀ x ∈ (statusOnMove st c).raises, x.isLevel = false := by
  have hquiet (y : Crusher) : ∀ x ∈ (quiet y).raises, x.isLevel = false := fun _ hx => nomatch hx
  have hfailed : ∀ x ∈ [Cause.moveFailed], x.isLevel = false := by decide
  have hcomplete (m : Move) (r : ActResult) : ∀ x ∈ (complete m r c).raises, x.isLevel = false := by
    cases r with
    | idle | busy | done => exact hquiet _
    | strokeEnd | fault => exact hfailed
  unfold statusOnMove
  split
  · exact hquiet c
  · split
    · exact hquiet c
    · split
      case h_1 | h_2 => exact hquiet _
      all_goals exact hcomplete _ _

theorem cycleCrusher_edge (governed : Bool) (c : Crusher) :
    ∀ x ∈ (cycleCrusher governed c).raises, x.isLevel = false := by
  rw [cycleCrusher_eq]
  dsimp only
  split <;> decide

/-! ### What the invariant reads -/

/-- All that CauseInv reads of a state. -/
def State.causeView (s : State) := (s.causes, s.line.lineMode, s.lots.mismatch, s.crushers)

/-- The part as a change of line mode leaves it, but for TRIP (R131). -/
def modeTaken (mode : LineMode) (s : State) : State :=
  let s1 := { s with line := { s.line with lineMode := mode }, pins := { s.pins with tripOut := mode == .tripped } }
  let s2 := if zeroesFeeders s.line.lineMode mode then zeroFeeders s1 else s1
  if signalsCrushers s.line.lineMode mode then signalCrushers s2 else s2

theorem changeMode_eq_settled (mode : LineMode) (s : State) :
    changeMode mode s =
      settleLevel .trip (raiseIf (s.line.lineMode != .tripped && mode == .tripped) .trip (modeTaken mode s)) := rfl

theorem PlantCauses.zeroFeeders {s : State} (h : PlantCauses s) : PlantCauses (zeroFeeders s) :=
  h.of_eq (by simp) (by simp)

/-- Crushers stood down end no FAULT and no due liner, so that the causes wait for TRIP alone. -/
theorem PlantCauses.modeTaken {s : State} (h : PlantCauses s) (mode : LineMode) :
    PlantCauses (modeTaken mode s) ∧ (Machine.modeTaken mode s).causes = s.causes := by
  have hmode : PlantCauses
      { s with line := { s.line with lineMode := mode }, pins := { s.pins with tripOut := mode == .tripped } } :=
    h.of_eq rfl rfl
  unfold Machine.modeTaken
  dsimp only
  cases zeroesFeeders s.line.lineMode mode <;> cases signalsCrushers s.line.lineMode mode
  · exact ⟨hmode, rfl⟩
  · exact signalCrushers_causes hmode
  · exact ⟨hmode.zeroFeeders, by simp⟩
  · obtain ⟨hplant, hcauses⟩ := signalCrushers_causes hmode.zeroFeeders
    exact ⟨hplant, hcauses.trans (by simp)⟩

theorem modeTaken_frame (mode : LineMode) (s : State) :
    (modeTaken mode s).line.lineMode = mode ∧ (modeTaken mode s).lots = s.lots := by
  unfold modeTaken
  dsimp only
  split <;> split <;> simp

namespace CauseInv

variable {s t : State}

theorem of_view (h : CauseInv s) (ht : t.causeView = s.causeView) : CauseInv t := by
  simp only [State.causeView, Prod.mk.injEq] at ht
  obtain ⟨hcauses, hmode, hmismatch, hcrushers⟩ := ht
  have hk := State.crusher_congr hcrushers
  exact h.of_causes_eq hcauses (levelHolds_congr hmode hmismatch (fun k => by rw [hk]) fun k => by rw [hk])

/-- The condition of one level cause may have changed. -/
theorem but_of_eq (h : CauseInv s) {x : Cause} (hc : t.causes = s.causes)
    (hl : ∀ y : Cause, y.isLevel = true → y ≠ x → levelHolds y t = levelHolds y s) : CausesBut x t :=
  ⟨hc ▸ h.counted, fun y hy hne => by rw [hc, hl y hy hne]; exact h.level y hy⟩

/-- The unit may change in any way that keeps the counts and the level causes. -/
theorem withUnit (h : CauseInv s) {u : CauseUnit} (hu : u.Counted)
    (hlevel : ∀ x : Cause, x.isLevel = true → u.entry x = s.causes.entry x) : CauseInv { s with causes := u } :=
  ⟨hu.zero, hu.limit, fun x hx => by rw [levelHolds_of_causes, ← h.level x hx, ← hlevel x hx]⟩

theorem raised (h : CauseInv s) (x : Cause) (hx : x.isLevel = false) : CauseInv (raise x s) :=
  h.withUnit (h.counted.raise _ x) fun y hy => by
    have hne : y ≠ x := by rintro rfl; rw [hx] at hy; cases hy
    rw [CauseUnit.entry_raise, if_neg hne]

theorem raisedTimes (h : CauseInv s) (x : Cause) (hx : x.isLevel = false) (n : Nat) :
    CauseInv (raiseTimes x n s) := by
  induction n generalizing s with
  | zero => exact h
  | succ n ih => exact ih (h.raised x hx)

/-- A change that raises no edge cause. -/
theorem changeQuiet (h : CauseInv s) {k : Fin 4} {new : Crusher} : CauseInv (Machine.changeCrusher k (quiet new) s) :=
  h.changeCrusher fun _ hx => nomatch hx

/-- Each of the four crushers in turn changes, raising edge causes alone. -/
theorem changeFour (h : CauseInv s) {f : Fin 4 → State → Change}
    (hf : ∀ k t, ∀ x ∈ (f k t).raises, x.isLevel = false) :
    CauseInv (forFour (fun k t => Machine.changeCrusher k (f k t) t) s) :=
  forFour_induct CauseInv h fun k t ht => ht.changeCrusher (hf k t)

theorem changeFourQuiet (h : CauseInv s) (f : Fin 4 → State → Crusher) :
    CauseInv (forFour (fun k t => Machine.changeCrusher k (quiet (f k t)) t) s) :=
  h.changeFour fun _ _ _ hx => nomatch hx

theorem cycleCrushers (h : CauseInv s) : CauseInv (cycleCrushers s) := h.changeFour fun _ _ => cycleCrusher_edge _ _

theorem computeFeeder (h : CauseInv s) (j : Fin 4) : CauseInv (computeFeeder j s) := by
  unfold Machine.computeFeeder
  refine raisedTimes ?_ .configGap rfl _
  exact h.of_view rfl

/-! ### Line mode (R131) -/

/-- TRIP is raised at each entry to TRIPPED and ceases on leaving it; no other level cause is touched. -/
theorem changeMode (h : CauseInv s) (mode : LineMode) : CauseInv (changeMode mode s) := by
  obtain ⟨hplant, hcauses⟩ := h.plantCauses.modeTaken mode
  obtain ⟨hmode, hlots⟩ := modeTaken_frame mode s
  have hbut : CausesBut .trip (modeTaken mode s) := by
    refine ⟨hplant.counted, fun y hy hne => ?_⟩
    cases y with
    | trip => exact absurd rfl hne
    | crusherFault => exact hplant.fault
    | linerDue => exact hplant.due
    | diverterMismatch =>
      rw [hcauses, h.level _ hy]
      exact congrArg LotTracker.mismatch hlots.symm
    | _ => cases hy
  rw [changeMode_eq_settled]
  refine (hbut.raiseIf _).settleLevel fun hholds => ?_
  have htripped : mode = .tripped := by
    rw [levelHolds_raiseIf] at hholds
    exact hmode ▸ beq_iff_eq.1 hholds
  rw [pending_raiseIf, hcauses, h.level .trip rfl, htripped]
  dsimp only [levelHolds]
  cases s.line.lineMode <;> rfl

theorem discardStop (h : CauseInv s) (how : StopEnd) : CauseInv (discardStop how s) := by
  rw [discardStop_eq]
  exact h.of_view rfl

theorem enterTripped (h : CauseInv s) (a : TripInputs) : CauseInv (enterTripped a s) := by
  unfold Machine.enterTripped
  refine changeMode ?_ _
  exact (h.discardStop .tripped).of_view rfl

theorem takeTripInputs (h : CauseInv s) (a : TripInputs) : CauseInv (takeTripInputs a s) := by
  unfold Machine.takeTripInputs
  split
  · split
    · exact h.of_view rfl
    · exact h.enterTripped a
  · exact h

theorem evaluateTrip (h : CauseInv s) : CauseInv (evaluateTrip s) := h.takeTripInputs _

theorem endStop (h : CauseInv s) (how : StopEnd) : CauseInv (endStop how s) := by
  unfold Machine.endStop
  refine changeMode ?_ _
  exact h.of_view rfl

theorem cycleLine (h : CauseInv s) : CauseInv (cycleLine s) := by
  unfold Machine.cycleLine
  split
  · split
    · exact h.endStop _
    · split
      · split
        · exact (h.endStop _).raised .stopForced rfl
        · exact h.of_view rfl
      · exact h
  · exact h

theorem lineAcquired (h : CauseInv s) : CauseInv (lineAcquired s) := by
  unfold Machine.lineAcquired
  split
  · exact (h.changeMode _).evaluateTrip
  · exact h.evaluateTrip

theorem lineLockLost (h : CauseInv s) : CauseInv (lineLockLost s) := by
  unfold Machine.lineLockLost
  split
  · exact h
  · exact (h.discardStop _).changeMode _

/-! ### Arrivals (R18) -/

theorem actuatorArrival (h : CauseInv s) (k : Fin 4) : CauseInv (actuatorArrival k s) := by
  unfold Machine.actuatorArrival
  split
  · exact (h.changeCrusher (takeSample_edge _ _ _)).changeCrusher (statusOnMove_edge _ _)
  · exact h

theorem weighArrival (h : CauseInv s) (w : Nat) : CauseInv (weighArrival w s) := by
  unfold Machine.weighArrival placeWeigh
  split
  · exact h
  · split
    · exact h.of_view rfl
    · dsimp only
      split
      · exact h.of_view rfl
      · split
        · exact h.of_view rfl
        · refine raised ?_ _ rfl
          exact h.of_view rfl

theorem metalArrival (h : CauseInv s) (n : Nat) : CauseInv (metalArrival n s) := by
  unfold Machine.metalArrival
  dsimp only
  split
  · exact h
  · split
    · exact h.of_view rfl
    · split
      · exact h.of_view rfl
      · refine raised ?_ _ rfl
        exact h.of_view rfl

/-- The walk raises LOT_TABLE_FULL alone, and a retirement may end a stop (R107, R139). -/
theorem lotEvents (h : CauseInv s) : CauseInv (lotEvents s) := by
  unfold Machine.lotEvents
  dsimp only
  generalize hu : raiseTimes .lotTableFull _ _ = u
  have hwalked : CauseInv u := by
    rw [← hu]
    refine raisedTimes ?_ _ rfl _
    exact h.of_view rfl
  unfold retirementTest
  split
  · split
    · exact hwalked.endStop _
    · exact hwalked
  · exact hwalked

theorem travelArrival (h : CauseInv s) (d : Nat) : CauseInv (travelArrival d s) := by
  unfold Machine.travelArrival
  split
  · exact h
  · split
    · exact h.of_view rfl
    · exact lotEvents (h.of_view rfl)

theorem totalArrival (h : CauseInv s) (n : Nat) : CauseInv (totalArrival n s) := by
  unfold Machine.totalArrival
  dsimp only
  split <;> exact h.of_view rfl

theorem levelArrival (h : CauseInv s) : CauseInv (levelArrival s) := by
  unfold Machine.levelArrival
  split
  · exact h.of_view rfl
  · exact h

theorem deliverArrival (h : CauseInv s) (a : Arrival) : CauseInv (deliverArrival a s) := by
  unfold Machine.deliverArrival
  split
  case h_1 => exact h.evaluateTrip
  case h_2 k _ =>
    unfold pressureArrival
    split
    · exact h.changeCrusher (takeSample_edge _ _ _)
    · exact h
  case h_3 k _ => exact h.actuatorArrival k
  case h_4 k _ => exact h.changeQuiet
  case h_5 k _ => exact (h.computeFeeder k).changeQuiet
  case h_6 => exact h.weighArrival _
  case h_7 => exact h.metalArrival _
  case h_8 => exact h.travelArrival _
  case h_9 => exact h.totalArrival _
  case h_10 => exact h.levelArrival
  all_goals exact h

/-! ### The store, commits and the confirm supervision (R13, R19, R118) -/

theorem noticeStale (h : CauseInv s) (i : Fin 32) : CauseInv (noticeStale i s) := by
  rcases noticeStale_cases i s with ⟨k, -, he⟩ | ⟨-, he⟩ | ⟨-, -, he⟩ <;> rw [he]
  · exact h.computeFeeder k
  · exact h.evaluateTrip
  · exact h

theorem noticeStales (h : CauseInv s) (l : List (Fin 32)) : CauseInv (inFreeOrder l Machine.noticeStale s) :=
  inFreeOrder_induct CauseInv (h.of_view rfl) fun i _ _ ht => ht.noticeStale i

theorem cycleStore (h : CauseInv s) : CauseInv (cycleStore s) := by
  unfold Machine.cycleStore
  refine noticeStales (raisedTimes ?_ .staleInput rfl _) _
  exact h.of_view rfl

theorem applyStation (h : CauseInv s) : CauseInv (applyStation s) := by
  have hcopied : CauseInv (stationCopied s) :=
    h.of_view (by simp [State.causeView, stationCopied])
  refine raised (s := inFreeOrder (informedOf s.activeTable s.stagedTable)
    (informCommit s.activeTable s.stagedTable) (stationCopied s)) ?_ .tableCommitted rfl
  refine inFreeOrder_induct CauseInv (hcopied.of_view rfl) fun x _ t ht => ?_
  cases x with
  | record i => exact ht.noticeStale i
  | crusher k => exact ht.changeQuiet

theorem applyCommits (h : CauseInv s) : CauseInv (applyCommits s) := by
  refine inFreeOrder_induct CauseInv (h.of_view rfl) fun b _ t ht => ?_
  unfold applyPending
  split
  · split
    · exact ht.applyStation
    · exact ht
  · split
    · unfold applyCurve
      refine raised ?_ _ rfl
      exact ht.of_view rfl
    · exact ht

/-- DIVERTER_MISMATCH is raised as the mismatch is found, and ceases as it is cleared (R118, R119). -/
theorem cycleConfirm (h : CauseInv s) : CauseInv (cycleConfirm s) := by
  have hbut (l : LotTracker) : CausesBut .diverterMismatch (s.setLots l) := by
    refine h.but_of_eq rfl fun y hy hne => ?_
    cases y with
    | diverterMismatch => exact absurd rfl hne
    | _ => rfl
  unfold Machine.cycleConfirm
  split
  · refine ((hbut _).raiseIf _).agreed ?_
    have hpending : (s.causes.entry .diverterMismatch).pending = s.lots.mismatch := h.level _ rfl
    rw [pending_raiseIf, levelHolds_raiseIf, State.setLots_causes, hpending]
    dsimp only [levelHolds, State.setLots_lots]
    cases s.lots.mismatch <;> simp
  · exact (hbut _).settleLevel fun hholds => nomatch hholds

/-! ### Line time (R28, R31, R34) -/

theorem cycleWork (h : CauseInv s) (u : CycleUser) : CauseInv (cycleWork u s) := by
  cases u with
  | store => exact h.cycleStore
  | crushers => exact h.cycleCrushers
  | confirm => exact h.cycleConfirm
  | line => exact h.cycleLine
  | handler => exact h.applyCommits

theorem acquireWork (h : CauseInv s) (u : AcquireUser) : CauseInv (acquireWork u s) := by
  cases u with
  | store => exact h.noticeStales _
  | line => exact h.lineAcquired
  | handler => exact h.applyCommits

theorem keptByTime : KeptByTime CauseInv where
  raise _ x hx h := h.raised x hx
  lock _ _ _ h := h.of_view rfl
  free _ _ h := h.of_view rfl
  cycle u _ h := h.cycleWork u
  stale _ h := h.of_view rfl
  acquire u _ h := h.acquireWork u
  lost _ h := of_view (s := signalCrushers _) (h.lineLockLost.changeFourQuiet _) (by simp [State.causeView])
  onset _ _ h := h.changeCrusher (takeSample_edge _ _ _)

/-! ### The stream session (R181, R182) -/

theorem takeWord (h : CauseInv s) (w : Word) : CauseInv (takeWord s w) := by
  unfold Machine.takeWord
  split
  · exact h
  · dsimp only
    split
    · unfold writeStaged
      split <;> exact h.of_view rfl
    · unfold raiseIf
      split
      · refine raised ?_ _ rfl
        exact h.of_view rfl
      · exact h.of_view rfl

theorem takeStream (h : CauseInv s) (fn : Byte) (payload : List Byte) : CauseInv (takeStream fn payload s) := by
  have hwords : CauseInv ((payloadWords payload).foldl Machine.takeWord s) :=
    List.foldlRecOn _ _ h fun _ hu w _ => hu.takeWord w
  unfold Machine.takeStream
  dsimp only
  split
  · split
    · exact hwords.of_view (by simp [State.causeView])
    · exact hwords
  · exact h

/-! ### Requests -/

/-- The edge causes cease as they are read; the level causes stay (R189). -/
theorem readCauses (h : CauseInv s) (payload : List Byte) : CauseInv (readCausesAct payload s).state :=
  h.withUnit h.counted.readEdges fun _ hx => CauseUnit.entry_readEdges hx _

theorem writeCrusher (h : CauseInv s) (payload : List Byte) : CauseInv (writeCrusherAct payload s).state := by
  unfold writeCrusherAct
  split
  · split
    · split
      · exact h
      · exact h.changeQuiet
    · exact h
  · exact h

theorem writeFeeder (h : CauseInv s) (payload : List Byte) : CauseInv (writeFeederAct payload s).state := by
  unfold writeFeederAct
  split
  · split
    · split
      · exact h
      · dsimp only [answered]
        rw [writeFeeder_eq]
        exact h.of_view rfl
    · exact h
  · exact h

theorem writeLine (h : CauseInv s) (payload : List Byte) : CauseInv (writeLineAct payload s).state := by
  unfold writeLineAct
  split
  · split
    · exact h
    · exact evaluateTrip (h.of_view rfl)
  · exact h

theorem setTarget (h : CauseInv s) (payload : List Byte) : CauseInv (setTargetAct payload s).state := by
  unfold setTargetAct
  split
  · split
    · dsimp only
      split
      · exact h
      · exact h.changeQuiet
    · exact h
  · exact h

theorem crusherEnable (h : CauseInv s) (payload : List Byte) : CauseInv (crusherEnableAct payload s).state := by
  unfold crusherEnableAct
  split
  · exact h
  · split
    · exact h
    · refine indexed_keeps h (fun k => ?_) payload
      split
      · exact h.changeQuiet
      all_goals exact h

theorem crusherDisable (h : CauseInv s) (payload : List Byte) : CauseInv (crusherDisableAct payload s).state := by
  refine indexed_keeps h (fun k => ?_) payload
  split
  · exact h
  · exact h.changeQuiet

theorem faultClear (h : CauseInv s) (payload : List Byte) : CauseInv (faultClearAct payload s).state := by
  refine indexed_keeps h (fun k => ?_) payload
  split
  · exact h.changeQuiet
  · exact h

theorem lineStart (h : CauseInv s) (payload : List Byte) : CauseInv (lineStartAct payload s).state := by
  have hstart : CauseInv (if (tripInputs s).any then withMode .wrongMode (Machine.enterTripped (tripInputs s) s)
      else withMode .done (Machine.changeMode .run s)).state := by
    split
    · exact h.enterTripped _
    · exact h.changeMode _
  unfold lineStartAct
  split
  case h_1 | h_2 => exact hstart
  case h_3 => exact (h.discardStop _).changeMode _
  all_goals exact h

theorem lineStop (h : CauseInv s) (payload : List Byte) : CauseInv (lineStopAct payload s).state := by
  unfold lineStopAct
  split
  case h_1 =>
    refine changeMode ?_ _
    exact h.of_view rfl
  all_goals exact h

theorem tripRelease (h : CauseInv s) (payload : List Byte) : CauseInv (tripReleaseAct payload s).state := by
  unfold tripReleaseAct
  split
  · dsimp only
    split
    · exact h.of_view rfl
    · refine changeMode ?_ _
      exact h.of_view rfl
  · exact h

theorem rejectLot (h : CauseInv s) (payload : List Byte) : CauseInv (rejectLotAct payload s).state := by
  unfold rejectLotAct
  split
  · dsimp only
    split
    · exact h.of_view rfl
    · exact h
  · exact h

theorem loadOpen (h : CauseInv s) (payload : List Byte) : CauseInv (loadOpenAct payload s).state := by
  unfold loadOpenAct
  split
  · split
    · split
      · exact h
      · split
        · exact h
        · exact h.of_view (by simp [State.causeView, openSession, setSession])
    · exact h
  · exact h

theorem commit (h : CauseInv s) (payload : List Byte) : CauseInv (commitAct payload s).state := by
  have hset (b : Bank) : CauseInv (setPending b s) := by
    cases b <;> exact h.of_view rfl
  unfold commitAct
  split
  · split
    · split
      · exact h
      · split
        · exact h
        · split
          · exact h
          · exact hset _
    · exact h
  · exact h

theorem dryRun (h : CauseInv s) (payload : List Byte) : CauseInv (dryRunAct payload s).state := by
  have htake (on : Bool) {t : State} (ht : CauseInv t) : CauseInv (takeDryRun on t).state := by
    unfold takeDryRun
    dsimp only
    split
    · exact ht
    · exact changeFourQuiet (s := { t with handler := { t.handler with dryRun := on } }) (ht.of_view rfl) _
  unfold dryRunAct
  split
  · split
    · exact htake _ h
    · exact htake _ (h.of_view rfl)
  · exact h

/-- No request puts the causes out of agreement with the counts or the conditions. -/
theorem request {act : List Byte → State → Served} (ha : act ∈ requestActs) (payload : List Byte) (h : CauseInv s) :
    CauseInv (act payload s).state := by
  simp only [requestActs, List.mem_cons, List.not_mem_nil, or_false] at ha
  rcases ha with rfl | rfl | rfl | rfl | rfl | rfl | rfl | rfl | rfl | rfl | rfl | rfl | rfl | rfl | rfl | rfl | rfl |
    rfl | rfl | rfl | rfl | rfl
  · exact h.withUnit ⟨h.counts, h.limit⟩ fun _ _ => rfl
  · exact h.readCauses payload
  · rw [readRecordAct_state]; exact h
  · exact h.writeCrusher payload
  · exact h.writeFeeder payload
  · exact h.writeLine payload
  · exact h.setTarget payload
  · exact h.crusherEnable payload
  · exact h.crusherDisable payload
  · exact h.faultClear payload
  · exact indexed_keeps h (fun _ => h.changeQuiet) payload
  · exact h.lineStart payload
  · exact h.lineStop payload
  · exact h.tripRelease payload
  · exact h.rejectLot payload
  · exact h.loadOpen payload
  · exact h.commit payload
  · exact h.dryRun payload
  · simp only [deviceClearAct, answered]
    exact causeInv_clearCauses (clearCounters s)
  · simp only [warmRestartAct, answered, warmRestart_eq]
    exact causeInv_clearCauses (lineRestart (restartedBlocks s))
  · exact h
  · exact h

end CauseInv

theorem causeInv_powerOn (addr : BitVec 7) (rate : BitVec 3) (low : Bool) (s : State) :
    CauseInv (powerOn addr rate low s) :=
  causeInv_reset.of_view rfl

theorem causeInv_keptByBlocks : KeptByBlocks CauseInv where
  ports _ _ _ _ h := h.of_view rfl
  relay _ _ h := h.of_view rfl
  rewriter _ _ h := h.of_view rfl
  waiting _ _ h := h.of_view rfl
  raise _ x hx h := h.raised x hx
  rollMisses _ _ h := h.withUnit ⟨h.counts, h.limit⟩ fun _ _ => rfl
  timer _ _ h := h.of_view rfl
  reset s addr rate low _ := (causeInv_powerOn addr rate low s).takeTripInputs _
  pin _ _ h := CauseInv.evaluateTrip (h.of_view rfl)
  marker _ payload h := CauseInv.keptByTime.marker h payload
  expiry _ h := CauseInv.keptByTime.expiry h
  reply _ _ h := observe_keeps h (h.of_view rfl) fun a _ hu => hu.deliverArrival a
  session _ _ h := h.of_view (by simp [State.causeView])
  stream _ fn payload h := h.takeStream fn payload
  request _ ha payload _ h := h.request ha payload

/-- Settles O4: edge causes are raised and read without touching the level causes, each change of a condition takes its
cause with it, and the causes cleared are raised again as the conditions stand. -/
theorem causeInvariantKept : Obligations.CauseInvariantKept := fun _ _ h ht => causeInv_keptByBlocks.step h ht

end Sys2Proof.Machine
end

section
/-!
PROOF. STATUS_POLL (O24): the highest-priority pending cause, and the reply at the own address.
-/

namespace Sys2Proof.Machine

/-! ### The highest-priority pending cause (R186, R188) -/

theorem mem_pendingCauses {u : CauseUnit} {x : Cause} : x ∈ pendingCauses u ↔ (u.entry x).pending = true := by
  simp [pendingCauses, Cause.mem_all]

/-- The pending causes stand in the order of their codes. -/
theorem pendingCauses_sorted (u : CauseUnit) : (pendingCauses u).Pairwise fun x y => x.code.toNat ≤ y.code.toNat :=
  List.Pairwise.filter _ (by decide)

theorem Cause.code_ne_zero (x : Cause) : x.code ≠ 0 := by cases x <;> decide

/-- No cause is pending and the code is 0, or the code is that of the first in priority among the pending causes. -/
theorem topCause_cases (u : CauseUnit) :
    (topCause u = 0 ∧ ∀ x, (u.entry x).pending = false) ∨
      ∃ x, topCause u = x.code ∧ (u.entry x).pending = true ∧
        ∀ y, (u.entry y).pending = true → x.code.toNat ≤ y.code.toNat := by
  have hsorted := pendingCauses_sorted u
  unfold topCause
  cases hpending : pendingCauses u with
  | nil =>
    refine .inl ⟨rfl, fun x => Bool.eq_false_iff.2 fun hx => ?_⟩
    have hmem := mem_pendingCauses.2 hx
    rw [hpending] at hmem
    cases hmem
  | cons x rest =>
    rw [hpending] at hsorted
    refine .inr ⟨x, rfl, mem_pendingCauses.1 (hpending ▸ List.mem_cons_self), fun y hy => ?_⟩
    have hmem := mem_pendingCauses.2 hy
    rw [hpending] at hmem
    rcases List.mem_cons.1 hmem with rfl | hrest
    · exact Nat.le_refl _
    · exact List.rel_of_pairwise_cons hsorted hrest

theorem topCause_eq_zero {u : CauseUnit} : topCause u = 0 ↔ ∀ x, (u.entry x).pending = false := by
  rcases topCause_cases u with ⟨hzero, hnone⟩ | ⟨x, hcode, hx, -⟩
  · exact iff_of_true hzero hnone
  · exact iff_of_false (hcode ▸ x.code_ne_zero) fun hnone => by rw [hnone x] at hx; cases hx

theorem topCause_le {u : CauseUnit} {y : Cause} (hy : (u.entry y).pending = true) :
    (topCause u).toNat ≤ y.code.toNat := by
  rcases topCause_cases u with ⟨hzero, -⟩ | ⟨x, hcode, -, hfirst⟩
  · rw [hzero]; exact Nat.zero_le _
  · rw [hcode]; exact hfirst y hy

theorem topCause_pending {u : CauseUnit} (h : topCause u ≠ 0) :
    ∃ x, (u.entry x).pending = true ∧ topCause u = x.code := by
  rcases topCause_cases u with ⟨hzero, -⟩ | ⟨x, hcode, hx, -⟩
  · exact absurd hzero h
  · exact ⟨x, hx, hcode⟩

/-! ### The request (R173, R188) -/

theorem exec_statusPoll (dst src : Byte) (payload : List Byte) (s : State) :
    exec (.statusPoll dst src payload) s =
      .next (receiveAt .m payload (serveRequest 0x01 false statusPollAct dst src payload) s) := rfl

theorem statusPollAct_asked (s : State) (payload : List Byte) :
    statusPollAct payload s.asked =
      { state := { s.asked with causes := { s.causes with attention := false } }
        result := .done
        data :=
          [topCause s.causes, if s.causes.attention then 1 else 0, s.line.lineMode.code, s.tracker.lockState.code,
            (s.crusher 0).state.code, (s.crusher 1).state.code, (s.crusher 2).state.code, (s.crusher 3).state.code,
            if s.handler.dryRun then 1 else 0, s.causes.sequence] } := by
  have hfour : (four.map fun k => (s.crusher k).state.code) =
      [(s.crusher 0).state.code, (s.crusher 1).state.code, (s.crusher 2).state.code, (s.crusher 3).state.code] := rfl
  simp only [statusPollAct, statusData, codeFlag, State.asked_causes, State.asked_line, State.asked_tracker,
    State.asked_crusher, State.asked_dryRun, hfour, List.cons_append, List.nil_append]

/-- Settles O24: the reply at the own address is built of the state as it stood and clears attention; at address 0 and
the group address the request is not handed over. -/
theorem statusPoll : Obligations.StatusPoll := by
  intro s own src payload h
  refine ⟨topCause s.causes, ?_, topCause_eq_zero, fun _ => topCause_le, topCause_pending, fun hroom => ⟨?_, ?_⟩⟩
  · rw [exec_statusPoll, serve_own_answer h (statusPollAct_asked s payload) (congrArg Relay.mBound s.asked_relay)]
  · rw [exec_statusPoll, serve_broadcast h.fits (by rw [h.address]; exact fun ho => h.ne_zero (Option.some.inj ho))]
    exact congrArg Host.Outcome.next (joinF_of_room _ hroom)
  · intro group h0 hown hgroup
    rw [exec_statusPoll,
      serve_group h.fits (by rw [h.address]; exact fun ho => hown (Option.some.inj ho).symm) h0 hgroup]
    exact congrArg Host.Outcome.next (joinF_of_room _ (s.asked_relay ▸ hroom))

end Sys2Proof.Machine
end
